-- ==== Sys2Proof/Word.lean ====
section
/-! DEFINITION. The plainest types: a byte, and a table of numbered records of which some are in use. -/

namespace Sys2Proof

/-- One byte of a message, a buffer or a block. -/
abbrev Byte := BitVec 8

/-- A table of numbered records, each free or in use. The records in use stand in the list with their
index, indexes strictly rising; a record that is not listed is free. -/
abbrev Table (α : Type) := List (Nat × α)

end Sys2Proof
end

