-- ==== Sys2Proof/Config.lean ====
section
/-! DEFINITION. What the part fixes (table sizes, page sizes, polynomials) and the free values, which the
manual leaves open and no proof can see. -/

namespace Sys2Proof.Config

/-- Card records (R1). -/
def cards : Nat := 32
/-- Clip records (R13). -/
def clips : Nat := 1024
/-- Camera records (R15). -/
def cameras : Nat := 8
/-- Volume records (R77). -/
def volumes : Nat := 8
/-- Look records (R135). -/
def looks : Nat := 64
/-- Known-defect entries (R122). -/
def defects : Nat := 128
/-- Transfer slots, and the most one reader lane holds (R52). -/
def slots : Nat := 48
def slotsPerLane : Nat := 16
/-- Render queue entries (R155). -/
def renderQueue : Nat := 16
/-- Entries in a page of a list (R186). -/
def page : Nat := 12
def faultPage : Nat := 11
def renderPage : Nat := 10
/-- Bytes of a block header and of a block's payload (11.3). -/
def headerBytes : Nat := 64
def payloadBytes : Nat := 4194304
/-- Bytes of the request buffer and of the result buffer (R178). -/
def requestBytes : Nat := 64
def resultBytes : Nat := 256
/-- Blocks in one run of an erase (R71). -/
def eraseRun : Nat := 1024
/-- Elements in every proxy block of a frame but its last (11.4). -/
def proxyElements : Nat := 699050
/-- The verify guard's limit (R85). -/
def verifyGuard : Nat := 16

/-- FREE VALUE. A code measure (0 minimum, 1 maximum, 2 mean) of a sampled picture that has no element,
where R176 states none. Argument: the frame number and which measure. -/
opaque scopeOfNothing : Nat → Fin 3 → BitVec 10

/-- FREE VALUE. The clipped per mille of a sampled picture that has no element, where R176 states none. -/
opaque clippedOfNothing : Nat → Fin 1001

end Sys2Proof.Config
end

