-- ==== Sys2Proof/Syntax.lean ====
section
/-! DEFINITION. The commands of the part, one constructor for each row of spec/opcode_table.json, with their
operands. Numbers of a request are as its envelope carries them, in range or not: the owning block answers
RANGE (R182). -/

namespace Sys2Proof

/-- The identity of a card: camera letter (its ASCII code), roll and card serial (R1). -/
structure CardId where
  letter : Nat
  roll : Nat
  serial : BitVec 64
deriving DecidableEq, Repr

/-- A block in its stored form: a 64-byte header, a payload and a block check (11.3). The payload is
4,194,304 bytes long; `payload` lists its bytes up to the last one that is not 0. -/
structure Block where
  header : List Byte
  payload : List Byte
  check : BitVec 32
deriving DecidableEq, Repr

/-- How Lookup Card names a card (R18). -/
inductive CardRef
  | index (card : Nat)
  | identity (id : CardId)
deriving DecidableEq, Repr

/-- How Lookup Clip names a clip (R22); a name is its eight bytes. -/
inductive ClipRef
  | index (clip : Nat)
  | name (text : List Byte)
deriving DecidableEq, Repr

/-- The two forms of List Clips (R23). -/
inductive ClipScan
  | card (card start : Nat)
  | table (start : Nat)
deriving DecidableEq, Repr

/-- The two forms of List Open Faults (R133). -/
inductive FaultScan
  | clip (clip scope : Nat)
  | table (start : Nat)
deriving DecidableEq, Repr

/-- A plan as a request carries it: the count of its bounded list, the list's four slots, the required
copies and skip_marked (R10, R11, R201). -/
structure PlanArg where
  count : Nat
  slots : List Nat
  required : Nat
  skipMarked : Bool
deriving DecidableEq, Repr

/-- The blocks that take a port reset in events of their own (R189). -/
inductive ResetBlock
  | attention
  | render
  | channel (c : Fin 2)
  | reader (l : Fin 6)
  | dest (d : Fin 4)
  | tables
deriving DecidableEq, Repr

/-- How much of a port reset a command is (log 6): the port's event and every block's in one step, the port's event alone
(R188), or the event of one block that still has to take the reset (R189). -/
inductive ResetTurn
  | whole
  | port
  | block (b : ResetBlock)
deriving DecidableEq, Repr

/-- The commands. Go and Done carry the bits of the same write of the port control word that R181 takes before them; an
operand left out is a bit that is not set. A port reset with no operand is the whole one. -/
inductive Instr
  -- the whole part and the window
  | powerOnReset
  | portReset (turn : ResetTurn := .whole)
  | requestBufferWrite (offset : Nat) (bytes : List Byte)
  | portGo (done : Bool := false) (clear : Bool := false)
  | portDone (clear : Bool := false)
  | collisionClear
  | attentionMaskWordWrite (offset : Nat) (bytes : List Byte)
  | windowWriteIgnored (offset : Nat) (bytes : List Byte)
  -- card requests
  | lookupCard (card : CardRef)
  | listCards (start : Nat) (state : Option Nat)
  | setCardPlan (card : Nat) (plan : PlanArg)
  | setStandingPlan (plan : PlanArg)
  | startOffload (card : Nat)
  | stopOffload (card option : Nat)
  | clearTrip (card : Nat)
  | releaseCard (card : Nat)
  | eraseCard (card : Nat)
  | retireCard (card : Nat)
  | remount (lane : Nat)
  -- clip requests
  | lookupClip (clip : ClipRef)
  | listClips (scan : ClipScan)
  | waiveClip (clip : Nat)
  | unwaiveClip (clip : Nat)
  | assignLook (clip : Nat) (look : Option Nat)
  | listOpenFaults (scan : FaultScan)
  | acknowledgeFault (clip kind vol : Nat)
  -- copies
  | verifyCopy (clip vol : Nat)
  | recopy (clip vol : Nat)
  | setVerifyMode (vol mode : Nat)
  -- volumes
  | listVolumes (start : Nat)
  | lookupVolume (vol : Nat)
  | setRole (vol role : Nat)
  | eject (vol : Nat)
  | retireVolume (vol : Nat)
  -- lanes and units
  | setLaneMode (lane mode : Nat)
  | setLaneTimingReader (lane count exponent retry : Nat)
  | setLaneTimingDestination (lane count exponent : Nat)
  | resetUnit (unit : Nat)
  | senseUnit (unit : Nat)
  -- cameras
  | listCameras (start : Nat)
  | setCameraDefault (letter : Nat) (look : Option Nat)
  | retireCamera (letter : Nat)
  -- fault policy and known defects
  | setPolicy (kind : Nat) (enabled holds : Bool) (trip first second : Nat)
  | readPolicy (kind : Nat)
  | addDefect (letter x y xmask ymask : Nat)
  | removeDefect (index : Nat)
  | listDefects (start : Nat) (letter : Option Nat)
  | adoptDefect (clip : Nat)
  | senseFaults
  -- looks
  | createLook (tag : List Byte) (look : Option Nat)
  | readLook (look : Nat)
  | stageParameter (look param : Nat) (value : Int)
  | setCommitMask (look : Nat) (params : BitVec 16)
  | commitLook (look : Nat)
  | discardStaging (look : Nat)
  | retireLook (look : Nat)
  -- rendering
  | enqueueRender (clip : Nat) (look : Option Nat) (target : Nat)
  | cancelRender (tag : Nat)
  | listRenderQueue (start : Nat)
  -- preview
  | bindPreview (channel clip : Nat) (look : Option Nat)
  | unbindPreview (channel : Nat)
  | play (channel : Nat) (loop : Bool)
  | pause (channel : Nat)
  | seek (channel frame : Nat)
  | readScope (channel : Nat)
  -- attention
  | setMask (mask : BitVec 16)
  | senseCustody
  -- reader link
  | readerLinkUp (lane : Fin 6)
  | readerLinkDown (lane : Fin 6)
  | presenceNotice (lane : Fin 6) (tag : Option Byte) (present locked : Bool) (count : Byte)
  | blockAnswer (lane : Fin 6) (tag : Byte) (block : Block)
  | holdAnswer (lane : Fin 6) (tag : Byte)
  | readerFaultAnswer (lane : Fin 6) (tag : Byte) (code : BitVec 16)
  | reinitAnswer (lane : Fin 6) (tag : Byte) (ready : Bool)
  | eraseAnswer (lane : Fin 6) (tag : Byte)
  | unknownReaderMessage (lane : Fin 6) (type : Byte) (bytes : List Byte)
  | readerStallExpiry (lane : Fin 6)
  -- volume link
  | arrivalNotice (lane : Fin 4)
  | detachNotice (lane : Fin 4)
  | volumeLinkDown (lane : Fin 4)
  | identifyAnswer (lane : Fin 4) (tag : Byte) (label : List Byte) (serial : BitVec 64) (isProtected : Bool) (free : Nat)
  | writeAnswer (lane : Fin 4) (tag : Byte) (stored : Bool) (free : Nat)
  | readAnswer (lane : Fin 4) (tag : Byte) (block : Option Block)
  | releaseAnswer (lane : Fin 4) (tag : Byte) (freed free : Nat)
  | ejectAnswer (lane : Fin 4) (tag : Byte)
  | volumeFaultAnswer (lane : Fin 4) (tag : Byte) (code : BitVec 16)
  | freeReport (lane : Fin 4) (free : Nat)
  | unknownVolumeMessage (lane : Fin 4) (type : Byte) (bytes : List Byte)
  | destStallExpiry (lane : Fin 4)
  -- video output
  | outputFrameRequest (channel : Fin 2)
deriving DecidableEq, Repr

end Sys2Proof
end

