-- ==== Sys2Proof/Decode.lean ====
section
/-! DEFINITION. The commands that a word of spec/opcode_table.json spells. No row of the table gives any bits, so no word
spells a command: the commands come from the window and the links, and the envelope of a request is decoded by GO
(Machine/Envelope.lean). -/

namespace Sys2Proof

/-- The command that a word spells by the table's bits: none, for the table gives no row any bits. -/
def decodeTableWord (_nbits _w : Nat) : Option Instr := none

end Sys2Proof
end

