-- ==== Sys2Proof/Machine/State.lean ====
section
/-! DEFINITION. The state of the part as plain data: the port, the eleven blocks, the queue of waiting commands;
the faults and refusals of a step; and the state after power-on reset. -/

namespace Sys2Proof.Machine

/-- Why a step can fault. The manual stops the part on no command (R183, R185: a refusal is a result), so no
constructor exists and no meaning answers with a fault. -/
inductive Fault
deriving DecidableEq, Repr

/-- Why a step can be refused. -/
inductive Refusal
  /-- Raised by an arm of `exec` whose command has no meaning yet. Safe: the model stops. -/
  | notModelled (mnemonic : String)
deriving DecidableEq, Repr

/-! ### Custody Tables (01) -/

/-- The seven card states (R1), in the order of their codes (11.5). -/
inductive CardState
  | ready | offloading | tripped | held | secured | released | erasing
deriving DecidableEq, Repr

/-- A plan (1.4): volumes in order, required copies, skip_marked. -/
structure Plan where
  volumes : List Nat
  required : Nat
  skipMarked : Bool
deriving DecidableEq, Repr

/-- A card record in use (R1). -/
structure Card where
  id : CardId
  state : CardState
  lane : Option (Fin 6)
  writeProtected : Bool
  plan : Plan
  clips : List Nat
  erased : Bool
  eraseIncomplete : Bool
  nextPos : Nat
  copied : Nat
  failed : Nat
  skipped : Nat
deriving DecidableEq, Repr

/-- Hours, minutes, seconds and frames as four bytes carry them (R201). -/
structure Timecode where
  hours : Nat
  minutes : Nat
  seconds : Nat
  frames : Nat
deriving DecidableEq, Repr

inductive WaiveCause
  | host | cameraMark
deriving DecidableEq, Repr

inductive Custody
  | normal
  | waived (cause : WaiveCause)
deriving DecidableEq, Repr

inductive Mismatch
  | digest | unreadable
deriving DecidableEq, Repr

/-- The five states of a copy entry; the mismatch detail is present in FAILED alone (R14, R93). -/
inductive CopyState
  | writing | written | verifying | verified
  | failed (detail : Mismatch)
deriving DecidableEq, Repr

inductive Origin
  | offload | recopy
deriving DecidableEq, Repr

/-- A copy entry (R14). -/
structure Copy where
  vol : Nat
  state : CopyState
  origin : Origin
deriving DecidableEq, Repr

/-- The eight fault kinds in key order (6.1). -/
inductive FaultKind
  | stuckSite | clipHigh | blackFrame | frameGap | sourceMismatch | copyMismatch | readError | headerMismatch
deriving DecidableEq, Repr

inductive FaultState
  | opened | acknowledged
deriving DecidableEq, Repr

inductive FaultDetail
  | block (number : Nat)
  | mismatch (detail : Mismatch)
deriving DecidableEq, Repr

/-- A fault entry (R110). `vol` is part of the key for COPY_MISMATCH and 0 for the other kinds. -/
structure FaultEntry where
  kind : FaultKind
  vol : Nat
  state : FaultState
  count : Nat
  saturated : Bool
  firstFrame : Option Nat
  firstSite : Option (Nat × Nat)
  detail : Option FaultDetail
deriving DecidableEq, Repr

/-- A clip's proxy (R13, R163): the look and the version are absent for a render with no look. -/
structure Proxy where
  vol : Nat
  look : Option Nat
  version : Option Nat
  frames : Nat
deriving DecidableEq, Repr

/-- A clip record in use (R13). `ident` is the identity of its card: the letter and the roll are the name's. -/
structure Clip where
  card : Nat
  ident : CardId
  number : Nat
  firstBlock : Nat
  blockCount : Nat
  frameCount : Nat
  start : Timecode
  rate : Nat
  marked : Bool
  cameraDigest : Option (BitVec 64)
  ingestDigest : Option (BitVec 64)
  custody : Custody
  look : Option Nat
  copies : List Copy
  faults : List FaultEntry
  proxy : Option Proxy
  trackerOverflow : Bool
deriving DecidableEq, Repr

/-- A camera record in use (R15). -/
structure Camera where
  letter : Nat
  body : BitVec 64
  defaultLook : Option Nat
deriving DecidableEq, Repr

/-! ### Termination records (10) -/

inductive TermClass
  | normal | abnormal | readyChanged
deriving DecidableEq, Repr

inductive Operation
  | mount | offload | erase | identify | verify | recopy | render | playback
deriving DecidableEq, Repr

/-- The causes of R191, each name once; its code depends on the operation (11.5). -/
inductive Cause
  | mounted | blankCard | identityConflict | duplicatePresent | cameraTableFull | cardTableFull | clipTableFull
  | directoryUnreadable | planInvalidAtMount | stalled | equipmentCheck | cardRemoved
  | complete | stoppedAtClip | stopped | tripped | noDestination
  | erased
  | attached | volumeTableFull
  | verified | mismatch | volumeDetached
  | recopied | noSourceLeft | destFull
  | sourceLost | destDetached | cancelled
  | endOfClip
deriving DecidableEq, Repr

/-- Where a recopy reads from (R103). -/
inductive RecopySource
  | volume (vol : Nat)
  | card (lane : Fin 6) (card : Nat)
deriving DecidableEq, Repr

/-- What a termination names (R191). -/
inductive Reference
  | none
  | card (card : Nat)
  | identity (id : CardId)
  | copy (clip vol : Nat)
  | recopy (clip target : Nat) (source : RecopySource)
  | volume (vol : Nat)
  | volumeIdentity (label : List Byte) (serial : BitVec 64)
  | render (tag clip target source : Nat)
  | clip (clip : Nat)
  | clipFrame (clip frame : Nat)
deriving DecidableEq, Repr

/-- The optional detail of a termination (R191). -/
inductive Detail
  | none
  | code (fault : BitVec 16)
  | trip (kind : FaultKind) (count : Nat)
  | look (used : Option (Nat × Nat))
  | mismatch (detail : Mismatch) (block : Nat)
  | header (block : Nat)
  | equipment (block : Nat)
deriving DecidableEq, Repr

/-- A termination record (R191), its unsensed flag apart. -/
structure Termination where
  cls : TermClass
  op : Operation
  cause : Cause
  ref : Reference
  counts : List Nat
  detail : Detail
deriving DecidableEq, Repr

/-- What a unit holds for the host: its record if it left one, and the unsensed flag. -/
structure TermSlot where
  record : Option Termination
  unsensed : Bool
deriving DecidableEq, Repr

/-! ### Links, blocks in flight and pictures -/

/-- A copy key (4.1): card identity, clip number, and whether it is the PROXY. -/
structure CopyKey where
  id : CardId
  number : Nat
  proxy : Bool
deriving DecidableEq, Repr

/-- A proxy block: its 64-byte header, its payload and its block check (11.4). -/
structure ProxyBlock where
  header : List Byte
  payload : List Byte
  check : BitVec 32
deriving DecidableEq, Repr

/-- What a Write Request carries. -/
inductive Stored
  | copy (block : Block)
  | proxy (block : ProxyBlock)
deriving DecidableEq, Repr

/-- A step of an Erase Request: a run of blocks, or the header form (R71). -/
inductive EraseForm
  | run (first count : Nat)
  | header
deriving DecidableEq, Repr

/-- A reader link request that the retry procedure can send again (R33, R72). -/
inductive ReaderStep
  | block (number : Nat)
  | erase (form : EraseForm)
deriving DecidableEq, Repr

/-- The requests of a reader link (R29); a Reinit Request keeps the step it retries. -/
inductive ReaderRequest
  | presence
  | step (step : ReaderStep)
  | reinit (again : ReaderStep)
deriving DecidableEq, Repr

/-- Whose request a reader link request is (R34). -/
inductive ReaderOwner
  | presence
  | mount
  | offload
  | erase
  | recopy (target : Fin 4)
  | preview (channel : Fin 2)
deriving DecidableEq, Repr

/-- The outstanding request of a reader lane. `timer` is the stall time in milliseconds it is timed by, or none
when the timer is disabled (R34). -/
structure ReaderOut where
  tag : Byte
  request : ReaderRequest
  owner : ReaderOwner
  timer : Option Nat
deriving DecidableEq, Repr

/-- Whose a Write Request is (R84). `late` is a write whose requester has gone. -/
inductive WriteOwner
  | slot (id : Nat)
  | recopy
  | render
  | late
deriving DecidableEq, Repr

/-- Whose a Read Request is. `dropped` is a read withdrawn after it was sent. -/
inductive ReadOwner
  | preview (channel : Fin 2)
  | recopy (target : Fin 4)
  | sweep
  | explicit
  | render
  | dropped
deriving DecidableEq, Repr

/-- The requests of a volume link (R75). -/
inductive VolumeRequest
  | identify
  | write (owner : WriteOwner) (key : CopyKey) (index : Nat) (block : Stored)
  | read (owner : ReadOwner) (key : CopyKey) (index : Nat)
  | release (key : CopyKey)
  | eject
deriving DecidableEq, Repr

structure VolumeOut where
  tag : Byte
  request : VolumeRequest
  timer : Option Nat
deriving DecidableEq, Repr

/-- A picture: elements across and down, and their red, green and blue codes in row order (R161). -/
structure Picture where
  width : Nat
  height : Nat
  elements : List (Nat × Nat × Nat)
deriving DecidableEq, Repr

/-- A frame being gathered from blocks (R117, R161): the blocks so far, their joined frame data, and the timecode
and picture size of the first block's header. -/
structure FrameAcc where
  blocks : Nat
  data : List Byte
  timecode : Timecode
  width : Nat
  height : Nat
deriving DecidableEq, Repr

/-! ### Reader lanes (02, 03, 06) -/

/-- The nine lane states, in the order of R31. -/
inductive ReaderState
  | noReader | empty | mounting | blank | refused | bound | offloading | erasing | equipment
deriving DecidableEq, Repr

inductive LaneMode
  | manual | auto
deriving DecidableEq, Repr

/-- A site tracker that is not FREE (R120). -/
structure Tracker where
  x : Nat
  y : Nat
  code : Nat
  run : Nat
  first : Nat
  suspect : Bool
deriving DecidableEq, Repr

/-- An entry of the pending fault buffer (R129). -/
structure PendingFault where
  kind : FaultKind
  count : Nat
  saturated : Bool
  firstFrame : Nat
  firstSite : Option (Nat × Nat)
deriving DecidableEq, Repr

/-- The analyzer's state (R119): 16 trackers, none meaning FREE; the buffer in key order. -/
structure Analyzer where
  acc : FrameAcc
  trackers : List (Option Tracker)
  clipRun : Nat
  clipArmed : Bool
  blackRun : Nat
  blackArmed : Bool
  reference : Option Timecode
  closed : Nat
  buffer : List PendingFault
deriving DecidableEq, Repr

/-- What the part reads from a card header (11.3). -/
structure CardHeader where
  id : CardId
  body : BitVec 64
  clipCount : Nat
  blocks : Nat
  width : Nat
  height : Nat
deriving DecidableEq, Repr

/-- The current clip of an offload (R48): `reread` is its ingest kind, `next` the card block to be read next. `barred` is
the model's own: the fan-out was empty when it was formed, so the clip counts toward no progress count (R50). -/
structure Current where
  clip : Nat
  pos : Nat
  reread : Bool
  fanOut : List Nat
  barred : Bool
  digest : BitVec 64
  next : Nat
deriving DecidableEq, Repr

/-- A clip read by the offload whose fan-out entries have not all left WRITING (R59): the volumes still WRITING,
and whether one became WRITTEN. -/
structure Tally where
  clip : Nat
  volumes : List Nat
  written : Bool
deriving DecidableEq, Repr

/-- The offload context (R48). `done` is set once the reading is done, and says whether AT_CLIP made it so. -/
structure OffloadCtx where
  card : Nat
  current : Option Current
  stop : Bool
  done : Option Bool
  tally : List Tally
deriving DecidableEq, Repr

/-- The erase in flight: the Erase Request to be answered next, and the blocks erased (R71). -/
structure EraseCtx where
  card : Nat
  form : EraseForm
  erased : Nat
deriving DecidableEq, Repr

/-- A preview read waiting on a reader lane (R35). -/
structure CardRead where
  channel : Fin 2
  block : Nat
deriving DecidableEq, Repr

/-- A reader lane (R31). `mount` is the mount in flight: the header once it is read. `serves` is the recopy service
mark with the lane the recopy targets. `remountOwed` is set while a reset's Presence Request decides a mount (R44). -/
structure ReaderLane where
  state : ReaderState
  mode : LaneMode
  retryLimit : Nat
  stallCount : Nat
  stallExp : Nat
  slotPresent : Bool
  slotLocked : Bool
  slotCount : Byte
  mountPending : Bool
  serves : Option (Fin 4)
  out : Option ReaderOut
  nextTag : Byte
  retries : Nat
  readLimit : Nat
  reinitFails : Nat
  previews : List CardRead
  presenceOwed : Bool
  remountOwed : Bool
  mount : Option (Option CardHeader)
  blocks : Nat
  width : Nat
  height : Nat
  lastFault : Option (BitVec 16)
  trips : List Nat
  offload : Option OffloadCtx
  erase : Option EraseCtx
  analyzer : Analyzer
  term : TermSlot
  changed : Bool
deriving DecidableEq, Repr

/-! ### Transfer Pool (3.3) -/

/-- A write of a slot (R52). `orphan` is set when its copy entry has been removed (R61) or its recopy has ended (R108). -/
structure SlotWrite where
  vol : Nat
  started : Bool
  orphan : Bool
deriving DecidableEq, Repr

/-- A held slot (R52). `data` is present in block state PRESENT; `index` is the block's index within the clip. -/
structure Slot where
  id : Nat
  lane : Fin 6
  clip : Nat
  key : CopyKey
  block : Nat
  index : Nat
  recopy : Bool
  data : Option Block
  writes : List SlotWrite
deriving DecidableEq, Repr

/-- The held slots in the order they were granted, and the slot queue. -/
structure Pool where
  slots : List Slot
  queue : List (Fin 6)
deriving DecidableEq, Repr

/-! ### Volumes and destination lanes (04, 05) -/

inductive Role
  | archive | proxy
deriving DecidableEq, Repr

inductive Attachment
  | online | onlineReadonly | detached
deriving DecidableEq, Repr

inductive VerifyMode
  | auto | paused
deriving DecidableEq, Repr

/-- A volume record in use (R77). -/
structure Volume where
  label : List Byte
  serial : BitVec 64
  role : Role
  lane : Option (Fin 4)
  attach : Attachment
  free : Nat
  mode : VerifyMode
  verifyList : List Nat
deriving DecidableEq, Repr

/-- The six lane states, in the order of R76. -/
inductive DestState
  | empty | identifying | online | full | onlineReadonly | refused
deriving DecidableEq, Repr

/-- A verify in flight (R95). `prior` is the state of the entry before it. -/
structure VerifyCtx where
  clip : Nat
  vol : Nat
  prior : CopyState
  next : Nat
  digest : BitVec 64
  read : Nat
deriving DecidableEq, Repr

/-- A recopy in flight, held by its target's lane (R103). `next` is the index of the next block to read. -/
structure RecopyCtx where
  clip : Nat
  target : Nat
  source : RecopySource
  next : Nat
  digest : BitVec 64
  written : Nat
deriving DecidableEq, Repr

/-- The explicit operation of a lane (R100, R102). -/
inductive ExplicitOp
  | verify (ctx : VerifyCtx)
  | recopy (ctx : RecopyCtx)
deriving DecidableEq, Repr

/-- How far an offload copy has been written on the lane's volume: blocks, and the clip digest of them (R59). -/
structure CopyProgress where
  clip : Nat
  written : Nat
  digest : BitVec 64
deriving DecidableEq, Repr

/-- A preview read waiting in the arbiter. -/
structure PreviewItem where
  channel : Fin 2
  key : CopyKey
  index : Nat
deriving DecidableEq, Repr

/-- The recopy class of the arbiter (R84): source reads for another lane, writes of a recopy from a volume, and
writes of a recopy from a card, whose block stands in a slot. -/
inductive RecopyItem
  | read (target : Fin 4) (key : CopyKey) (index : Nat)
  | write (key : CopyKey) (index : Nat) (block : Block)
  | slot (id : Nat)
deriving DecidableEq, Repr

/-- A verify read waiting, of the explicit Verify Copy or of the sweep. -/
structure VerifyItem where
  explicit : Bool
  key : CopyKey
  index : Nat
deriving DecidableEq, Repr

inductive RenderItem
  | read (key : CopyKey) (index : Nat)
  | write (key : CopyKey) (index : Nat) (block : ProxyBlock)
deriving DecidableEq, Repr

/-- A destination lane (R76). `robin` is the reader lane at which the round-robin search begins (R84); the offload
queues are the WAITING writes of PRESENT slots. `reidentify` is set from a unit reset with a volume bound until the
Identify Answer (R90); `ejectOwed` until the Eject Request of R88 is sent. -/
structure DestLane where
  state : DestState
  present : Bool
  identifyPending : Bool
  out : Option VolumeOut
  nextTag : Byte
  stallCount : Nat
  stallExp : Nat
  reidentify : Bool
  ejectOwed : Bool
  release : List CopyKey
  robin : Fin 6
  guard : Nat
  previews : List PreviewItem
  recopies : List RecopyItem
  verifies : List VerifyItem
  renders : List RenderItem
  progress : List CopyProgress
  sweep : Option VerifyCtx
  explicit : Option ExplicitOp
  term : TermSlot
  changed : Bool
deriving DecidableEq, Repr

/-! ### Fault Unit (06) -/

/-- A fault policy entry (R115); the thresholds are 0 for a kind that has none. -/
structure Policy where
  enabled : Bool
  holds : Bool
  trip : Nat
  first : Nat
  second : Nat
deriving DecidableEq, Repr

/-- A known-defect entry in use (R122). -/
structure Defect where
  letter : Nat
  x : Nat
  y : Nat
  xmask : Nat
  ymask : Nat
  hits : Nat
deriving DecidableEq, Repr

/-- The Fault Unit: the policy table in key order, the map, the open-fault counter and the sensed mark (R114). -/
structure FaultUnit where
  policy : List Policy
  defects : Table Defect
  opened : BitVec 16
  mark : BitVec 16
deriving DecidableEq, Repr

/-! ### Look Engine (07) -/

/-- A version slot (R135): twelve values counted in steps, a version and a pin count. -/
structure LookSlot where
  values : List Int
  version : Nat
  pins : Nat
deriving DecidableEq, Repr

/-- An ACTIVE look (R135) with its four reference counts. -/
structure Look where
  tag : List Byte
  staging : List Int
  mask : BitVec 12
  live : LookSlot
  held : Option LookSlot
  refClips : Nat
  refCameras : Nat
  refRenders : Nat
  refChannels : Nat
deriving DecidableEq, Repr

/-! ### Render engine and preview channels (08) -/

/-- A render queue entry (R155); the entry that the context names is RENDERING. -/
structure RenderEntry where
  tag : Nat
  clip : Nat
  look : Option Nat
  target : Nat
deriving DecidableEq, Repr

/-- The render context (R160). `used` is the look and the version pinned; `writes` are the proxy blocks of the closed
frame whose Write Answer is still to come, the first of them queued or sent; `lastFrame` says that the clip's last block
closed it. -/
structure RenderCtx where
  tag : Nat
  clip : Nat
  source : Nat
  target : Nat
  used : Option (Nat × Nat)
  nextSource : Nat
  acc : FrameAcc
  nextProxy : Nat
  frames : Nat
  proxyBlocks : Nat
  sourceBlocks : Nat
  writes : List ProxyBlock
  lastFrame : Bool
deriving DecidableEq, Repr

/-- The render engine (R155): RENDERING exactly while it holds a context. -/
structure RenderEngine where
  queue : List RenderEntry
  nextTag : Nat
  active : Option RenderCtx
  term : TermSlot
deriving DecidableEq, Repr

/-- The four channel states, in the order of R167. -/
inductive ChannelState
  | idle | paused | playing | noSource
deriving DecidableEq, Repr

/-- A preview source (R168): a volume, or the clip's card. -/
inductive Source
  | volume (vol : Nat)
  | card (card : Nat)
deriving DecidableEq, Repr

/-- A frame formed by a channel: its number, whether the clip's last block closed it, the index of the block after it,
and its input picture. -/
structure Frame where
  number : Nat
  last : Bool
  after : Nat
  picture : Picture
deriving DecidableEq, Repr

/-- What a channel reads for (R170, R172, R173): nothing; the frame at its position, sought or not yet shown; the frame at
its position once more after a re-selection, though it is the shown frame; or the frame after the shown one. -/
inductive Goal
  | nothing
  | shown (frame : Nat)
  | again
  | next
deriving DecidableEq, Repr

/-- The measures of a sampled frame (R176). -/
structure Scope where
  frame : Nat
  look : Option Nat
  version : Option Nat
  low : Nat
  high : Nat
  mean : Nat
  clipped : Nat
deriving DecidableEq, Repr

/-- A preview channel (R167). `cursor` is the block index to be read next, `number` the number of the frame being
gathered in `acc`, and `reading` says that a read is waiting or sent. -/
structure Channel where
  state : ChannelState
  clip : Option Nat
  override : Option Nat
  position : Nat
  loop : Bool
  source : Option Source
  shown : Option Frame
  next : Option Frame
  goal : Goal
  cursor : Nat
  number : Nat
  acc : FrameAcc
  reading : Bool
  scope : Option Scope
  armed : Bool
  term : TermSlot
deriving DecidableEq, Repr

/-! ### Attention Unit, port, whole state (09, 10) -/

/-- The Attention Unit (R195, R198, R199); the pending bits of the units are their own flags. -/
structure Attention where
  custody : Bool
  faults : Bool
  mask : BitVec 15
  vector : Nat
deriving DecidableEq, Repr

/-- What the part sends: a reader link request, a volume link request, an interrupt message with its vector, a video
frame (none is the black frame of R170). -/
inductive Message
  | reader (lane : Fin 6) (tag : Byte) (request : ReaderRequest)
  | volume (lane : Fin 4) (tag : Byte) (request : VolumeRequest)
  | interrupt (vector : Nat)
  | video (channel : Fin 2) (picture : Option Picture)
deriving DecidableEq, Repr

/-- Every block of the part but the Request Port. `outbox` is the model's own: the messages the last command sent. -/
structure Part where
  cards : Table Card
  clips : Table Clip
  cameras : Table Camera
  standing : Plan
  readers : Vector ReaderLane 6
  pool : Pool
  dests : Vector DestLane 4
  volumes : Table Volume
  fault : FaultUnit
  looks : Table Look
  render : RenderEngine
  channels : Vector Channel 2
  attention : Attention
  outbox : List Message
deriving DecidableEq, Repr

/-- A request handed to its owning block: the identifier and reference bytes of its envelope, and the request (R179). -/
structure Dispatch where
  identifier : Byte
  refLow : Byte
  refHigh : Byte
  request : Instr
deriving DecidableEq, Repr

/-- The port state; the outstanding dispatch is present exactly while the port is BUSY (R179). -/
inductive PortState
  | idle
  | busy (dispatch : Dispatch)
  | result
deriving DecidableEq, Repr

/-- The Request Port (R178, R179). -/
structure Port where
  state : PortState
  collision : Bool
  sequence : Byte
  request : List Byte
  result : List Byte
deriving DecidableEq, Repr

/-- The whole state: the commands that wait, first in, first out; the port; the other blocks; and the blocks that still
have to take a port reset in events of their own (R189), which is the model's own field (log 6). -/
structure State where
  pending : List Instr
  port : Port
  part : Part
  owed : List ResetBlock
deriving DecidableEq, Repr

/-! ### Power-on reset -/

/-- No record held (R191). -/
def TermSlot.none : TermSlot := { record := Option.none, unsensed := false }

def Timecode.zero : Timecode := { hours := 0, minutes := 0, seconds := 0, frames := 0 }

/-- No block gathered. -/
def FrameAcc.start : FrameAcc := { blocks := 0, data := [], timecode := Timecode.zero, width := 0, height := 0 }

/-- The analyzer cleared (R119): trackers FREE, runs 0, both detectors armed, reference none, frames closed 0, buffer
empty. -/
def Analyzer.cleared : Analyzer :=
  { acc := FrameAcc.start, trackers := List.replicate 16 none, clipRun := 0, clipArmed := true, blackRun := 0,
    blackArmed := true, reference := none, closed := 0, buffer := [] }

/-- A reader lane after power-on (R46). -/
def ReaderLane.reset : ReaderLane :=
  { state := .noReader, mode := .manual, retryLimit := 3, stallCount := 100, stallExp := 3,
    slotPresent := false, slotLocked := false, slotCount := 0, mountPending := false, serves := none, out := none,
    nextTag := 0, retries := 0, readLimit := 0, reinitFails := 0, previews := [], presenceOwed := false,
    remountOwed := false, mount := none, blocks := 0, width := 0, height := 0, lastFault := none,
    trips := List.replicate 8 0, offload := none, erase := none, analyzer := Analyzer.cleared,
    term := TermSlot.none, changed := false }

/-- A destination lane after power-on (R92). -/
def DestLane.reset : DestLane :=
  { state := .empty, present := false, identifyPending := false, out := none, nextTag := 0, stallCount := 100,
    stallExp := 3, reidentify := false, ejectOwed := false, release := [], robin := 0, guard := 0, previews := [],
    recopies := [], verifies := [], renders := [], progress := [], sweep := none, explicit := none,
    term := TermSlot.none, changed := false }

/-- A preview channel after power-on (R167). -/
def Channel.reset : Channel :=
  { state := .idle, clip := none, override := none, position := 0, loop := false, source := none, shown := none,
    next := none, goal := .nothing, cursor := 0, number := 0, acc := FrameAcc.start, reading := false, scope := none,
    armed := false, term := TermSlot.none }

/-- The fault policy after power-on, in key order (R115). -/
def FaultUnit.policyReset : List Policy :=
  [ { enabled := true, holds := false, trip := 0, first := 48, second := 200 },
    { enabled := true, holds := false, trip := 0, first := 50, second := 12 },
    { enabled := true, holds := false, trip := 0, first := 16, second := 2 },
    { enabled := true, holds := true, trip := 0, first := 0, second := 0 },
    { enabled := true, holds := true, trip := 3, first := 0, second := 0 },
    { enabled := true, holds := true, trip := 0, first := 0, second := 0 },
    { enabled := true, holds := true, trip := 4, first := 0, second := 0 },
    { enabled := true, holds := true, trip := 2, first := 0, second := 0 } ]

/-- The blocks after power-on reset (R27, R46, R74, R92, R109, R134, R153, R155, R167, R200). -/
def Part.reset : Part :=
  { cards := [], clips := [], cameras := [],
    standing := { volumes := [], required := 0, skipMarked := false },
    readers := Vector.replicate 6 ReaderLane.reset,
    pool := { slots := [], queue := [] },
    dests := Vector.replicate 4 DestLane.reset,
    volumes := [],
    fault := { policy := FaultUnit.policyReset, defects := [], opened := 0, mark := 0 },
    looks := [],
    render := { queue := [], nextTag := 0, active := none, term := TermSlot.none },
    channels := Vector.replicate 2 Channel.reset,
    attention := { custody := false, faults := false, mask := BitVec.allOnes 15, vector := 15 },
    outbox := [] }

/-- The port after power-on reset (R190). -/
def Port.reset : Port :=
  { state := .idle, collision := false, sequence := 0, request := List.replicate Config.requestBytes 0,
    result := List.replicate Config.resultBytes 0 }

/-- The state after power-on reset, with no command waiting. -/
def State.reset : State := { pending := [], port := Port.reset, part := Part.reset, owed := [] }

end Sys2Proof.Machine
end

