-- ==== Sys2Proof/Machine/Ops.lean ====
section
/-! DEFINITION. The named operations over the state that every block uses: tables of records, the units, the messages a
lane sends, and what the part looks up across its tables. -/

namespace Sys2Proof.Machine

/-! ### Tables -/

/-- The record in use at an index, if any. -/
def tget {α : Type} : Table α → Nat → Option α
  | [], _ => none
  | (k, v) :: t, i => if k = i then some v else tget t i

/-- Takes an index into use with a record, or replaces the record there. -/
def tset {α : Type} : Table α → Nat → α → Table α
  | [], i, x => [(i, x)]
  | (k, v) :: t, i, x =>
    if i < k then (i, x) :: (k, v) :: t
    else if i = k then (i, x) :: t
    else (k, v) :: tset t i x

/-- Frees an index. -/
def tdel {α : Type} (t : Table α) (i : Nat) : Table α := t.filter fun e => e.1 != i

/-- Changes the record at an index, if it is in use. -/
def tmod {α : Type} (t : Table α) (i : Nat) (f : α → α) : Table α :=
  t.map fun e => if e.1 = i then (e.1, f e.2) else e

/-- The lowest free index among the `fuel` indexes from `i` on. -/
def tfreeFrom {α : Type} (t : Table α) (i : Nat) : Nat → Option Nat
  | 0 => none
  | fuel + 1 => if (tget t i).isNone then some i else tfreeFrom t (i + 1) fuel

/-- The lowest free index of a table of `n` records. -/
def tfree {α : Type} (t : Table α) (n : Nat) : Option Nat := tfreeFrom t 0 n

/-- The canonical form of a table of `n` records: indexes strictly rising and below `n`. -/
def twf {α : Type} (n : Nat) : Table α → Bool
  | [] => true
  | [(k, _)] => decide (k < n)
  | (k, _) :: (j, w) :: t => decide (k < j) && twf n ((j, w) :: t)

/-! ### Lists -/

/-- Adds an element at the tail unless the list holds it. -/
def addOnce {α : Type} [DecidableEq α] (xs : List α) (x : α) : List α := if x ∈ xs then xs else xs ++ [x]

/-- Changes the entries that satisfy a test. -/
def modWhere {α : Type} (xs : List α) (test : α → Bool) (f : α → α) : List α :=
  xs.map fun x => if test x then f x else x

/-! ### Units -/

def allReaders : List (Fin 6) := [0, 1, 2, 3, 4, 5]
def allDests : List (Fin 4) := [0, 1, 2, 3]
def allChannels : List (Fin 2) := [0, 1]
def allVolumes : List Nat := [0, 1, 2, 3, 4, 5, 6, 7]

/-- A lane or channel by its number in a request, none when it is out of range. -/
def unitAt (n i : Nat) : Option (Fin n) := if h : i < n then some ⟨i, h⟩ else none

def Part.reader (p : Part) (l : Fin 6) : ReaderLane := p.readers.get l
def Part.dest (p : Part) (d : Fin 4) : DestLane := p.dests.get d
def Part.channel (p : Part) (c : Fin 2) : Channel := p.channels.get c

def Part.modReader (p : Part) (l : Fin 6) (f : ReaderLane → ReaderLane) : Part :=
  { p with readers := p.readers.set l.val (f (p.reader l)) l.isLt }
def Part.modDest (p : Part) (d : Fin 4) (f : DestLane → DestLane) : Part :=
  { p with dests := p.dests.set d.val (f (p.dest d)) d.isLt }
def Part.modChannel (p : Part) (c : Fin 2) (f : Channel → Channel) : Part :=
  { p with channels := p.channels.set c.val (f (p.channel c)) c.isLt }

/-- Runs an operation for each element of a list in turn. -/
def Part.each {α : Type} (p : Part) (xs : List α) (f : Part → α → Part) : Part := xs.foldl f p

/-! ### Records -/

def Part.card (p : Part) (i : Nat) : Option Card := tget p.cards i
def Part.clip (p : Part) (i : Nat) : Option Clip := tget p.clips i
def Part.volume (p : Part) (v : Nat) : Option Volume := tget p.volumes v
def Part.look (p : Part) (i : Nat) : Option Look := tget p.looks i

def Part.modCard (p : Part) (i : Nat) (f : Card → Card) : Part := { p with cards := tmod p.cards i f }
def Part.modClip (p : Part) (i : Nat) (f : Clip → Clip) : Part := { p with clips := tmod p.clips i f }
def Part.modVolume (p : Part) (v : Nat) (f : Volume → Volume) : Part := { p with volumes := tmod p.volumes v f }
def Part.modLook (p : Part) (i : Nat) (f : Look → Look) : Part := { p with looks := tmod p.looks i f }

/-- The card present in a reader lane (R2). -/
def Part.boundCard (p : Part) (l : Fin 6) : Option Nat :=
  (p.cards.find? fun e => e.2.lane == some l).map (·.1)

/-- The volume bound to a destination lane (R77). -/
def Part.boundVolume (p : Part) (d : Fin 4) : Option Nat :=
  (p.volumes.find? fun e => e.2.lane == some d).map (·.1)

/-- The destination lane a volume is bound to. -/
def Part.volumeLane (p : Part) (v : Nat) : Option (Fin 4) := (p.volume v).bind (·.lane)

/-- The attachment of a volume record in use is ONLINE or ONLINE_READONLY. -/
def Part.attached (p : Part) (v : Nat) : Bool :=
  match p.volume v with
  | some r => r.attach != .detached
  | none => false

/-- The card in use with an identity (R1). -/
def Part.cardWith (p : Part) (id : CardId) : Option (Nat × Card) := p.cards.find? fun e => e.2.id == id

/-- The camera record of a letter (R15). -/
def Part.cameraOf (p : Part) (letter : Nat) : Option (Nat × Camera) := p.cameras.find? fun e => e.2.letter == letter

/-- A clip's entry on a volume (R14). -/
def Clip.copyOn (c : Clip) (v : Nat) : Option Copy := c.copies.find? fun e => e.vol == v

/-- The state of a clip's copy entry on a volume, none when there is no clip or no entry. -/
def Part.copyState (p : Part) (clip v : Nat) : Option CopyState :=
  ((p.clip clip).bind fun c => c.copyOn v).map (·.state)

/-- The key of a clip's copy or proxy on any volume (4.1). -/
def Clip.key (c : Clip) (proxy : Bool) : CopyKey := { id := c.ident, number := c.number, proxy := proxy }

/-- A plan volume is usable while its record is in use, its role ARCHIVE, its attachment ONLINE and its lane not FULL
(R47). -/
def Part.usable (p : Part) (v : Nat) : Bool :=
  match p.volume v with
  | some r =>
    r.role == .archive && r.attach == .online &&
      (match r.lane with
       | some d => (p.dest d).state != .full
       | none => false)
  | none => false

/-- The plan check of R47. -/
def Part.planPasses (p : Part) (plan : Plan) : Bool :=
  !plan.volumes.isEmpty && decide (1 ≤ plan.required) && decide (plan.required ≤ plan.volumes.length) &&
    plan.volumes.all p.usable

/-! ### Fault kinds -/

/-- Place in key order, from 0 (6.1). -/
def FaultKind.index : FaultKind → Nat
  | .stuckSite => 0 | .clipHigh => 1 | .blackFrame => 2 | .frameGap => 3
  | .sourceMismatch => 4 | .copyMismatch => 5 | .readError => 6 | .headerMismatch => 7

/-- A kind by its code 1 to 8 (11.5). -/
def faultKindOf : Nat → Option FaultKind
  | 1 => some .stuckSite | 2 => some .clipHigh | 3 => some .blackFrame | 4 => some .frameGap
  | 5 => some .sourceMismatch | 6 => some .copyMismatch | 7 => some .readError | 8 => some .headerMismatch
  | _ => none

/-- A kind's policy entry (R115). -/
def Part.policy (p : Part) (k : FaultKind) : Policy :=
  p.fault.policy.getD k.index { enabled := false, holds := false, trip := 0, first := 0, second := 0 }

/-! ### Messages -/

/-- Puts a message on a link. -/
def Part.emit (p : Part) (m : Message) : Part := { p with outbox := p.outbox ++ [m] }

/-- The stall time in milliseconds of a count and an exponent; none when the timer is disabled (R34, R87). -/
def stallTime (count exponent : Nat) : Option Nat := if count = 0 then none else some (count * 10 * 2 ^ exponent)

/-- Sends a request on a free reader link: the next tag, the stall timer started (R29, R34). -/
def Part.sendReader (p : Part) (l : Fin 6) (req : ReaderRequest) (owner : ReaderOwner) : Part :=
  let lane := p.reader l
  let out : ReaderOut :=
    { tag := lane.nextTag, request := req, owner := owner, timer := stallTime lane.stallCount lane.stallExp }
  (p.modReader l fun r => { r with out := some out, nextTag := r.nextTag + 1 }).emit (.reader l lane.nextTag req)

/-- Sends a request on a free volume link (R75, R87). -/
def Part.sendVolume (p : Part) (d : Fin 4) (req : VolumeRequest) : Part :=
  let lane := p.dest d
  let out : VolumeOut := { tag := lane.nextTag, request := req, timer := stallTime lane.stallCount lane.stallExp }
  (p.modDest d fun r => { r with out := some out, nextTag := r.nextTag + 1 }).emit (.volume d lane.nextTag req)

/-- Abandons the outstanding request of a reader lane (R34): its tag is no longer outstanding, its read is over. -/
def ReaderLane.abandon (r : ReaderLane) : ReaderLane := { r with out := none, retries := 0 }

/-- Abandons the outstanding request when it is the owner's. -/
def ReaderLane.abandonOf (r : ReaderLane) (owner : ReaderOwner) : ReaderLane :=
  match r.out with
  | some o => if o.owner = owner then r.abandon else r
  | none => r

/-- A release claim (R81): the key joins the tail of the release list of a volume whose lane is ONLINE or FULL, once;
for any other volume the claim is discarded. -/
def Part.claimRelease (p : Part) (v : Nat) (key : CopyKey) : Part :=
  match p.volumeLane v with
  | some d =>
    if (p.dest d).state = .online ∨ (p.dest d).state = .full then
      p.modDest d fun r => { r with release := addOnce r.release key }
    else p
  | none => p

end Sys2Proof.Machine
end

