-- ==== Sys2Proof/Machine/Flags.lean ====
section
/-! DEFINITION. The flags of the Attention Unit: terminations and their unsensed flags, condition-changed flags, the
CUSTODY and FAULTS raises, the pending set and the vector (10). -/

namespace Sys2Proof.Machine

/-- Leaves a termination: the record replaces the one before it, unsensed set (R191, R192). -/
def TermSlot.leave (_ : TermSlot) (t : Termination) : TermSlot := { record := some t, unsensed := true }

def Part.termReader (p : Part) (l : Fin 6) (t : Termination) : Part :=
  p.modReader l fun r => { r with term := r.term.leave t }
def Part.termDest (p : Part) (d : Fin 4) (t : Termination) : Part :=
  p.modDest d fun r => { r with term := r.term.leave t }
def Part.termRender (p : Part) (t : Termination) : Part :=
  { p with render := { p.render with term := p.render.term.leave t } }
def Part.termChannel (p : Part) (c : Fin 2) (t : Termination) : Part :=
  p.modChannel c fun r => { r with term := r.term.leave t }

/-- Sets a lane's condition-changed flag (R193). -/
def Part.changedReader (p : Part) (l : Fin 6) : Part := p.modReader l fun r => { r with changed := true }
def Part.changedDest (p : Part) (d : Fin 4) : Part := p.modDest d fun r => { r with changed := true }

/-- A CUSTODY raise (R9, R196). -/
def Part.raiseCustody (p : Part) : Part := { p with attention := { p.attention with custody := true } }

/-- A FAULTS raise (R114, R197). -/
def Part.raiseFaults (p : Part) : Part := { p with attention := { p.attention with faults := true } }

/-- Whether a source is in the pending set (R195). -/
def Part.sourcePending (p : Part) (n : Nat) : Bool :=
  match n with
  | 10 => p.attention.custody
  | 11 => p.attention.faults
  | 12 => p.render.term.unsensed
  | 13 => (p.channel 0).term.unsensed
  | 14 => (p.channel 1).term.unsensed
  | n =>
    match unitAt 4 n with
    | some d => (p.dest d).term.unsensed || (p.dest d).changed
    | none =>
      match unitAt 6 (n - 4) with
      | some l => (p.reader l).term.unsensed || (p.reader l).changed
      | none => false

/-- The fifteen sources in priority order. -/
def allSources : List Nat := [0, 1, 2, 3, 4, 5, 6, 7, 8, 9, 10, 11, 12, 13, 14]

/-- The number of the highest-priority source that is pending and unmasked, or 15 (R199). -/
def Part.formVector (p : Part) : Nat :=
  (allSources.find? fun n => p.sourcePending n && !p.attention.mask.getLsbD n).getD 15

/-- Forms the vector anew, the last step of an event, and sends an interrupt message when it changes from 15 to a source
(R199). -/
def Part.reformVector (p : Part) : Part :=
  let v := p.formVector
  let q := if p.attention.vector = 15 ∧ v ≠ 15 then p.emit (.interrupt v) else p
  { q with attention := { q.attention with vector := v } }

end Sys2Proof.Machine
end

