-- ==== Sys2Proof/Machine/Custody.lean ====
section
/-! DEFINITION. The secure condition and its evaluation (1.3), the moves of a card it causes, and the claims on a clip's
copy list (R14). -/

namespace Sys2Proof.Machine

/-- The required copies of a clip's card. -/
def Part.requiredOf (p : Part) (c : Clip) : Nat :=
  match p.card c.card with
  | some card => card.plan.required
  | none => 0

/-- VERIFIED entries of a clip on ARCHIVE volumes that are attached (R7). -/
def Part.countedCopies (p : Part) (c : Clip) : Nat :=
  (c.copies.filter fun e =>
    e.state == .verified &&
      (match p.volume e.vol with
       | some r => r.role == .archive && r.attach != .detached
       | none => false)).length

/-- A clip is fault-held while it has an OPEN entry of a kind whose policy holds release (R7). -/
def Part.faultHeld (p : Part) (c : Clip) : Bool :=
  c.faults.any fun f => f.state == .opened && (p.policy f.kind).holds

def Clip.isWaived (c : Clip) : Bool := c.custody != .normal

def Part.enoughCopies (p : Part) (c : Clip) : Bool := decide (p.requiredOf c ≤ p.countedCopies c)

/-- A clip is satisfied when it is WAIVED, or has its copies and is not fault-held (R7). -/
def Part.satisfied (p : Part) (c : Clip) : Bool := c.isWaived || (p.enoughCopies c && !p.faultHeld c)

/-- A clip that is not satisfied is short when it has too few counted copies (R7). -/
def Part.short (p : Part) (c : Clip) : Bool := !p.satisfied c && !p.enoughCopies c

/-- A clip that is not satisfied is fault-held (R7). -/
def Part.heldByFault (p : Part) (c : Clip) : Bool := !p.satisfied c && p.faultHeld c

/-- The clips of a card, in clip list order. -/
def Part.clipsOf (p : Part) (card : Card) : List Clip := card.clips.filterMap p.clip

/-- The secure condition (R7). -/
def Part.secure (p : Part) (card : Card) : Bool :=
  card.state != .offloading && (p.clipsOf card).all p.satisfied

/-- Evaluates a card in HELD or SECURED; a crossing raises CUSTODY (R8, R9). -/
def Part.evaluate (p : Part) (i : Nat) : Part :=
  match p.card i with
  | some card =>
    if card.state = .held ∧ p.secure card then
      (p.modCard i fun c => { c with state := .secured }).raiseCustody
    else if card.state = .secured ∧ ¬ p.secure card then
      (p.modCard i fun c => { c with state := .held }).raiseCustody
    else p
  | none => p

/-- Evaluates the card of a clip. -/
def Part.evaluateClip (p : Part) (clip : Nat) : Part :=
  match p.clip clip with
  | some c => p.evaluate c.card
  | none => p

/-- Evaluates every card (R8: a change of holds_release). -/
def Part.evaluateAll (p : Part) : Part := p.each (p.cards.map (·.1)) Part.evaluate

/-- Evaluates every card that has a clip with a copy entry on a volume (R8, R80, R86). -/
def Part.evaluateVolume (p : Part) (v : Nat) : Part :=
  p.each ((p.clips.filter fun e => (e.2.copyOn v).isSome).map (·.2.card)) Part.evaluate

/-- A card enters HELD and is evaluated in the same event (R4, R5, R28). -/
def Part.holdCard (p : Part) (i : Nat) : Part :=
  (p.modCard i fun c => { c with state := .held }).evaluate i

/-- Ends an erase as an abort: the card returns to RELEASED with erase_incomplete set (R6, R72). -/
def Part.abortErase (p : Part) (i : Nat) : Part :=
  p.modCard i fun c => { c with state := .released, eraseIncomplete := true, erased := false }

/-! ### Copy lists -/

/-- Whether R14 takes a write claim of the clip on the volume. -/
def Clip.writeClaimTaken (c : Clip) (v : Nat) : Bool :=
  match c.copyOn v with
  | some e => match e.state with
    | .failed _ => true
    | _ => false
  | none => decide (c.copies.length < 4)

/-- The copy list after a write claim that is taken (R14): a FAILED entry becomes WRITING in its place with the claim's
origin, or a WRITING entry is added at the end. -/
def Clip.claimWrite (c : Clip) (v : Nat) (o : Origin) : Clip :=
  let e : Copy := { vol := v, state := .writing, origin := o }
  if (c.copyOn v).isSome then { c with copies := modWhere c.copies (fun x => x.vol == v) fun _ => e }
  else { c with copies := c.copies ++ [e] }

/-- Removes the entry on a volume; the order of the others is kept (R14). -/
def Clip.removeCopy (c : Clip) (v : Nat) : Clip := { c with copies := c.copies.filter fun e => e.vol != v }

/-- Sets the state of the entry on a volume, if there is one. -/
def Clip.setCopy (c : Clip) (v : Nat) (st : CopyState) : Clip :=
  { c with copies := modWhere c.copies (fun e => e.vol == v) fun e => { e with state := st } }

/-- The clip has a WRITING entry of origin OFFLOAD on the volume. -/
def Clip.offloadWriting (c : Clip) (v : Nat) : Bool :=
  match c.copyOn v with
  | some e => e.state == .writing && e.origin == .offload
  | none => false

end Sys2Proof.Machine
end

