-- ==== Sys2Proof/Machine/Faults.lean ====
section
/-! DEFINITION. The Fault Unit: merging of raises, removals, the known-defect map (06). -/

namespace Sys2Proof.Machine

/-- A raise reaching the Fault Unit for a clip (R111). -/
structure Raise where
  kind : FaultKind
  vol : Nat
  count : Nat
  saturated : Bool
  firstFrame : Option Nat
  firstSite : Option (Nat × Nat)
  detail : Option FaultDetail
deriving DecidableEq, Repr

/-- An integrity raise: a count of 1, no first frame and no first site (R131). -/
def Raise.integrity (k : FaultKind) (vol : Nat) (d : Option FaultDetail) : Raise :=
  { kind := k, vol := vol, count := 1, saturated := false, firstFrame := none, firstSite := none, detail := d }

/-- Key order: kind, then volume (6.1). -/
def keyBefore (k1 : FaultKind) (v1 : Nat) (k2 : FaultKind) (v2 : Nat) : Bool :=
  decide (k1.index < k2.index) || (k1 == k2 && decide (v1 < v2))

/-- Adds an entry in its place in key order. -/
def insertFault : List FaultEntry → FaultEntry → List FaultEntry
  | [], e => [e]
  | f :: t, e => if keyBefore e.kind e.vol f.kind f.vol then e :: f :: t else f :: insertFault t e

def Clip.faultWith (c : Clip) (k : FaultKind) (v : Nat) : Option FaultEntry :=
  c.faults.find? fun f => f.kind == k && f.vol == v

/-- A merge into an entry that has the key (R111). -/
def FaultEntry.merge (f : FaultEntry) (r : Raise) : FaultEntry :=
  { f with
    state := .opened
    count := min (f.count + r.count) 127
    saturated := f.saturated || r.saturated || decide (127 < f.count + r.count)
    detail := r.detail.orElse fun _ => f.detail }

/-- The entry that a raise creates (R111). -/
def Raise.entry (r : Raise) : FaultEntry :=
  { kind := r.kind, vol := r.vol, state := .opened, count := r.count, saturated := r.saturated,
    firstFrame := r.firstFrame, firstSite := r.firstSite, detail := r.detail }

/-- Whether a merge is an opening: no entry has the key, or the entry is ACKNOWLEDGED (R111). -/
def Clip.opens (c : Clip) (r : Raise) : Bool :=
  match c.faultWith r.kind r.vol with
  | some f => f.state == .acknowledged
  | none => true

/-- The fault set after a merge. -/
def Clip.merged (c : Clip) (r : Raise) : Clip :=
  match c.faultWith r.kind r.vol with
  | some _ => { c with faults := modWhere c.faults (fun f => f.kind == r.kind && f.vol == r.vol) fun f => f.merge r }
  | none => { c with faults := insertFault c.faults r.entry }

/-- Removes fault entries of a clip; a removal is handed to the Custody Tables (R113). -/
def Part.removeFaults (p : Part) (clip : Nat) (test : FaultEntry → Bool) : Part :=
  match p.clip clip with
  | some c =>
    if c.faults.any test then
      (p.modClip clip fun c => { c with faults := c.faults.filter fun f => !test f }).evaluate c.card
    else p
  | none => p

/-- The COPY_MISMATCH entry that a fifth key displaces (R112): among those whose volume holds no copy of the clip, the
lowest ACKNOWLEDGED one, else the lowest OPEN one. -/
def Clip.displaced (c : Clip) : Option Nat :=
  let free := c.faults.filter fun f => f.kind == .copyMismatch && (c.copyOn f.vol).isNone
  ((free.find? fun f => f.state == .acknowledged).orElse fun _ => free.head?).map (·.vol)

/-- R112, applied before a COPY_MISMATCH raise that would make a fifth entry. -/
def Part.displace (p : Part) (clip : Nat) (r : Raise) : Part :=
  match p.clip clip with
  | some c =>
    if r.kind = .copyMismatch ∧ (c.faultWith r.kind r.vol).isNone ∧
        4 ≤ (c.faults.filter fun f => f.kind == .copyMismatch).length then
      match c.displaced with
      | some v => p.removeFaults clip fun f => f.kind == .copyMismatch && f.vol == v
      | none => p
    else p
  | none => p

/-- An opening: the open-fault counter, the FAULTS source, the evaluation of the card (R111, R114). -/
def Part.opening (p : Part) (card : Nat) : Part :=
  (({ p with fault := { p.fault with opened := p.fault.opened + 1 } } : Part).raiseFaults).evaluate card

/-- A raise for a clip is merged (R111); one for a free clip record, or a COPY_MISMATCH raise for a free volume record, is
discarded. -/
def Part.mergeFault (p : Part) (clip : Nat) (r : Raise) : Part :=
  if r.kind = .copyMismatch ∧ (p.volume r.vol).isNone then p
  else
    let p := p.displace clip r
    match p.clip clip with
    | some c =>
      let q := p.modClip clip fun c => c.merged r
      if c.opens r then q.opening c.card else q
    | none => p

/-- Acknowledges an entry; a change is handed to the Custody Tables (R125, R132). -/
def Part.acknowledge (p : Part) (clip : Nat) (k : FaultKind) (v : Nat) : Part :=
  match p.clip clip with
  | some c =>
    match c.faultWith k v with
    | some f =>
      if f.state = .opened then
        (p.modClip clip fun c =>
          { c with faults := modWhere c.faults (fun f => f.kind == k && f.vol == v)
                      fun f => { f with state := .acknowledged } }).evaluate c.card
      else p
    | none => p
  | none => p

/-! ### The known-defect map (R122) -/

/-- A coordinate under a mask of 13 bits. -/
def maskTo (x m : Nat) : Nat := x &&& m

def Defect.covers (d : Defect) (letter x y : Nat) : Bool :=
  d.letter == letter && maskTo x d.xmask == d.x && maskTo y d.ymask == d.y

/-- The entry of a new defect, its coordinates stored under its masks. -/
def newDefect (letter x y xmask ymask : Nat) : Defect :=
  { letter := letter, x := maskTo x xmask, y := maskTo y ymask, xmask := xmask, ymask := ymask, hits := 0 }

/-- The same letter, masks and stored coordinates (R123). -/
def Defect.same (d e : Defect) : Bool :=
  d.letter == e.letter && d.x == e.x && d.y == e.y && d.xmask == e.xmask && d.ymask == e.ymask

def FaultUnit.has (f : FaultUnit) (d : Defect) : Bool := f.defects.any fun e => e.2.same d

/-- Raises the hit counter of an entry, stopping at 255 (R121). -/
def Defect.hit (d : Defect) : Defect := { d with hits := min (d.hits + 1) 255 }

end Sys2Proof.Machine
end

