-- ==== Sys2Proof/Machine/Operands.lean ====
section
/-! DEFINITION. The operand forms of the part: little-endian numbers, block headers, card headers and directory entries
read from bytes, and the fields, codes and encodings of results (11). -/

namespace Sys2Proof.Machine

/-! ### Numbers in bytes (R201) -/

/-- The number that bytes carry, the first one lowest. -/
def leNat : List Byte → Nat
  | [] => 0
  | b :: t => b.toNat + 256 * leNat t

/-- The low `w` bytes of a number, lowest first. -/
def leBytes : Nat → Nat → List Byte
  | 0, _ => []
  | w + 1, n => BitVec.ofNat 8 n :: leBytes w (n / 256)

/-- The byte at an offset; bytes past the listed ones are 0. -/
def byteAt (bs : List Byte) (i : Nat) : Byte := bs.getD i 0

/-- The number in `w` bytes at an offset. -/
def numAt (bs : List Byte) (off w : Nat) : Nat := leNat ((bs.drop off).take w)

/-- `n` bytes at an offset, the unlisted ones 0. -/
def bytesAt (bs : List Byte) (off n : Nat) : List Byte := (List.range n).map fun k => byteAt bs (off + k)

/-- A signed number in two bytes (R201, R204). -/
def signedAt (bs : List Byte) (off : Nat) : Int :=
  let n := numAt bs off 2
  if n < 32768 then n else (n : Int) - 65536

/-- A timecode of four bytes: frames, seconds, minutes, hours (R201). -/
def timecodeAt (bs : List Byte) (off : Nat) : Timecode :=
  { frames := numAt bs off 1, seconds := numAt bs (off + 1) 1, minutes := numAt bs (off + 2) 1,
    hours := numAt bs (off + 3) 1 }

def Timecode.bytes (t : Timecode) : List Byte :=
  leBytes 1 t.frames ++ leBytes 1 t.seconds ++ leBytes 1 t.minutes ++ leBytes 1 t.hours

/-! ### Result fields (R201) -/

def flagByte (b : Bool) : List Byte := [if b then 1 else 0]

/-- An optional field: a presence marker and the value at its width. -/
def optBytes (w : Nat) (o : Option Nat) : List Byte :=
  match o with
  | some n => 1 :: leBytes w n
  | none => 0 :: leBytes w 0

/-- A bounded list: its count, and `bound` slots of `w` bytes, the slots beyond the count 0. -/
def listBytes (bound w : Nat) (items : List (List Byte)) : List Byte :=
  leBytes 1 items.length ++ items.flatten ++ List.replicate ((bound - items.length) * w) 0

/-- A signed look parameter value in two bytes (R204). -/
def signedBytes (v : Int) : List Byte := leBytes 2 (v % 65536).toNat

/-- The next index or position of a list result; 0xFFFF stands for none (R201). -/
def nextBytes (o : Option Nat) : List Byte := leBytes 2 (o.getD 0xFFFF)

/-- A directory entry (11.3). -/
structure DirEntry where
  number : Nat
  rate : Nat
  marked : Bool
  firstBlock : Nat
  blockCount : Nat
  frameCount : Nat
  start : Timecode
  digest : Option (BitVec 64)
deriving DecidableEq, Repr

def dirEntryAt (bs : List Byte) (off : Nat) : DirEntry :=
  { number := numAt bs off 2, rate := numAt bs (off + 2) 1, marked := (byteAt bs (off + 3)).getLsbD 0,
    firstBlock := numAt bs (off + 4) 4, blockCount := numAt bs (off + 8) 4, frameCount := numAt bs (off + 12) 4,
    start := timecodeAt bs (off + 16),
    digest := if (byteAt bs (off + 3)).getLsbD 1 then some (BitVec.ofNat 64 (numAt bs (off + 20) 8)) else none }

def DirEntry.overlaps (a b : DirEntry) : Bool :=
  decide (a.firstBlock < b.firstBlock + b.blockCount) && decide (b.firstBlock < a.firstBlock + a.blockCount)

/-- Each entry against the entries behind it: other clip number, no block in common. -/
def dirDistinct : List DirEntry → Bool
  | [] => true
  | e :: t => t.all (fun f => e.number != f.number && !e.overlaps f) && dirDistinct t

end Sys2Proof.Machine

namespace Sys2Proof
open Machine

/-! ### Block headers (11.3) -/

def Block.headLetter (b : Block) : Nat := numAt b.header 2 1
def Block.frameEnd (b : Block) : Bool := (byteAt b.header 3).getLsbD 0
def Block.headRoll (b : Block) : Nat := numAt b.header 4 2
def Block.headClip (b : Block) : Nat := numAt b.header 6 2
def Block.headSerial (b : Block) : BitVec 64 := BitVec.ofNat 64 (numAt b.header 8 8)
def Block.headIndex (b : Block) : Nat := numAt b.header 16 4
def Block.headLength (b : Block) : Nat := numAt b.header 20 4
def Block.headTimecode (b : Block) : Timecode := timecodeAt b.header 24
def Block.headWidth (b : Block) : Nat := numAt b.header 28 2
def Block.headHeight (b : Block) : Nat := numAt b.header 30 2

/-- The frame payload length that is used: above 4,194,304 it is taken as 4,194,304 (R202). -/
def Block.frameLength (b : Block) : Nat := min b.headLength Config.payloadBytes

/-- The frame payload: the first frame-payload-length bytes of the payload. -/
def Block.frameData (b : Block) : List Byte :=
  b.payload.take b.frameLength ++ List.replicate (b.frameLength - b.payload.length) 0

/-- A card identity: letter, roll, serial (R18). -/
def CardId.bytes (id : CardId) : List Byte := leBytes 1 id.letter ++ leBytes 2 id.roll ++ leBytes 8 id.serial.toNat

/-! ### The card header and the directory (11.3, R37, R202) -/

/-- The erased pattern: the first 16 payload bytes are all 0xFF or all 0x00. -/
def Block.erasedPattern (b : Block) : Bool :=
  let bs := bytesAt b.payload 0 16
  bs.all (· == 0xFF) || bs.all (· == 0)

/-- The format mark, the bytes U, C, R, D. -/
def Block.formatMark (b : Block) : Bool := bytesAt b.payload 0 4 == [0x55, 0x43, 0x52, 0x44]

def Block.cardHeader (b : Block) : CardHeader :=
  { id := { letter := numAt b.payload 5 1, roll := numAt b.payload 6 2,
            serial := BitVec.ofNat 64 (numAt b.payload 8 8) },
    body := BitVec.ofNat 64 (numAt b.payload 16 8), clipCount := numAt b.payload 24 2,
    blocks := numAt b.payload 26 4, width := numAt b.payload 30 2, height := numAt b.payload 32 2 }

/-- A card header whose content is the erased pattern, or that carries the format mark with a clip count of 0 (R37). -/
def Block.blankHeader (b : Block) : Bool :=
  b.erasedPattern || (b.formatMark && b.cardHeader.clipCount == 0)

def isLetter (n : Nat) : Bool := decide (65 ≤ n) && decide (n ≤ 90)

def pictureSize (n : Nat) : Bool := decide (2 ≤ n) && decide (n ≤ 8192)

/-- A card header, not blank, that is good (R37). -/
def Block.goodHeader (b : Block) : Bool :=
  let h := b.cardHeader
  b.formatMark && decide (h.clipCount ≤ 250) && isLetter h.id.letter && decide (1 ≤ h.id.roll) &&
    decide (h.id.roll ≤ 999) && pictureSize h.width && pictureSize h.height

/-- The entry count of a directory; a directory in the erased pattern holds no entries (R202). -/
def Block.dirCount (b : Block) : Nat := if b.erasedPattern then 0 else numAt b.payload 0 2

def Block.dirEntries (b : Block) : List DirEntry :=
  (List.range b.dirCount).map fun k => dirEntryAt b.payload (16 + 32 * k)

/-- A directory that is well formed under R37 for its header. -/
def Block.goodDirectory (b : Block) (h : CardHeader) : Bool :=
  b.dirCount == h.clipCount &&
    b.dirEntries.all (fun e =>
      decide (1 ≤ e.number) && decide (e.number ≤ 999) && decide (1 ≤ e.blockCount) && decide (2 ≤ e.firstBlock) &&
        decide (e.firstBlock + e.blockCount ≤ h.blocks)) &&
    dirDistinct b.dirEntries

end Sys2Proof

namespace Sys2Proof.Machine

/-- The header check of R55 for the block at an index within a clip. -/
def Clip.headerCheck (c : Clip) (index : Nat) (b : Block) : Bool :=
  b.headLetter == c.ident.letter && b.headRoll == c.ident.roll && b.headSerial == c.ident.serial &&
    b.headClip == c.number && b.headIndex == index && decide (b.headLength ≤ Config.payloadBytes)

/-! ### Codes (11.5) -/

def CardState.code : CardState → Nat
  | .ready => 0 | .offloading => 1 | .tripped => 2 | .held => 3 | .secured => 4 | .released => 5 | .erasing => 6

def cardStateOf : Nat → Option CardState
  | 0 => some .ready | 1 => some .offloading | 2 => some .tripped | 3 => some .held | 4 => some .secured
  | 5 => some .released | 6 => some .erasing | _ => none

def Custody.code : Custody → Nat
  | .normal => 0 | .waived _ => 1

def Custody.causeCode : Custody → Nat
  | .normal => 0 | .waived .host => 1 | .waived .cameraMark => 2

def CopyState.code : CopyState → Nat
  | .writing => 0 | .written => 1 | .verifying => 2 | .verified => 3 | .failed _ => 4

def Mismatch.code : Mismatch → Nat
  | .digest => 1 | .unreadable => 2

def CopyState.detailCode : CopyState → Nat
  | .failed d => d.code | _ => 0

def Origin.code : Origin → Nat
  | .offload => 0 | .recopy => 1

def FaultKind.code (k : FaultKind) : Nat := k.index + 1

def FaultState.code : FaultState → Nat
  | .opened => 0 | .acknowledged => 1

def Role.code : Role → Nat
  | .archive => 0 | .proxy => 1

def Attachment.code : Attachment → Nat
  | .online => 0 | .onlineReadonly => 1 | .detached => 2

def VerifyMode.code : VerifyMode → Nat
  | .auto => 0 | .paused => 1

def LaneMode.code : LaneMode → Nat
  | .manual => 0 | .auto => 1

def ReaderState.code : ReaderState → Nat
  | .noReader => 0 | .empty => 1 | .mounting => 2 | .blank => 3 | .refused => 4 | .bound => 5 | .offloading => 6
  | .erasing => 7 | .equipment => 8

def DestState.code : DestState → Nat
  | .empty => 0 | .identifying => 1 | .online => 2 | .full => 3 | .onlineReadonly => 4 | .refused => 5

def ChannelState.code : ChannelState → Nat
  | .idle => 0 | .paused => 1 | .playing => 2 | .noSource => 3

def TermClass.code : TermClass → Nat
  | .normal => 0 | .abnormal => 1 | .readyChanged => 2

def Operation.code : Operation → Nat
  | .mount => 1 | .offload => 2 | .erase => 3 | .identify => 4 | .verify => 5 | .recopy => 6 | .render => 7
  | .playback => 8

/-- The causes of an operation in the order of R191. -/
def Operation.causes : Operation → List Cause
  | .mount => [.mounted, .blankCard, .identityConflict, .duplicatePresent, .cameraTableFull, .cardTableFull,
      .clipTableFull, .directoryUnreadable, .planInvalidAtMount, .stalled, .equipmentCheck, .cardRemoved]
  | .offload => [.complete, .stoppedAtClip, .stopped, .tripped, .stalled, .equipmentCheck, .noDestination, .cardRemoved]
  | .erase => [.erased, .equipmentCheck, .stalled, .cardRemoved]
  | .identify => [.attached, .identityConflict, .volumeTableFull, .stalled]
  | .verify => [.verified, .mismatch, .stalled, .volumeDetached]
  | .recopy => [.recopied, .mismatch, .noSourceLeft, .destFull, .stalled, .volumeDetached]
  | .render => [.complete, .sourceLost, .destFull, .destDetached, .stalled, .cancelled]
  | .playback => [.endOfClip, .sourceLost]

/-- The code of a cause: its place among its operation's causes, from 1. -/
def causeCode (op : Operation) (c : Cause) : Nat := op.causes.idxOf c + 1

/-- A fault count byte: the count in bits 0 to 6 and the saturated flag in bit 7. -/
def countByte (count : Nat) (saturated : Bool) : List Byte :=
  leBytes 1 (count % 128 + if saturated then 128 else 0)

/-! ### Names and identities -/

/-- Three decimal digits in ASCII. -/
def digits3 (n : Nat) : List Byte := leBytes 1 (48 + n / 100 % 10) ++ leBytes 1 (48 + n / 10 % 10) ++ leBytes 1 (48 + n % 10)

/-- The eight characters of a clip's name: letter, roll, C, clip number (R13, R201). -/
def Clip.name (c : Clip) : List Byte :=
  leBytes 1 c.ident.letter ++ digits3 c.ident.roll ++ [0x43] ++ digits3 c.number

/-- A volume identity (R77). -/
def Volume.sameIdentity (v : Volume) (label : List Byte) (serial : BitVec 64) : Bool :=
  v.label == label && v.serial == serial

/-- A copy key in its 14 bytes (11.4). -/
def CopyKey.bytes (k : CopyKey) : List Byte :=
  k.id.bytes ++ leBytes 2 k.number ++ leBytes 1 (if k.proxy then 2 else 1)

/-! ### Termination records (11.2) -/

def padTo (n : Nat) (bs : List Byte) : List Byte := (bs ++ List.replicate n 0).take n

def Reference.kindCode : Reference → Nat
  | .none => 0 | .card _ => 1 | .identity _ => 2 | .copy _ _ => 3 | .recopy _ _ _ => 3 | .volume _ => 4
  | .volumeIdentity _ _ => 4 | .render _ _ _ _ => 5 | .clip _ => 3 | .clipFrame _ _ => 3

/-- A recopy's source in two bytes: kind (1 volume, 2 card) and the volume index or the reader lane (11.2). -/
def RecopySource.bytes : RecopySource → List Byte
  | .volume v => leBytes 1 1 ++ leBytes 1 v
  | .card lane _ => leBytes 1 2 ++ leBytes 1 lane.val

/-- The names of a termination in the order of their rule. -/
def Reference.bytes : Reference → List Byte
  | .none => []
  | .card c => leBytes 1 c
  | .identity id => id.bytes
  | .copy c v => leBytes 2 c ++ leBytes 1 v
  | .recopy c t s => leBytes 2 c ++ leBytes 1 t ++ s.bytes
  | .volume v => leBytes 1 v
  | .volumeIdentity _ serial => leBytes 8 serial.toNat
  | .render g c t s => leBytes 2 g ++ leBytes 2 c ++ leBytes 1 t ++ leBytes 1 s
  | .clip c => leBytes 2 c
  | .clipFrame c f => leBytes 2 c ++ leBytes 4 f

def Detail.kindCode : Detail → Nat
  | .none => 0 | .code _ => 1 | .trip _ _ => 3 | .look Option.none => 0 | .look (Option.some _) => 4
  | .mismatch _ _ => 5 | .header _ => 5 | .equipment _ => 5

/-- The detail value. The codes 3 and 4 of a lost recopy source are the model's (log 28). -/
def Detail.bytes : Detail → List Byte
  | .none => []
  | .code c => leBytes 2 c.toNat
  | .trip k n => leBytes 1 k.code ++ leBytes 1 n
  | .look Option.none => []
  | .look (Option.some (l, v)) => leBytes 1 l ++ leBytes 2 v
  | .mismatch d b => leBytes 1 d.code ++ leBytes 4 b
  | .header b => leBytes 1 3 ++ leBytes 4 b
  | .equipment b => leBytes 1 4 ++ leBytes 4 b

/-- The counts as they stand in the record; a refused identification carries the label there (log 18). -/
def Termination.countBytes (t : Termination) : List Byte :=
  match t.ref with
  | .volumeIdentity label _ => label
  | _ => (t.counts.map (leBytes 4)).flatten

/-- The 44 bytes of a termination record, with its unsensed flag as given. -/
def TermSlot.bytes (s : TermSlot) : List Byte :=
  match s.record with
  | Option.none => List.replicate 44 0
  | some t =>
    leBytes 1 1 ++ flagByte s.unsensed ++ leBytes 1 t.cls.code ++ leBytes 1 t.op.code ++
      leBytes 1 (causeCode t.op t.cause) ++ leBytes 1 t.ref.kindCode ++ padTo 12 t.ref.bytes ++
      padTo 16 t.countBytes ++ leBytes 1 t.detail.kindCode ++ [0] ++ padTo 8 t.detail.bytes

/-! ### Status codes (R185, 11.2) -/

inductive Status
  | ok | accepted | committed | staged | stagedHeld | unknownRequest | malformed | notFound | busy | unsensed | wrongState
  | inUse | tableFull | queueFull | copyListFull | range | duplicate | isProtected | readonly | wrongRole | noSource
  | planInvalid | lookHeld | notPresent
deriving DecidableEq, Repr

def Status.code : Status → Nat
  | .ok => 0 | .accepted => 1 | .committed => 2 | .staged => 3 | .stagedHeld => 4 | .unknownRequest => 5
  | .malformed => 6 | .notFound => 7 | .busy => 8 | .unsensed => 9 | .wrongState => 10 | .inUse => 11
  | .tableFull => 12 | .queueFull => 13 | .copyListFull => 14 | .range => 15 | .duplicate => 16 | .isProtected => 17
  | .readonly => 18 | .wrongRole => 19 | .noSource => 20 | .planInvalid => 21 | .lookHeld => 22 | .notPresent => 23

/-- The answer of an owning block (R183). -/
structure Answer where
  status : Status
  payload : List Byte
deriving DecidableEq, Repr

def Answer.bare (s : Status) : Answer := { status := s, payload := [] }
def Answer.withPayload (bs : List Byte) : Answer := { status := .ok, payload := bs }

/-- A list result: the next index or position, or none, and the entries returned (R186, R201). -/
def pageWith (next : Option Nat) (shown : List (Nat × List Byte)) : List Byte :=
  nextBytes next ++ (shown.map (·.2)).flatten

/-- A page of a list (R186): from the entries at or past the start, the first `page`, and the next index or position if
entries are left. Each entry stands with its index or position; the next index to ask for is that of the first entry left
out, whatever free indexes lie before it (log 36). -/
def pageOf (page : Nat) (entries : List (Nat × List Byte)) : List Byte :=
  pageWith ((entries.drop page).head?.map (·.1)) (entries.take page)

end Sys2Proof.Machine
end

