-- ==== Sys2Proof/Machine/Crc.lean ====
section
/-! DEFINITION. The block check and the clip digest (R203). -/

namespace Sys2Proof.Machine

/-- The register moved on by one bit, with no reflection. -/
def crcShift {w : Nat} (poly r : BitVec w) : BitVec w := if r.msb then (r <<< 1) ^^^ poly else r <<< 1

/-- One byte into the register, most significant bit first. -/
def crcByte {w : Nat} (poly r : BitVec w) (b : Byte) : BitVec w :=
  let x := r ^^^ ((b.setWidth w) <<< (w - 8))
  crcShift poly (crcShift poly (crcShift poly (crcShift poly
    (crcShift poly (crcShift poly (crcShift poly (crcShift poly x)))))))

def crcBytes {w : Nat} (poly r : BitVec w) (bs : List Byte) : BitVec w := bs.foldl (crcByte poly) r

/-- The product of two registers as polynomials, modulo the generator: the bits of `b` from the highest of `n`. -/
def crcMul {w : Nat} (poly a b : BitVec w) : Nat → BitVec w → BitVec w
  | 0, acc => acc
  | n + 1, acc => crcMul poly a b n (if b.getLsbD n then crcShift poly acc ^^^ a else crcShift poly acc)

/-- The register moved on by `n` bytes of 0, where `a` is the generator's remainder of x to the power 8: by squaring. -/
def crcZerosFrom {w : Nat} (poly : BitVec w) : Nat → Nat → BitVec w → BitVec w → BitVec w
  | 0, _, _, r => r
  | fuel + 1, n, a, r =>
    crcZerosFrom poly fuel (n / 2) (crcMul poly a a w 0) (if n % 2 = 1 then crcMul poly r a w 0 else r)

/-- The register moved on by `n` bytes of 0, `n` below 2 to the power 23. -/
def crcZeros {w : Nat} (poly r : BitVec w) (n : Nat) : BitVec w := crcZerosFrom poly 23 n (BitVec.ofNat w 256) r

def checkPoly : BitVec 32 := 0x04C11DB7
def digestPoly : BitVec 64 := 0x42F0E1EBA9EA3693

/-- The block check over header and payload, the payload `size` bytes long, fill included (R203). -/
def checkOver (header payload : List Byte) (size : Nat) : BitVec 32 :=
  ~~~ crcZeros checkPoly (crcBytes checkPoly (BitVec.allOnes 32) (header ++ payload)) (size - payload.length)

end Sys2Proof.Machine

namespace Sys2Proof
open Machine

def Block.computedCheck (b : Block) : BitVec 32 := checkOver b.header b.payload Config.payloadBytes

/-- The recomputed block check equals the one the block carries. -/
def Block.checkGood (b : Block) : Bool := b.computedCheck == b.check

end Sys2Proof

namespace Sys2Proof.Machine

/-- The clip digest's register before the first block. -/
def digestStart : BitVec 64 := BitVec.allOnes 64

/-- Adds a block's frame payload to the digest (R203). -/
def digestAdd (r : BitVec 64) (b : Block) : BitVec 64 :=
  let listed := b.payload.take b.frameLength
  crcZeros digestPoly (crcBytes digestPoly r listed) (b.frameLength - listed.length)

/-- The final value of the digest. -/
def digestFinal (r : BitVec 64) : BitVec 64 := ~~~ r

end Sys2Proof.Machine
end

