-- ==== Sys2Proof/Machine/Picture.lean ====
section
/-! DEFINITION. Frames gathered from blocks, their sites, and the pictures formed from them (R117, R161, R202). -/

namespace Sys2Proof.Machine

/-- Adds a block to the frame in progress: the first block gives the timecode and the picture size. -/
def FrameAcc.add (a : FrameAcc) (b : Block) : FrameAcc :=
  if a.blocks = 0 then
    { blocks := 1, data := b.frameData, timecode := b.headTimecode, width := b.headWidth, height := b.headHeight }
  else { a with blocks := a.blocks + 1, data := a.data ++ b.frameData }

/-- A frame closes at a block with the frame-end mark, at its 16th block, or at the clip's last block (R117). `a` has the
block already. -/
def FrameAcc.closes (a : FrameAcc) (b : Block) (lastBlock : Bool) : Bool :=
  b.frameEnd || decide (16 ≤ a.blocks) || lastBlock

/-- The sites of joined frame data: the low 10 bits of each 2-byte word; an odd last byte is not used (R202). -/
def sitesOf : List Byte → List Nat
  | a :: b :: t => (a.toNat + 256 * b.toNat) % 1024 :: sitesOf t
  | _ => []

/-- A whole frame has exactly width times height sites (R117, R161). DESIGN CHOICE (log 56): a frame of exactly that many
sites is whole also when it closed at its 16th block without the mark or was cut off by the clip's last block, which the
'This includes' of R117 may be read to make short. -/
def isWhole (w h : Nat) (sites : List Nat) : Bool := sites.length == w * h

/-- The rows of a whole picture. -/
def rowsOf (w : Nat) : Nat → List Nat → List (List Nat)
  | 0, _ => []
  | h + 1, sites => sites.take w :: rowsOf w h (sites.drop w)

/-- The elements of two rows of sites, cell by cell (R161). -/
def cellsOf : List Nat → List Nat → List (Nat × Nat × Nat)
  | r :: g1 :: t, g2 :: b :: u => (r, (g1 + g2) / 2, b) :: cellsOf t u
  | _, _ => []

/-- The elements of a picture, two rows at a time; an odd last row is not used. -/
def elementsOf : List (List Nat) → List (Nat × Nat × Nat)
  | top :: bottom :: t => cellsOf top bottom ++ elementsOf t
  | _ => []

/-- The picture of a frame of joined data; a short frame gives every channel code 0 (R161). -/
def pictureOf (w h : Nat) (data : List Byte) : Picture :=
  let sites := sitesOf data
  { width := w / 2, height := h / 2,
    elements :=
      if isWhole w h sites then elementsOf (rowsOf w h sites)
      else List.replicate ((w / 2) * (h / 2)) (0, 0, 0) }

def FrameAcc.picture (a : FrameAcc) : Picture := pictureOf a.width a.height a.data

end Sys2Proof.Machine
end

