-- ==== Sys2Proof/Machine/Analyzer.lean ====
section
/-! DEFINITION. The frame analyzer of a reader lane (06): measures, trackers, detectors, the timecode check, the pending
fault buffer, and the counting toward a trip (R67). -/

namespace Sys2Proof.Machine

/-- A trip: the kind that tripped and its counter value (R68). -/
abbrev Trip := FaultKind × Nat

/-- Runs the next part of an evaluation unless a trip has been taken (R129). -/
def unlessTrip (r : Part × Option Trip) (f : Part → Part × Option Trip) : Part × Option Trip :=
  match r.2 with
  | some _ => r
  | none => f r.1

/-- A raise counted toward the trip of its kind (R67). -/
def Part.countRaise (p : Part) (l : Fin 6) (k : FaultKind) : Part × Option Trip :=
  let n := min ((p.reader l).trips.getD k.index 0 + 1) 15
  let q := p.modReader l fun r => { r with trips := r.trips.set k.index n }
  let limit := (p.policy k).trip
  (q, if limit ≠ 0 ∧ limit ≤ n then some (k, n) else none)

def Part.modAnalyzer (p : Part) (l : Fin 6) (f : Analyzer → Analyzer) : Part :=
  p.modReader l fun r => { r with analyzer := f r.analyzer }

/-- Clears the analyzer's state (R119). -/
def Part.clearAnalyzer (p : Part) (l : Fin 6) : Part := p.modAnalyzer l fun _ => Analyzer.cleared

/-- Adds an entry to the pending buffer in key order. -/
def insertPending : List PendingFault → PendingFault → List PendingFault
  | [], e => [e]
  | f :: t, e => if e.kind.index < f.kind.index then e :: f :: t else f :: insertPending t e

/-- The buffer after a raise (R129). -/
def bufferRaise (buf : List PendingFault) (k : FaultKind) (frame : Nat) (site : Option (Nat × Nat)) :
    List PendingFault :=
  if buf.any fun f => f.kind == k then
    modWhere buf (fun f => f.kind == k) fun f =>
      { f with count := min (f.count + 1) 127, saturated := f.saturated || decide (127 < f.count + 1) }
  else insertPending buf { kind := k, count := 1, saturated := false, firstFrame := frame, firstSite := site }

/-- A raise of an image kind (R129): dropped when the kind is disabled, else into the buffer and counted. -/
def Part.imageRaise (p : Part) (l : Fin 6) (k : FaultKind) (frame : Nat) (site : Option (Nat × Nat)) :
    Part × Option Trip :=
  if (p.policy k).enabled then
    (p.modAnalyzer l fun a => { a with buffer := bufferRaise a.buffer k frame site }).countRaise l k
  else (p, none)

/-! ### Measures of a whole frame (R118) -/

def siteAt (rows : List (List Nat)) (x y : Nat) : Nat := (rows.getD y []).getD x 0

def apart (a b limit : Nat) : Bool := decide (limit < (a - b) + (b - a))

/-- An extreme site: code 0 or 1023, away from its four same-colour neighbours by more than the isolation. -/
def isExtreme (rows : List (List Nat)) (w h isolation x y : Nat) : Bool :=
  let c := siteAt rows x y
  (c == 0 || c == 1023) && decide (2 ≤ x) && decide (x + 2 < w) && decide (2 ≤ y) && decide (y + 2 < h) &&
    apart c (siteAt rows (x - 2) y) isolation && apart c (siteAt rows (x + 2) y) isolation &&
    apart c (siteAt rows x (y - 2)) isolation && apart c (siteAt rows x (y + 2)) isolation

/-- The extreme sites with their codes, in row order. -/
def extremeSites (rows : List (List Nat)) (w h isolation : Nat) : List (Nat × Nat × Nat) :=
  ((List.range h).map fun y =>
    ((List.range w).filter fun x => isExtreme rows w h isolation x y).map fun x => (x, y, siteAt rows x y)).flatten

def meanCode (sites : List Nat) : Nat := sites.sum / sites.length

def clippedPerMille (sites : List Nat) : Nat := (sites.filter (· == 1023)).length * 1000 / sites.length

/-! ### Trackers (R120, R121) -/

/-- Step 1: a held site that is extreme at the tracker's code has its run raised, any other tracker becomes FREE. -/
def Tracker.held (extremes : List (Nat × Nat × Nat)) (t : Tracker) : Option Tracker :=
  if (t.x, t.y, t.code) ∈ extremes then some { t with run := min (t.run + 1) 255 } else none

/-- The check of a suspect against the known-defect map (R121). -/
def Part.checkSuspect (p : Part) (l : Fin 6) (letter : Nat) (t : Tracker) : Part × Option Trip :=
  match p.fault.defects.find? fun e => e.2.covers letter t.x t.y with
  | some e => ({ p with fault := { p.fault with defects := tmod p.fault.defects e.1 Defect.hit } }, none)
  | none => p.imageRaise l .stuckSite t.first (some (t.x, t.y))

/-- Step 2 for the trackers from number `n` on, in the order of their numbers (log 47). -/
def Part.suspects (l : Fin 6) (letter limit : Nat) : List (Option Tracker) → Nat → Part → Part × Option Trip
  | [], _, p => (p, none)
  | none :: ts, n, p => Part.suspects l letter limit ts (n + 1) p
  | some t :: ts, n, p =>
    if t.suspect = false ∧ limit ≤ t.run then
      let p := p.modAnalyzer l fun a => { a with trackers := a.trackers.set n (some { t with suspect := true }) }
      unlessTrip (p.checkSuspect l letter t) (Part.suspects l letter limit ts (n + 1))
    else Part.suspects l letter limit ts (n + 1) p

/-- Step 3 for one extreme site: the lowest-numbered FREE tracker takes it; the flag says that it was ignored. -/
def takeSite (frame : Nat) (s : List (Option Tracker) × Bool) (e : Nat × Nat × Nat) : List (Option Tracker) × Bool :=
  let isHeld := s.1.any fun t =>
    match t with
    | some t => t.x == e.1 && t.y == e.2.1
    | none => false
  if isHeld then s
  else
    match s.1.findIdx? (·.isNone) with
    | some n =>
      (s.1.set n (some { x := e.1, y := e.2.1, code := e.2.2, run := 1, first := frame, suspect := false }), s.2)
    | none => (s.1, true)

/-- The trackers at a whole frame. -/
def Part.updateTrackers (p : Part) (l : Fin 6) (clip letter frame : Nat) (extremes : List (Nat × Nat × Nat)) :
    Part × Option Trip :=
  let p := p.modAnalyzer l fun a => { a with trackers := a.trackers.map fun t => t.bind (Tracker.held extremes) }
  unlessTrip (Part.suspects l letter (p.policy .stuckSite).first (p.reader l).analyzer.trackers 0 p) fun p =>
    let taken := extremes.foldl (takeSite frame) ((p.reader l).analyzer.trackers, false)
    let p := p.modAnalyzer l fun a => { a with trackers := taken.1 }
    (if taken.2 then p.modClip clip fun c => { c with trackerOverflow := true } else p, none)

/-! ### Detectors (R126, R127) -/

/-- The run and the armed flag after a frame, and whether the detector raises, which disarms it. A kind that is disabled makes
no raise (R67), so its detector stays armed while it runs on, and raises in the same run once enabled again (R116, log 44). -/
def detect (enabled met : Bool) (run : Nat) (armed : Bool) (limit : Nat) : (Nat × Bool) × Bool :=
  if met then
    let n := min (run + 1) 255
    if limit ≤ n ∧ armed ∧ enabled then ((n, false), true) else ((n, armed), false)
  else ((0, true), false)

def Part.detectClipped (p : Part) (l : Fin 6) (frame : Nat) (met : Bool) : Part × Option Trip :=
  let a := (p.reader l).analyzer
  let d := detect (p.policy .clipHigh).enabled met a.clipRun a.clipArmed (p.policy .clipHigh).second
  let p := p.modAnalyzer l fun a => { a with clipRun := d.1.1, clipArmed := d.1.2 }
  if d.2 then p.imageRaise l .clipHigh frame none else (p, none)

def Part.detectBlack (p : Part) (l : Fin 6) (frame : Nat) (met : Bool) : Part × Option Trip :=
  let a := (p.reader l).analyzer
  let d := detect (p.policy .blackFrame).enabled met a.blackRun a.blackArmed (p.policy .blackFrame).second
  let p := p.modAnalyzer l fun a => { a with blackRun := d.1.1, blackArmed := d.1.2 }
  if d.2 then p.imageRaise l .blackFrame frame none else (p, none)

/-! ### Timecode (R128) -/

/-- The frame base of a rate code, none where the check is off. -/
def frameBase : Nat → Option Nat
  | 1 => some 24 | 2 => some 25 | 3 => some 30 | 4 => some 48 | 5 => some 50 | 6 => some 60 | _ => none

def Timecode.valid (t : Timecode) (base : Nat) : Bool :=
  decide (t.hours < 24) && decide (t.minutes < 60) && decide (t.seconds < 60) && decide (t.frames < base)

/-- The timecode one frame on from a valid one. -/
def Timecode.oneOn (t : Timecode) (base : Nat) : Timecode :=
  if t.frames + 1 < base then { t with frames := t.frames + 1 }
  else if t.seconds + 1 < 60 then { t with frames := 0, seconds := t.seconds + 1 }
  else if t.minutes + 1 < 60 then { t with frames := 0, seconds := 0, minutes := t.minutes + 1 }
  else { hours := if t.hours + 1 < 24 then t.hours + 1 else 0, minutes := 0, seconds := 0, frames := 0 }

/-- The timecode expected of a frame, if there is one to expect. -/
def expectedTimecode (start : Timecode) (reference : Option Timecode) (frame base : Nat) : Option Timecode :=
  if frame = 0 then (if start.valid base then some start else none) else reference.map fun t => t.oneOn base

def Part.checkTimecode (p : Part) (l : Fin 6) (c : Clip) (frame : Nat) (t : Timecode) : Part × Option Trip :=
  match frameBase c.rate with
  | none => (p, none)
  | some base =>
    let a := (p.reader l).analyzer
    if t.valid base then
      let q := p.modAnalyzer l fun a => { a with reference := some t }
      match expectedTimecode c.start a.reference frame base with
      | some e => if e = t then (q, none) else q.imageRaise l .frameGap frame none
      | none => (q, none)
    else (p.modAnalyzer l fun a => { a with reference := none }).imageRaise l .frameGap frame none

/-! ### A closed frame (R117) -/

/-- The evaluation of a closed frame: measures and trackers, CLIP_HIGH, BLACK_FRAME, the timecode, in that order. -/
def Part.evaluateFrame (p : Part) (l : Fin 6) (clip : Nat) (c : Clip) (acc : FrameAcc) : Part × Option Trip :=
  let r := p.reader l
  let frame := r.analyzer.closed
  let sites := sitesOf acc.data
  let whole := isWhole r.width r.height sites
  let rows := rowsOf r.width r.height sites
  let p := p.modAnalyzer l fun a => { a with acc := FrameAcc.start, closed := a.closed + 1 }
  let tracked :=
    if whole then
      p.updateTrackers l clip c.ident.letter frame (extremeSites rows r.width r.height (p.policy .stuckSite).second)
    else (p.modAnalyzer l fun a => { a with trackers := a.trackers.map fun _ => none }, none)
  unlessTrip
    (unlessTrip
      (unlessTrip tracked fun p =>
        p.detectClipped l frame (whole && decide ((p.policy .clipHigh).first ≤ clippedPerMille sites)))
      fun p => p.detectBlack l frame (whole && decide (meanCode sites ≤ (p.policy .blackFrame).first)))
    fun p => p.checkTimecode l c frame acc.timecode

/-- A block handed to the analyzer (R117). -/
def Part.analyze (p : Part) (l : Fin 6) (clip : Nat) (c : Clip) (b : Block) (lastBlock : Bool) : Part × Option Trip :=
  let acc := (p.reader l).analyzer.acc.add b
  let p := p.modAnalyzer l fun a => { a with acc := acc }
  if acc.closes b lastBlock then p.evaluateFrame l clip c acc else (p, none)

/-- The raise an entry of the buffer is merged as (R130). -/
def PendingFault.raise (f : PendingFault) : Raise :=
  { kind := f.kind, vol := 0, count := f.count, saturated := f.saturated, firstFrame := some f.firstFrame,
    firstSite := f.firstSite, detail := none }

/-- The merge of the buffer at an ingest completion, after which the analyzer is cleared (R130). -/
def Part.mergePending (p : Part) (l : Fin 6) (clip : Nat) : Part :=
  (p.each (p.reader l).analyzer.buffer fun p f => p.mergeFault clip f.raise).clearAnalyzer l

end Sys2Proof.Machine
end

