-- ==== Sys2Proof/Machine/Pool.lean ====
section
/-! DEFINITION. The Transfer Pool (3.3): slots, their writes, the slot queue. -/

namespace Sys2Proof.Machine

def Part.setSlots (p : Part) (f : List Slot → List Slot) : Part :=
  { p with pool := { p.pool with slots := f p.pool.slots } }

/-- The slots held by a lane. -/
def Part.slotsOf (p : Part) (l : Fin 6) : List Slot := p.pool.slots.filter fun s => s.lane == l

def Part.slot (p : Part) (id : Nat) : Option Slot := p.pool.slots.find? fun s => s.id == id

/-- The slot of a lane whose block is AWAITED. -/
def Part.awaited (p : Part) (l : Fin 6) : Option Slot := p.pool.slots.find? fun s => s.lane == l && s.data.isNone

/-- Takes writes out of their lists; a slot whose count reaches 0 is freed (R52). -/
def Part.dropWrites (p : Part) (test : Slot → SlotWrite → Bool) : Part :=
  p.setSlots fun ss =>
    (ss.map fun s => { s with writes := s.writes.filter fun w => !test s w }).filter fun s => !s.writes.isEmpty

/-- Frees slots whatever their writes. -/
def Part.freeSlots (p : Part) (test : Slot → Bool) : Part := p.setSlots fun ss => ss.filter fun s => !test s

/-- Marks writes whose copy entry has been removed, or whose recopy has ended. -/
def Part.orphanWrites (p : Part) (test : Slot → SlotWrite → Bool) : Part :=
  p.setSlots fun ss =>
    ss.map fun s => { s with writes := modWhere s.writes (test s) fun w => { w with orphan := true } }

/-- A lane withdraws its claim (R53). -/
def Part.leaveQueue (p : Part) (l : Fin 6) : Part :=
  { p with pool := { p.pool with queue := p.pool.queue.filter fun k => k != l } }

/-- The lowest number that names no held slot. -/
def Part.freeSlotId (p : Part) : Option Nat :=
  (List.range Config.slots).find? fun n => (p.slot n).isNone

/-- Marks the write of a slot to a volume as STARTED (R54). -/
def Part.startWrite (p : Part) (id v : Nat) : Part :=
  p.setSlots fun ss => modWhere ss (fun s => s.id == id) fun s =>
    { s with writes := modWhere s.writes (fun w => w.vol == v) fun w => { w with started := true } }

/-- The write of a slot to a volume leaves the list (R52). -/
def Part.endWrite (p : Part) (id v : Nat) : Part := p.dropWrites fun s w => s.id == id && w.vol == v

/-- Writes sent for slots that a reset freed are discarded by their destination lanes (3.9): their answers are late. -/
def Part.lateWrites (p : Part) : Part :=
  p.each allDests fun p d => p.modDest d fun r =>
    { r with
      out := r.out.map fun o =>
        match o.request with
        | .write (.slot id) key n b =>
          if (p.slot id).isNone then { o with request := .write .late key n b } else o
        | _ => o
      recopies := r.recopies.filter fun i =>
        match i with
        | .slot id => (p.slot id).isSome
        | _ => true }

end Sys2Proof.Machine
end

