-- ==== Sys2Proof/Machine/LookApply.lean ====
section
/-! DEFINITION. A look applied to a picture element (R137), exactly: values are held as whole multiples of 1/scale between
a lower and an upper bound, equal where every step so far is exact. The rounding of step 6 is decided by comparisons of
whole numbers. Where the two bounds round to different codes, a value that is a fraction is taken as the fraction, and any
other is bounded again with more bits (log 7). -/

namespace Sys2Proof.Machine

/-! ### Bounds on a value -/

/-- A value not below 0, between two multiples of 1/scale. -/
structure Bounds where
  lo : Nat
  hi : Nat
deriving DecidableEq, Repr

/-- The scale: 1/1023, steps of 1/1024, the luma coefficients and the powers of 2 of the exposure are whole in it. -/
def scale (bits : Nat) : Nat := 1023 * 5000 * 2 ^ bits

/-- The largest r with r * r at most n, by its bits from the highest. -/
def isqrtFrom : Nat → Nat → Nat → Nat
  | 0, _, r => r
  | k + 1, n, r => isqrtFrom k n (if (r + 2 ^ k) * (r + 2 ^ k) ≤ n then r + 2 ^ k else r)

def isqrt (n : Nat) : Nat := isqrtFrom (n.log2 / 2 + 1) n 0

def isqrtUp (n : Nat) : Nat := if isqrt n * isqrt n = n then isqrt n else isqrt n + 1

def divUp (a b : Nat) : Nat := (a + b - 1) / b

def Bounds.mul (bits : Nat) (a b : Bounds) : Bounds :=
  { lo := a.lo * b.lo / scale bits, hi := divUp (a.hi * b.hi) (scale bits) }

def Bounds.sqrt (bits : Nat) (a : Bounds) : Bounds :=
  { lo := isqrt (a.lo * scale bits), hi := isqrtUp (a.hi * scale bits) }

def Bounds.one (bits : Nat) : Bounds := { lo := scale bits, hi := scale bits }

/-- Two to the power r/16 in units of 2 to the power -bits, from below: a 16th root taken as four square roots. -/
def root16 (bits r : Nat) : Nat := isqrt (isqrt (isqrt (isqrt (2 ^ (r + 16 * bits)))))

/-- Steps 1 and 2: exposure, slope and offset, with `e` the exposure trim in sixteenths of a stop. -/
def exposed (bits code : Nat) (e slope offset : Int) : Bounds :=
  let q := e / 16
  let r := (e % 16).toNat
  let f := root16 bits r
  let g := if r = 0 then f else f + 1
  let base (k : Nat) : Int := (code * slope.toNat * 5000 * k * 2 ^ ((q + 8).toNat) / 2 ^ 18 : Nat)
  let up (k : Nat) : Int := (divUp (code * slope.toNat * 5000 * k * 2 ^ ((q + 8).toNat)) (2 ^ 18) : Nat)
  let o : Int := offset * (1023 * 5000 * 2 ^ (bits - 10) : Nat)
  { lo := (base f + o).toNat, hi := (up g + o).toNat }

/-- A value to a whole power. -/
def Bounds.pow (bits : Nat) (a : Bounds) : Nat → Bounds
  | 0 => Bounds.one bits
  | 1 => a
  | n + 2 => (a.pow bits (n + 1)).mul bits a

/-- A value to the power k/1024, k below 1024: square roots, one for each bit of k from 512 down. -/
def Bounds.root (bits : Nat) (a : Bounds) : Nat → Nat → Bounds → Bounds
  | 0, _, acc => acc
  | n + 1, k, acc =>
    let s := a.sqrt bits
    s.root bits n k (if k.testBit n then acc.mul bits s else acc)

/-- Step 3: the power in steps of 1/1024. -/
def Bounds.power (bits : Nat) (a : Bounds) (p : Nat) : Bounds :=
  let whole := a.pow bits (p / 1024)
  if p % 1024 = 0 then whole
  else a.root bits 10 (p % 1024) whole

/-- Step 4 for one channel: the luma is 1063, 3576 and 361 parts of 5000, the saturation `s` in steps of 1/1024. A
channel's coefficient is 5000 s plus its part of 1024 - s; a result below 0 is taken as 0. -/
def saturated (x r g b : Bounds) (s : Int) : Bounds :=
  let part (c : Int) (v : Bounds) : Int × Int :=
    let k := c * (1024 - s)
    if 0 ≤ k then (k * v.lo, k * v.hi) else (k * v.hi, k * v.lo)
  let own : Int × Int := (5000 * s * x.lo, 5000 * s * x.hi)
  let pr := part 1063 r
  let pg := part 3576 g
  let pb := part 361 b
  { lo := ((own.1 + pr.1 + pg.1 + pb.1) / 5120000).toNat,
    hi := (-(-(own.2 + pr.2 + pg.2 + pb.2) / 5120000)).toNat }

/-! ### The rounding -/

/-- Steps 5 and 6: whether the value x/d, shaped, limited to 1.0 and rounded to 1023 steps, reaches code k, k at least 1:
whether the shaped value is at least (2 k - 1) / 2046. -/
def reaches (shaper : Int) (x d k : Nat) : Bool :=
  let m := 2 * k - 1
  if shaper = 1 then decide (2 ^ (3 * m) * d ^ 682 ≤ (256 * x + d) ^ 682)
  else if shaper = 2 then decide (2 ^ m * d ^ 186 ≤ (1024 * x + d) ^ 186)
  else if shaper = 3 then decide (m ^ 12 * d ^ 5 ≤ x ^ 5 * 2046 ^ 12)
  else decide (m * d ≤ 2046 * x)

/-- The largest code reached, by its ten bits from the highest. -/
def codeFrom (shaper : Int) (x d : Nat) : Nat → Nat → Nat
  | 0, k => k
  | n + 1, k => codeFrom shaper x d n (if reaches shaper x d (k + 2 ^ n) then k + 2 ^ n else k)

/-- The code of the value x/d. -/
def codeOf (shaper : Int) (x d : Nat) : Nat := codeFrom shaper x d 10 0

/-! ### A value that is a fraction -/

/-- The exact root of order 2 to the power j, where there is one. -/
def exactRoot : Nat → Nat → Option Nat
  | 0, n => some n
  | j + 1, n => if isqrt n * isqrt n = n then exactRoot j (isqrt n) else none

/-- The exponent p over 2 to the power j in lowest terms. -/
def lowestTerms : Nat → Nat → Nat × Nat
  | 0, p => (0, p)
  | j + 1, p => if p % 2 = 0 then lowestTerms j (p / 2) else (j + 1, p)

/-- The fraction n/d to the power p over 2 to the power j, where that is a fraction. -/
def exactPower (n d p j : Nat) : Option (Nat × Nat) :=
  let t := lowestTerms j p
  let c := n.gcd d
  (exactRoot t.1 (n / c)).bind fun x => (exactRoot t.1 (d / c)).map fun y => (x ^ t.2, y ^ t.2)

/-- Steps 1 to 3 for a channel whose value is a fraction. The 16th power of the value of step 2 is one when the exposure is
whole stops or the offset is 0; the power is then in steps of 1/16384. -/
def exactChannel (code : Nat) (e slope offset : Int) (p : Nat) : Option (Nat × Nat) :=
  let a := code * slope.toNat
  let d := 1023 * 2 ^ 18
  if e % 16 = 0 ∨ a = 0 then
    let n := ((a * 2 ^ ((e / 16 + 8).toNat) : Nat) + offset * (1023 * 2 ^ 8) : Int).toNat
    exactPower (n ^ 16) (d ^ 16) p 14
  else if offset = 0 then exactPower (a ^ 16 * 2 ^ ((e + 128).toNat)) (d ^ 16) p 14
  else none

/-- Step 4 for one channel in fractions; with a saturation of 1.0 the other channels do not count. -/
def exactSaturated (x r g b : Option (Nat × Nat)) (s : Int) : Option (Nat × Nat) :=
  if s = 1024 then x
  else
    match x, r, g, b with
    | some x, some r, some g, some b =>
      let d := r.2 * g.2 * b.2
      let luma : Nat := 1063 * (r.1 * g.2 * b.2) + 3576 * (g.1 * r.2 * b.2) + 361 * (b.1 * r.2 * g.2)
      some ((5000 * s * (x.1 * d : Nat) + (1024 - s) * (luma * x.2 : Nat) : Int).toNat, 5120000 * d * x.2)
    | _, _, _, _ => none

/-! ### A look applied -/

/-- The bounds of the three channels after step 4. -/
def shades (bits : Nat) (v : List Int) (e : Nat × Nat × Nat) : Bounds × Bounds × Bounds :=
  let val (n : Nat) : Int := v.getD n 0
  let chan (code n : Nat) : Bounds :=
    (exposed bits code (val 10) (val n) (val (3 + n))).power bits (val (6 + n)).toNat
  let r := chan e.1 0
  let g := chan e.2.1 1
  let b := chan e.2.2 2
  (saturated r r g b (val 9), saturated g r g b (val 9), saturated b r g b (val 9))

/-- The three channels after step 4 as fractions, where they are. -/
def fractions (v : List Int) (e : Nat × Nat × Nat) : Option (Nat × Nat) × Option (Nat × Nat) × Option (Nat × Nat) :=
  let val (n : Nat) : Int := v.getD n 0
  let chan (code n : Nat) : Option (Nat × Nat) := exactChannel code (val 10) (val n) (val (3 + n)) (val (6 + n)).toNat
  let r := chan e.1 0
  let g := chan e.2.1 1
  let b := chan e.2.2 2
  (exactSaturated r r g b (val 9), exactSaturated g r g b (val 9), exactSaturated b r g b (val 9))

/-- The code that both bounds give, bounded with twice as many bits as long as they give two. Bounds that still give two
after 50 doublings hold a value that is exactly the half between them, which rounds up (log 7). -/
def refine (shaper : Int) (value : Nat → Bounds) : Nat → Nat → Nat
  | 0, bits => codeOf shaper (value bits).hi (scale bits)
  | fuel + 1, bits =>
    let lo := codeOf shaper (value bits).lo (scale bits)
    let hi := codeOf shaper (value bits).hi (scale bits)
    if lo = hi then lo else refine shaper value fuel (2 * bits)

/-- The output code of a channel: from its bounds at 160 bits `x` where they give one code, from the fraction where the
value is one, else from finer bounds. -/
def outputCode (shaper : Int) (x : Bounds) (fraction : Option (Nat × Nat)) (value : Nat → Bounds) : Nat :=
  let lo := codeOf shaper x.lo (scale 160)
  let hi := codeOf shaper x.hi (scale 160)
  if lo = hi then lo
  else
    match fraction with
    | some f => codeOf shaper f.1 f.2
    | none => refine shaper value 50 320

/-- A look of 12 values applied to one element (R137). -/
def applyLook (v : List Int) (e : Nat × Nat × Nat) : Nat × Nat × Nat :=
  let shaper := v.getD 11 0
  let x := shades 160 v e
  (outputCode shaper x.1 (fractions v e).1 fun bits => (shades bits v e).1,
    outputCode shaper x.2.1 (fractions v e).2.1 fun bits => (shades bits v e).2.1,
    outputCode shaper x.2.2 (fractions v e).2.2 fun bits => (shades bits v e).2.2)

/-- The identity parameters (R136). -/
def identityValues : List Int := [1024, 1024, 1024, 0, 0, 0, 1024, 1024, 1024, 1024, 0, 0]

/-- A picture graded by the 12 values of a slot. -/
def Picture.graded (p : Picture) (v : List Int) : Picture := { p with elements := p.elements.map (applyLook v) }

end Sys2Proof.Machine
end

