-- ==== Sys2Proof/Machine/Looks.lean ====
section
/-! DEFINITION. The Look Engine: ranges, commit, pins and references (07). -/

namespace Sys2Proof.Machine

/-- Whether a value is in range for a parameter, counted in steps (R136, R204). -/
def paramInRange (n : Nat) (v : Int) : Bool :=
  if n ≤ 2 then decide (0 ≤ v) && decide (v ≤ 4096)
  else if n ≤ 5 then decide (-1024 ≤ v) && decide (v ≤ 1024)
  else if n ≤ 8 then decide (256 ≤ v) && decide (v ≤ 4096)
  else if n = 9 then decide (0 ≤ v) && decide (v ≤ 4096)
  else if n = 10 then decide (-128 ≤ v) && decide (v ≤ 128)
  else decide (n = 11) && decide (0 ≤ v) && decide (v ≤ 3)

/-- A created look (R139). -/
def Look.created (tag : List Byte) : Look :=
  { tag := tag, staging := identityValues, mask := BitVec.allOnes 12,
    live := { values := identityValues, version := 1, pins := 0 }, held := none,
    refClips := 0, refCameras := 0, refRenders := 0, refChannels := 0 }

/-- The version after a version (R145). -/
def nextVersion (v : Nat) : Nat := if v = 65535 then 1 else v + 1

/-- A commit attempt (R143): the look after a commit made, or none when it is refused LOOK_HELD. -/
def Look.commit (k : Look) : Option Look :=
  if k.staging = k.live.values then some k
  else if k.held.isSome then none
  else
    let fresh : LookSlot := { values := k.staging, version := nextVersion k.live.version, pins := 0 }
    if k.live.pins = 0 then some { k with live := fresh }
    else some { k with live := fresh, held := some k.live }

/-- The parameters whose staged value differs from LIVE, as a set (R151). -/
def Look.differing (k : Look) : Nat :=
  ((List.range 12).map fun n => if k.staging.getD n 0 = k.live.values.getD n 0 then 0 else 2 ^ n).sum

def Look.refs (k : Look) : Nat := k.refClips + k.refCameras + k.refRenders + k.refChannels

def Look.pinned (k : Look) : Bool :=
  decide (0 < k.live.pins) || (match k.held with
    | some h => decide (0 < h.pins)
    | none => false)

/-- The pin claim of a render (R146). -/
def Look.pin (k : Look) : Look := { k with live := { k.live with pins := k.live.pins + 1 } }

/-- The pin release of a version (R147). -/
def Look.unpin (k : Look) (version : Nat) : Look :=
  if k.live.version = version then { k with live := { k.live with pins := k.live.pins - 1 } }
  else
    match k.held with
    | some h =>
      if h.version = version then
        if h.pins ≤ 1 then { k with held := none } else { k with held := some { h with pins := h.pins - 1 } }
      else k
    | none => k

/-- The four kinds of naming (R149). -/
inductive RefKind
  | clips | cameras | renders | channels
deriving DecidableEq, Repr

def Look.moveRef (k : Look) (kind : RefKind) (f : Nat → Nat) : Look :=
  match kind with
  | .clips => { k with refClips := f k.refClips }
  | .cameras => { k with refCameras := f k.refCameras }
  | .renders => { k with refRenders := f k.refRenders }
  | .channels => { k with refChannels := f k.refChannels }

/-- A take claim; one naming a FREE look, or none, is nothing (R149). -/
def Part.refTake (p : Part) (kind : RefKind) (look : Option Nat) : Part :=
  match look with
  | some l => p.modLook l fun k => k.moveRef kind (· + 1)
  | none => p

/-- A release claim; one that finds its term at 0 is discarded (R149). -/
def Part.refRelease (p : Part) (kind : RefKind) (look : Option Nat) : Part :=
  match look with
  | some l => p.modLook l fun k => k.moveRef kind (· - 1)
  | none => p

/-- A reference moved from one look to another; the same look makes no claim (R150). -/
def Part.refMove (p : Part) (kind : RefKind) (old new : Option Nat) : Part :=
  if old = new then p else (p.refRelease kind old).refTake kind new

/-- The values of LIVE of a look, and its version (R138); a FREE look reads as the identity parameters. -/
def Part.readLive (p : Part) (look : Option Nat) : List Int × Option (Nat × Nat) :=
  match look with
  | some l =>
    match p.look l with
    | some k => (k.live.values, some (l, k.live.version))
    | none => (identityValues, none)
  | none => (identityValues, none)

/-- The read by version (R138). -/
def Part.readVersion (p : Part) (used : Option (Nat × Nat)) : List Int :=
  match used with
  | some (l, v) =>
    match p.look l with
    | some k =>
      if k.live.version = v then k.live.values
      else match k.held with
        | some h => if h.version = v then h.values else identityValues
        | none => identityValues
    | none => identityValues
  | none => identityValues

/-- A pin release handed to the Look Engine (R147). -/
def Part.unpin (p : Part) (used : Option (Nat × Nat)) : Part :=
  match used with
  | some (l, v) => p.modLook l fun k => k.unpin v
  | none => p

end Sys2Proof.Machine
end

