-- ==== Sys2Proof/Machine/Preview.lean ====
section
/-! DEFINITION. The preview channels: source selection, reading, showing, losing and regaining a source (8.5 to 8.8). -/

namespace Sys2Proof.Machine

/-! ### Source selection (R168) -/

/-- The lowest-index attached volume on which the clip's copy entry is in a state, one volume passed over. -/
def Part.volumeWith (p : Part) (clip : Nat) (st : CopyState) (excluded : Option Nat) : Option Nat :=
  allVolumes.find? fun v => p.attached v && p.copyState clip v == some st && excluded != some v

/-- The clip's card as a preview source (R168, third place). -/
def Part.cardSource (p : Part) (clip : Nat) : Option Nat :=
  match p.clip clip with
  | some c =>
    match p.card c.card with
    | some card =>
      match card.lane with
      | some l =>
        if card.state ≠ .released ∧ card.state ≠ .erasing ∧ card.erased = false ∧ (p.reader l).state ≠ .equipment then
          some c.card
        else none
      | none => none
    | none => none
  | none => none

/-- The source of a channel for a clip, with a source excluded (R168). -/
def Part.selectSource (p : Part) (clip : Nat) (excluded : Option Source) : Option Source :=
  let noVolume : Option Nat := match excluded with
    | some (.volume v) => some v
    | _ => none
  match p.volumeWith clip .verified noVolume with
  | some v => some (.volume v)
  | none =>
    match p.volumeWith clip .written noVolume with
    | some v => some (.volume v)
    | none =>
      match p.cardSource clip with
      | some c => if excluded = some (.card c) then none else some (.card c)
      | none => none

/-! ### Reading -/

/-- Withdraws a channel's read: one that waits leaves its queue; one sent to a volume runs to its answer, which is
discarded (R84); one sent to a reader is abandoned (log 13). -/
def Part.withdrawRead (p : Part) (c : Fin 2) : Part :=
  let p := p.each allDests fun p d => p.modDest d fun r =>
    { r with
      previews := r.previews.filter fun i => i.channel != c
      out := r.out.map fun o =>
        match o.request with
        | .read (.preview k) key n => if k = c then { o with request := .read .dropped key n } else o
        | _ => o }
  let p := p.each allReaders fun p l => p.modReader l fun r =>
    ({ r with previews := r.previews.filter fun i => i.channel != c } : ReaderLane).abandonOf (.preview c)
  p.modChannel c fun ch => { ch with reading := false }

/-- Turns a channel to the frame at a position: from the clip's first block, or from the block after the shown frame when
the position lies ahead of it (R170, R172). DEDUCED (log 23): ahead of a shown frame that is the clip's last, from the first
block. -/
def Channel.aim (ch : Channel) (pos : Nat) : Channel :=
  let fresh := { ch with goal := .shown pos, next := none, acc := FrameAcc.start, cursor := 0, number := 0 }
  match ch.shown with
  | some f => if f.number < pos ∧ f.last = false then { fresh with cursor := f.after, number := f.number + 1 } else fresh
  | none => fresh

/-- Where reading resumes after a source was replaced: at the frame being sought, at the position with no shown frame yet,
and after the shown frame in PLAYING, where `Channel.turnNext` begins it (R173); else the channel reads the frame at its
position again, which becomes the shown frame when it closes (R170). DEDUCED (log 23): that holds too in PLAYING at the last
frame with loop clear, where no frame comes after the shown one. -/
def Channel.resume (ch : Channel) : Channel :=
  match ch.goal, ch.shown with
  | .shown _, _ => ch.aim ch.position
  | _, none => ch.aim ch.position
  | _, some f =>
    if ch.state = .playing ∧ (f.last = false ∨ ch.loop = true) then
      { ch with goal := .nothing, next := none, acc := FrameAcc.start }
    else { ch.aim ch.position with goal := .again }

/-- The termination SOURCE_LOST of a channel (R169, R173). -/
def sourceLostTerm (clip : Nat) : Termination :=
  { cls := .abnormal, op := .playback, cause := .sourceLost, ref := .clip clip, counts := [], detail := .none }

/-- A channel enters NO_SOURCE (R173): shown frame dropped, position kept, the termination left. -/
def Part.noSource (p : Part) (c : Fin 2) (clip : Nat) : Part :=
  (p.modChannel c fun ch =>
    { ch with state := .noSource, source := none, shown := none, next := none, goal := .nothing,
              acc := FrameAcc.start }).termChannel c (sourceLostTerm clip)

/-- A channel in PAUSED or PLAYING loses its source (R173). -/
def Part.loseSource (p : Part) (c : Fin 2) : Part :=
  match (p.channel c).source, (p.channel c).clip with
  | some s, some clip =>
    let p := p.withdrawRead c
    match p.selectSource clip (some s) with
    | some t => p.modChannel c fun ch => ({ ch with source := some t } : Channel).resume
    | none => p.noSource c clip
  | _, _ => p

/-- A channel in NO_SOURCE selects a source with nothing excluded (R173). -/
def Part.regainSource (p : Part) (c : Fin 2) : Part :=
  match (p.channel c).state, (p.channel c).clip with
  | .noSource, some clip =>
    match p.selectSource clip none with
    | some t => p.modChannel c fun ch => ({ ch with state := .paused, source := some t } : Channel).aim ch.position
    | none => p
  | _, _ => p

/-- Every channel in NO_SOURCE re-selects (R80). -/
def Part.regainAll (p : Part) : Part := p.each allChannels Part.regainSource

/-- The channels in NO_SOURCE that are bound to a clip re-select (R93). -/
def Part.regainClip (p : Part) (clip : Nat) : Part :=
  p.each allChannels fun p c => if (p.channel c).clip = some clip then p.regainSource c else p

/-- Every channel whose source is the one given loses it. -/
def Part.loseAll (p : Part) (s : Source) : Part :=
  p.each allChannels fun p c => if (p.channel c).source = some s then p.loseSource c else p

/-- The channels reading a clip's copy on a volume lose it (R93). -/
def Part.loseCopy (p : Part) (clip v : Nat) : Part :=
  p.each allChannels fun p c =>
    if (p.channel c).source = some (.volume v) ∧ (p.channel c).clip = some clip then p.loseSource c else p

/-! ### Frames -/

/-- A frame becomes the shown frame; the last frame pauses a playing channel whose loop is clear (R170, R171). -/
def Part.showFrame (p : Part) (c : Fin 2) (f : Frame) : Part :=
  let ch := p.channel c
  let q := p.modChannel c fun ch =>
    { ch with shown := some f, position := f.number, goal := .nothing, acc := FrameAcc.start, next := none }
  if ch.state = .playing ∧ f.last = true ∧ ch.loop = false then
    (q.modChannel c fun ch => { ch with state := .paused }).termChannel c
      { cls := .normal, op := .playback, cause := .endOfClip, ref := .clipFrame (ch.clip.getD 0) f.number, counts := [],
        detail := .none }
  else q

/-- A frame closes on the way to the frame at a position: it is shown when it is that frame or the clip's last, and passed
over else (R170, R172). -/
def Part.reachFrame (p : Part) (c : Fin 2) (f : Frame) (n : Nat) : Part :=
  if f.number = n ∨ f.last = true then p.showFrame c f
  else p.modChannel c fun ch => { ch with acc := FrameAcc.start, number := f.number + 1 }

/-- A block reaches a channel (R170). -/
def Part.channelBlock (p : Part) (c : Fin 2) (b : Block) : Part :=
  let ch := p.channel c
  let lastBlock := match ch.clip.bind p.clip with
    | some clip => decide (clip.blockCount ≤ ch.cursor + 1)
    | none => true
  let acc := ch.acc.add b
  let q := p.modChannel c fun ch => { ch with reading := false, acc := acc, cursor := ch.cursor + 1 }
  if acc.closes b lastBlock then
    let f : Frame := { number := ch.number, last := lastBlock, after := ch.cursor + 1, picture := acc.picture }
    match ch.goal with
    | .shown n => q.reachFrame c f n
    | .again => q.reachFrame c f ch.position
    | .next => q.modChannel c fun ch => { ch with next := some f, goal := .nothing, acc := FrameAcc.start }
    | .nothing => q
  else q

/-- The answer of a channel's read: a block, or unreadable, which is a loss of the source (R173). -/
def Part.channelAnswer (p : Part) (c : Fin 2) (b : Option Block) : Part :=
  let p := p.modChannel c fun ch => { ch with reading := false }
  match b with
  | some b => p.channelBlock c b
  | none => p.loseSource c

/-- What a channel reads for next: in PLAYING with a shown frame, no next frame and nothing under way, the frame after the
shown one, or frame 0 after the last frame with loop set; with loop clear the last frame has none after it (R170, R171). -/
def Channel.turnNext (ch : Channel) : Channel :=
  match ch.state, ch.goal, ch.shown, ch.next with
  | .playing, .nothing, some f, none =>
    if f.last then
      if ch.loop then { ch with goal := .next, acc := FrameAcc.start, cursor := 0, number := 0 } else ch
    else { ch with goal := .next, acc := FrameAcc.start, cursor := f.after, number := f.number + 1 }
  | _, _, _, _ => ch

/-- Queues the read of a channel that is reading for a frame and has none under way. -/
def Part.queueRead (p : Part) (c : Fin 2) : Part :=
  let ch := p.channel c
  match ch.goal, ch.reading, ch.source, ch.clip.bind p.clip with
  | .nothing, _, _, _ => p
  | _, false, some (.volume v), some clip =>
    match p.volumeLane v with
    | some d =>
      (p.modDest d fun r =>
        { r with previews := r.previews ++ [{ channel := c, key := clip.key false, index := ch.cursor }] }).modChannel c
        fun ch => { ch with reading := true }
    | none => p
  | _, false, some (.card k), some clip =>
    match (p.card k).bind (·.lane) with
    | some l =>
      (p.modReader l fun r =>
        { r with previews := r.previews ++ [{ channel := c, block := clip.firstBlock + ch.cursor }] }).modChannel c
        fun ch => { ch with reading := true }
    | none => p
  | _, _, _, _ => p

/-- The reading of both channels goes on. -/
def Part.pumpChannels (p : Part) : Part :=
  p.each allChannels fun p c => (p.modChannel c Channel.turnNext).queueRead c

/-- The look a channel applies: its override, else the clip's look as it stands, else none (R170). -/
def Part.channelLook (p : Part) (c : Fin 2) : Option Nat :=
  let ch := p.channel c
  match ch.override with
  | some l => some l
  | none => (ch.clip.bind p.clip).bind (·.look)

/-! ### The scope (R176) -/

/-- The codes of every channel of every element. -/
def Picture.codes (g : Picture) : List Nat := (g.elements.map fun e => [e.1, e.2.1, e.2.2]).flatten

/-- The measures of a frame sent. For a picture with no element they are free values (log 8). -/
def scopeOf (frame : Nat) (used : Option (Nat × Nat)) (g : Picture) : Scope :=
  match g.codes with
  | [] =>
    { frame := frame, look := used.map (·.1), version := used.map (·.2),
      low := (Config.scopeOfNothing frame 0).toNat, high := (Config.scopeOfNothing frame 1).toNat,
      mean := (Config.scopeOfNothing frame 2).toNat, clipped := (Config.clippedOfNothing frame).val }
  | x :: t =>
    { frame := frame, look := used.map (·.1), version := used.map (·.2),
      low := t.foldl min x, high := t.foldl max x, mean := (x :: t).sum / (x :: t).length,
      clipped := ((x :: t).filter (· == 1023)).length * 1000 / (x :: t).length }

/-- Sends a shown frame, graded by the LIVE slot of the channel's look at the request, and samples it when the scope is
armed (R170, R176). -/
def Part.sendFrame (p : Part) (c : Fin 2) (f : Frame) : Part :=
  let live := p.readLive (p.channelLook c)
  let g := f.picture.graded live.1
  let q := p.emit (.video c (some g))
  if (p.channel c).armed then
    q.modChannel c fun ch => { ch with scope := some (scopeOf f.number live.2 g), armed := false }
  else q

/-- An output frame request (R170). -/
def Part.outputRequest (p : Part) (c : Fin 2) : Part :=
  let ch := p.channel c
  match ch.state, ch.next, ch.shown with
  | .playing, some f, some _ => (p.sendFrame c f).showFrame c f
  | .playing, _, some f => p.sendFrame c f
  | .paused, _, some f => p.sendFrame c f
  | _, _, _ => p.emit (.video c none)

/-- Unbinds a channel (R175): position, loop and termination stay. -/
def Part.unbindChannel (p : Part) (c : Fin 2) : Part :=
  if (p.channel c).state = .idle then p
  else
    ((p.withdrawRead c).refRelease .channels (p.channel c).override).modChannel c fun ch =>
      { ch with state := .idle, clip := none, override := none, source := none, shown := none, next := none,
                goal := .nothing, cursor := 0, number := 0, acc := FrameAcc.start, reading := false, scope := none,
                armed := false }

end Sys2Proof.Machine
end

