-- ==== Sys2Proof/Machine/Render.lean ====
section
/-! DEFINITION. The render engine: eligibility, start, work, completion and abort (8.1 to 8.4). -/

namespace Sys2Proof.Machine

/-! ### Proxy blocks (11.4) -/

/-- An element in 6 bytes. -/
def elementBytes (e : Nat × Nat × Nat) : List Byte := leBytes 2 e.1 ++ leBytes 2 e.2.1 ++ leBytes 2 e.2.2

/-- A frame's elements cut into blocks of 699,050 and the rest; always at least one block. -/
def proxyChunks : Nat → List (Nat × Nat × Nat) → List (List (Nat × Nat × Nat))
  | 0, es => [es]
  | fuel + 1, es =>
    if es.length ≤ Config.proxyElements then [es]
    else es.take Config.proxyElements :: proxyChunks fuel (es.drop Config.proxyElements)

/-- The proxy block header (11.4). -/
def proxyHeader (last : Bool) (used : Option (Nat × Nat)) (key : CopyKey) (frame index length across down : Nat) :
    List Byte :=
  padTo 64
    ([0x50, 0x58] ++ flagByte last ++ optBytes 1 (used.map (·.1)) ++ [0] ++ leBytes 2 ((used.map (·.2)).getD 0) ++
      key.bytes ++ [0, 0] ++ leBytes 4 frame ++ leBytes 4 index ++ leBytes 4 length ++ leBytes 2 across ++ leBytes 2 down)

/-- The proxy blocks of a frame, the block check computed over header and payload. -/
def proxyBlocksFrom (used : Option (Nat × Nat)) (key : CopyKey) (frame : Nat) (g : Picture) :
    Nat → List (List (Nat × Nat × Nat)) → List ProxyBlock
  | _, [] => []
  | index, es :: t =>
    let payload := (es.map elementBytes).flatten
    let header := proxyHeader t.isEmpty used key frame index payload.length g.width g.height
    { header := header, payload := payload, check := checkOver header payload payload.length } ::
      proxyBlocksFrom used key frame g (index + 1) t

def proxyBlocks (used : Option (Nat × Nat)) (key : CopyKey) (frame index : Nat) (g : Picture) : List ProxyBlock :=
  proxyBlocksFrom used key frame g index (proxyChunks g.elements.length g.elements)

/-! ### Queue and eligibility (R155, R159) -/

/-- The lane state of a volume's lane. -/
def Part.laneStateOf (p : Part) (v : Nat) : Option DestState := (p.volumeLane v).map fun d => (p.dest d).state

/-- An eligible entry (R159). -/
def Part.eligible (p : Part) (e : RenderEntry) : Bool :=
  (p.volumeWith e.clip .verified none).isSome && p.laneStateOf e.target == some .online

def Part.setRender (p : Part) (f : RenderEngine → RenderEngine) : Part := { p with render := f p.render }

/-- Hands a request to a lane's arbiter as render traffic. -/
def Part.queueRender (p : Part) (v : Nat) (i : RenderItem) : Part :=
  match p.volumeLane v with
  | some d => p.modDest d fun r => { r with renders := r.renders ++ [i] }
  | none => p

/-- The key of a clip's copy or proxy; a free record has none. -/
def Part.keyOf (p : Part) (clip : Nat) (proxy : Bool) : Option CopyKey := (p.clip clip).map fun c => c.key proxy

/-- Queues the next source read of the render (R162). -/
def Part.renderRead (p : Part) : Part :=
  match p.render.active with
  | some x =>
    match p.keyOf x.clip false with
    | some k => p.queueRender x.source (.read k x.nextSource)
    | none => p
  | none => p

/-- Queues the first of the proxy blocks still to be written. -/
def Part.renderWrite (p : Part) : Part :=
  match p.render.active with
  | some x =>
    match p.keyOf x.clip true, x.writes with
    | some k, b :: _ => p.queueRender x.target (.write k x.nextProxy b)
    | _, _ => p
  | none => p

/-- Removes an entry; the reference of its explicit look is released (R155). -/
def Part.removeEntry (p : Part) (tag : Nat) : Part :=
  let look := (p.render.queue.find? fun e => e.tag == tag).bind (·.look)
  (p.setRender fun r => { r with queue := r.queue.filter fun e => e.tag != tag }).refRelease .renders look

/-- The start of a render (R160). -/
def Part.startRender (p : Part) (e : RenderEntry) : Part :=
  match p.volumeWith e.clip .verified none, p.clip e.clip with
  | some source, some clip =>
    let look := match e.look with
      | some l => some l
      | none => clip.look
    let used : Option (Nat × Nat) := look.bind fun l => (p.look l).map fun k => (l, k.live.version)
    let p := match used with
      | some (l, _) => p.modLook l Look.pin
      | none => p
    let onTarget := match clip.proxy with
      | some x => x.vol == e.target
      | none => false
    let p :=
      if onTarget then
        (p.modClip e.clip fun c => { c with proxy := none }).claimRelease e.target (clip.key true)
      else p
    let ctx : RenderCtx :=
      { tag := e.tag, clip := e.clip, source := source, target := e.target, used := used, nextSource := 0,
        acc := FrameAcc.start, nextProxy := 0, frames := 0, proxyBlocks := 0, sourceBlocks := 0, writes := [],
        lastFrame := false }
    (p.setRender fun r => { r with active := some ctx }).renderRead
  | _, _ => p

/-- The examination of the queue: when IDLE with no unsensed termination, the oldest eligible entry starts (R159). -/
def Part.examine (p : Part) : Part :=
  if p.render.active.isNone ∧ p.render.term.unsensed = false then
    match p.render.queue.find? p.eligible with
    | some e => p.startRender e
    | none => p
  else p

/-! ### End of a render -/

def RenderCtx.termination (x : RenderCtx) (cls : TermClass) (cause : Cause) (detail : Detail) : Termination :=
  { cls := cls, op := .render, cause := cause, ref := .render x.tag x.clip x.target x.source,
    counts := [x.frames, x.proxyBlocks, x.sourceBlocks], detail := detail }

/-- Withdraws what the render has waiting or outstanding (R164, step 1): a read sent is discarded at its answer, a write
sent is released at its answer. -/
def Part.withdrawRender (p : Part) : Part :=
  p.each allDests fun p d => p.modDest d fun r =>
    { r with
      renders := []
      out := r.out.map fun o =>
        match o.request with
        | .read .render key n => { o with request := .read .dropped key n }
        | .write .render key n b => { o with request := .write .late key n b }
        | _ => o }

/-- Steps 1 to 6 of an abort (R164, R166). -/
def Part.dropRender (p : Part) : Part :=
  match p.render.active with
  | some x =>
    let p := p.withdrawRender
    let p := match p.keyOf x.clip true with
      | some k => if 0 < x.proxyBlocks then p.claimRelease x.target k else p
      | none => p
    ((p.unpin x.used).removeEntry x.tag).setRender fun r => { r with active := none }
  | none => p

/-- An abort with its termination (R164). -/
def Part.abortRender (p : Part) (cause : Cause) (detail : Detail) : Part :=
  match p.render.active with
  | some x => p.dropRender.termRender (x.termination .abnormal cause detail)
  | none => p

/-- A completion (R163). -/
def Part.completeRender (p : Part) : Part :=
  match p.render.active with
  | some x =>
    let old := (p.clip x.clip).bind (·.proxy)
    let p := match old, p.keyOf x.clip true with
      | some o, some k => if o.vol = x.target then p else p.claimRelease o.vol k
      | _, _ => p
    let p := p.modClip x.clip fun c =>
      { c with proxy := some { vol := x.target, look := x.used.map (·.1), version := x.used.map (·.2),
                               frames := x.frames } }
    (((p.unpin x.used).removeEntry x.tag).setRender fun r => { r with active := none }).termRender
      (x.termination .normal .complete (.look x.used))
  | none => p

/-- The render's source or target on a volume (R86). -/
def Part.renderReads (p : Part) (v : Nat) : Bool := match p.render.active with
  | some x => x.source == v
  | none => false

def Part.renderWrites (p : Part) (v : Nat) : Bool := match p.render.active with
  | some x => x.target == v
  | none => false

def Part.setCtx (p : Part) (f : RenderCtx → RenderCtx) : Part := p.setRender fun r => { r with active := r.active.map f }

/-! ### Work (R162) -/

/-- A source read is answered: a block, or none for unreadable. -/
def Part.renderBlock (p : Part) (b : Option Block) : Part :=
  match p.render.active with
  | some x =>
    match b with
    | none => p.abortRender .sourceLost (.mismatch .unreadable x.nextSource)
    | some b =>
      if b.checkGood then
        match p.clip x.clip with
        | some clip =>
          let lastBlock := decide (clip.blockCount ≤ x.nextSource + 1)
          let acc := x.acc.add b
          let p := p.setCtx fun x =>
            { x with acc := acc, nextSource := x.nextSource + 1, sourceBlocks := x.sourceBlocks + 1 }
          if acc.closes b lastBlock then
            let g := acc.picture.graded (p.readVersion x.used)
            (p.setCtx fun x =>
              { x with acc := FrameAcc.start, lastFrame := lastBlock,
                       writes := proxyBlocks x.used (clip.key true) x.frames x.nextProxy g }).renderWrite
          else p.renderRead
        | none => p
      else p.abortRender .sourceLost (.mismatch .unreadable x.nextSource)
  | none => p

/-- A proxy write is answered DONE. -/
def Part.renderWritten (p : Part) : Part :=
  match p.render.active with
  | some x =>
    let p := p.setCtx fun x =>
      { x with proxyBlocks := x.proxyBlocks + 1, nextProxy := x.nextProxy + 1, writes := x.writes.tail }
    if 2 ≤ x.writes.length then p.renderWrite
    else
      let p := p.setCtx fun x => { x with frames := x.frames + 1 }
      if x.lastFrame then p.completeRender else p.renderRead
  | none => p

end Sys2Proof.Machine
end

