-- ==== Sys2Proof/Machine/Copies.lean ====
section
/-! DEFINITION. Changes and removals of copy entries and what they are handed on to (R93), and the end of a recopy
(R107, R108). -/

namespace Sys2Proof.Machine

/-- The copy entry of a clip on a volume is taken out of the list (R14); the card is evaluated, and channels reading the
copy re-select. -/
def Part.dropCopy (p : Part) (clip v : Nat) : Part :=
  ((p.modClip clip fun c => c.removeCopy v).evaluateClip clip).loseCopy clip v

/-- The recopy in flight on a lane. -/
def Part.recopyOf (p : Part) (d : Fin 4) : Option RecopyCtx :=
  match (p.dest d).explicit with
  | some (.recopy x) => some x
  | _ => none

/-- The reader lane a recopy reads through. -/
def RecopyCtx.readerLane (x : RecopyCtx) : Option (Fin 6) :=
  match x.source with
  | .card l _ => some l
  | .volume _ => none

def RecopyCtx.termination (x : RecopyCtx) (cls : TermClass) (cause : Cause) (detail : Detail) : Termination :=
  { cls := cls, op := .recopy, cause := cause, ref := .recopy x.clip x.target x.source, counts := [x.written],
    detail := detail }

/-- Withdraws the source reads of a recopy that targets a lane: waiting ones, one sent to a volume, one sent to a reader
(R108). -/
def Part.withdrawRecopyReads (p : Part) (d : Fin 4) : Part :=
  let p := p.each allDests fun p e => p.modDest e fun r =>
    { r with
      recopies := r.recopies.filter fun i =>
        match i with
        | .read t _ _ => t != d
        | _ => true
      out := r.out.map fun o =>
        match o.request with
        | .read (.recopy t) key n => if t = d then { o with request := .read .dropped key n } else o
        | _ => o }
  p.each allReaders fun p l => p.modReader l fun r => r.abandonOf (.recopy d)

/-- Withdraws the recopy writes on the target's lane: waiting ones; one sent runs on and is released at its answer. -/
def Part.withdrawRecopyWrites (p : Part) (d : Fin 4) : Part :=
  p.modDest d fun r =>
    { r with
      recopies := r.recopies.filter fun i =>
        match i with
        | .read _ _ _ => true
        | _ => false
      out := r.out.map fun o =>
        match o.request with
        | .write .recopy key n b => { o with request := .write .late key n b }
        | _ => o }

/-- Releases what a recopy from a card holds on its reader lane: the claim, the slots of WAITING writes, the service mark;
a STARTED write runs to its end (R108). -/
def Part.releaseReader (p : Part) (x : RecopyCtx) : Part :=
  match x.readerLane with
  | some l =>
    let p := p.leaveQueue l
    let p := p.dropWrites fun s w => s.lane == l && s.recopy && !w.started
    let p := p.orphanWrites fun s _ => s.lane == l && s.recopy
    p.modReader l fun r => { r with serves := none }
  | none => p

/-- A recopy ends before its write end (R108), without its termination. -/
def Part.dropRecopy (p : Part) (d : Fin 4) : Part :=
  match p.recopyOf d with
  | some x =>
    let p := ((p.withdrawRecopyReads d).withdrawRecopyWrites d).releaseReader x
    let p := p.modDest d fun r => { r with explicit := none }
    let key := p.keyOf x.clip false
    let p := p.dropCopy x.clip x.target
    match key with
    | some k => p.claimRelease x.target k
    | none => p
  | none => p

/-- A recopy ends before its write end with a termination of its lane. -/
def Part.endRecopy (p : Part) (d : Fin 4) (cls : TermClass) (cause : Cause) (detail : Detail) : Part :=
  match p.recopyOf d with
  | some x => (p.dropRecopy d).termDest d (x.termination cls cause detail)
  | none => p

/-- The recopies whose source satisfies a test lose it (R107). -/
def Part.loseRecopies (p : Part) (test : RecopyCtx → Bool) (detail : RecopyCtx → Detail) : Part :=
  p.each allDests fun p d =>
    match p.recopyOf d with
    | some x => if test x then p.endRecopy d .abnormal .noSourceLeft (detail x) else p
    | none => p

/-- The recopies reading a clip's copy on a volume lose it. -/
def Part.loseRecopyCopy (p : Part) (clip v : Nat) : Part :=
  p.loseRecopies (fun x => x.clip == clip && x.source == .volume v) fun _ => .none

/-- The recopies reading any copy on a volume lose it (R86, R88, R90). -/
def Part.loseRecopyVolume (p : Part) (v : Nat) : Part := p.loseRecopies (fun x => x.source == .volume v) fun _ => .none

/-- The recopy that reads through a reader lane loses its source (R44, R105, R107). -/
def Part.loseRecopyReader (p : Part) (l : Fin 6) (detail : Detail) : Part :=
  match (p.reader l).serves with
  | some d => p.endRecopy d .abnormal .noSourceLeft detail
  | none => p

/-- A removal of a copy entry, handed on (R93). -/
def Part.copyGone (p : Part) (clip v : Nat) : Part := (p.dropCopy clip v).loseRecopyCopy clip v

/-- The hand-on of a change of a copy entry from a state to another (R93): the evaluation of the card, the render engine,
the channels, the recopies. The entry has its new state already. -/
def Part.handOn (p : Part) (clip v : Nat) (old st : CopyState) : Part :=
  let p := p.evaluateClip clip
  match st with
  | .verified | .written => (p.examine).regainClip clip
  | .failed _ =>
    let p :=
      if old = .verified ∧ p.renderReads v ∧ (p.render.active.map (·.clip)) = some clip then
        p.abortRender .sourceLost .none
      else p
    (p.loseCopy clip v).loseRecopyCopy clip v
  | .verifying =>
    if old = .verified ∧ p.renderReads v ∧ (p.render.active.map (·.clip)) = some clip then
      p.abortRender .sourceLost .none
    else p
  | .writing => p

/-- A change of a copy entry's state with what the Fault Unit does about it before the change is handed on (R93, R96). A
claim that names no entry is discarded (R14). -/
def Part.copyChange (p : Part) (clip v : Nat) (st : CopyState) (faults : Part → Part) : Part :=
  match p.copyState clip v with
  | some old => (faults (p.modClip clip fun c => c.setCopy v st)).handOn clip v old st
  | none => p

/-- A change of a copy entry's state that concerns no fault. -/
def Part.copyTo (p : Part) (clip v : Nat) (st : CopyState) : Part := p.copyChange clip v st id

/-- A copy found equal to its ingest (R96): VERIFIED, its COPY_MISMATCH entry cured, then the hand-on. -/
def Part.proveCopy (p : Part) (clip v : Nat) : Part :=
  p.copyChange clip v .verified fun q => q.removeFaults clip fun f => f.kind == .copyMismatch && f.vol == v

/-- A copy found different or unreadable (R59, R96, R106): FAILED, COPY_MISMATCH merged, then the hand-on. -/
def Part.failCopy (p : Part) (clip v : Nat) (m : Mismatch) : Part :=
  p.copyChange clip v (.failed m) fun q =>
    q.mergeFault clip (Raise.integrity .copyMismatch v (some (.mismatch m)))

end Sys2Proof.Machine
end

