-- ==== Sys2Proof/Machine/Offload.lean ====
section
/-! DEFINITION. The offload: considering clips, reading them, ingest completion, abandonment, endings, trips, the loss of a
plan volume, and the writes of its slots (03). -/

namespace Sys2Proof.Machine

/-! ### Bookkeeping -/

/-- The reader lane whose offload in flight copies a card. -/
def Part.offloadLane (p : Part) (card : Nat) : Option (Fin 6) :=
  allReaders.find? fun l => match (p.reader l).offload with
    | some x => x.card == card
    | none => false

def Part.modOffload (p : Part) (l : Fin 6) (f : OffloadCtx → OffloadCtx) : Part :=
  p.modReader l fun r => { r with offload := r.offload.map f }

/-- A fan-out entry of a clip has left WRITING: clips copied rises by 1 when it was the last one and one of them became
WRITTEN, while the offload that read the clip is in flight (R59). An entry of an earlier offload is none of the fan-out. -/
def Part.leaveTally (p : Part) (clip v : Nat) (written : Bool) : Part :=
  match (p.clip clip).bind fun c => p.offloadLane c.card with
  | some l =>
    match (p.reader l).offload with
    | some x =>
      match x.tally.find? fun t => t.clip == clip with
      | some t =>
        let left := t.volumes.filter (· != v)
        let any := t.written || written
        let others := x.tally.filter fun t => t.clip != clip
        if v ∉ t.volumes then p
        else if left.isEmpty then
          let p := p.modOffload l fun x => { x with tally := others }
          if any then p.modCard x.card fun c => { c with copied := c.copied + 1 } else p
        else
          p.modOffload l fun x =>
            { x with tally := modWhere x.tally (fun t => t.clip == clip) fun t => { t with volumes := left, written := any } }
      | none => p
    | none => p
  | none => p

def Part.progressOf (p : Part) (clip v : Nat) : CopyProgress :=
  match (p.volumeLane v).bind fun d => (p.dest d).progress.find? fun x => x.clip == clip with
  | some x => x
  | none => { clip := clip, written := 0, digest := digestStart }

/-- Replaces or drops the progress of a copy on its lane. -/
def Part.setProgress (p : Part) (clip v : Nat) (x : Option CopyProgress) : Part :=
  match p.volumeLane v with
  | some d => p.modDest d fun r => { r with progress := r.progress.filter (fun y => y.clip != clip) ++ x.toList }
  | none => p

/-- The clip has a WRITING entry of origin OFFLOAD on a volume. -/
def Part.offloadWriting (p : Part) (clip v : Nat) : Bool :=
  match p.clip clip with
  | some c => c.offloadWriting v
  | none => false

/-- The offload removes a clip's WRITING entry on a volume (R61): the blocks already written are released when the volume
is attached; a STARTED write that completes later makes its own claim. Only blocks written for the entry removed count as
written: blocks that an earlier FAILED copy left under the key make no claim (log 54). -/
def Part.removeWriting (p : Part) (clip v : Nat) : Part :=
  match p.clip clip with
  | some c =>
    if c.offloadWriting v then
      let p := if 0 < (p.progressOf clip v).written then p.claimRelease v (c.key false) else p
      let p := p.setProgress clip v none
      let p := p.orphanWrites fun s w => s.clip == clip && !s.recopy && w.vol == v
      (p.copyGone clip v).leaveTally clip v false
    else p
  | none => p

/-! ### Considering a clip (R49, R50) -/

/-- One plan volume of the fan-out: a candidate whose write claim is taken (R50). -/
def fanOutStep (clip : Nat) (s : Part × List Nat) (v : Nat) : Part × List Nat :=
  match s.1.clip clip with
  | some c => if s.1.usable v && c.writeClaimTaken v then (s.1.modClip clip fun c => c.claimWrite v .offload, s.2 ++ [v]) else s
  | none => s

/-- The fan-out of a clip, in plan order, with its write claims made. -/
def Part.formFanOut (p : Part) (clip : Nat) (plan : Plan) : Part × List Nat := plan.volumes.foldl (fanOutStep clip) (p, [])

/-- A clip is taken up as the current clip (R49, step 6). -/
def Part.takeUp (p : Part) (l : Fin 6) (clip pos : Nat) (c : Clip) (fanOut : List Nat) : Part :=
  let p := if c.ingestDigest.isSome then p else p.clearAnalyzer l
  p.modOffload l fun x =>
    { x with
      current := some { clip := clip, pos := pos, reread := c.ingestDigest.isSome, fanOut := fanOut,
                        barred := fanOut.isEmpty, digest := digestStart, next := c.firstBlock }
      tally := if fanOut.isEmpty then x.tally else x.tally ++ [{ clip := clip, volumes := fanOut, written := false }] }

/-- Considers positions from the card's next position on, until a clip is taken up or the reading is done (R49). -/
def Part.considerFrom (l : Fin 6) : Nat → Part → Part
  | 0, p => p
  | fuel + 1, p =>
    match (p.reader l).offload with
    | none => p
    | some x =>
      match p.card x.card with
      | none => p
      | some card =>
        let k := card.nextPos
        match x.stop, card.clips[k]? with
        | true, _ => p.modOffload l fun x => { x with done := some true }
        | false, none => p.modOffload l fun x => { x with done := some false }
        | false, some clip =>
          let p := p.modCard x.card fun c => { c with nextPos := k + 1 }
          match p.clip clip with
          | none => Part.considerFrom l fuel p
          | some c =>
            if c.isWaived then
              Part.considerFrom l fuel (p.modCard x.card fun c => { c with skipped := c.skipped + 1 })
            else if c.marked && card.plan.skipMarked then
              Part.considerFrom l fuel
                ((p.modClip clip fun c => { c with custody := .waived .cameraMark }).modCard x.card fun c =>
                  { c with skipped := c.skipped + 1 })
            else
              let s := p.formFanOut clip card.plan
              if c.ingestDigest.isSome && s.2.isEmpty then Part.considerFrom l fuel s.1
              else s.1.takeUp l clip k c s.2

/-- Considers the next position: a clip list holds at most 250 clips. -/
def Part.consider (p : Part) (l : Fin 6) : Part := Part.considerFrom l 252 p

/-- The start of an offload (R48). -/
def Part.startOffload (p : Part) (l : Fin 6) (card : Nat) : Part :=
  let p := p.modCard card fun c =>
    { c with state := .offloading, nextPos := 0, copied := 0, failed := 0, skipped := 0 }
  let p := p.modReader l fun r =>
    { r with state := .offloading, trips := List.replicate 8 0, analyzer := Analyzer.cleared, lastFault := none,
             offload := some { card := card, current := none, stop := false, done := none, tally := [] } }
  p.consider l

/-! ### Ending (3.6) -/

/-- The termination of an offload: the card by index, and its progress (3.6). -/
def Part.offloadTerm (p : Part) (x : OffloadCtx) (cls : TermClass) (cause : Cause) (detail : Detail) : Termination :=
  { cls := cls, op := .offload, cause := cause, ref := .card x.card, detail := detail,
    counts := match p.card x.card with
      | some c => [c.nextPos, c.copied, c.failed, c.skipped]
      | none => [] }

/-- The offload leaves its lane: the request abandoned, the slot claim withdrawn, the context discarded. -/
def Part.dropOffload (p : Part) (l : Fin 6) (dst : ReaderState) : Part :=
  (p.leaveQueue l).modReader l fun r => { r.abandonOf .offload with state := dst, offload := none }

/-- An offload ends with its termination, its card to HELD and evaluated (R4). -/
def Part.endOffload (p : Part) (l : Fin 6) (dst : ReaderState) (cls : TermClass) (cause : Cause) (detail : Detail) : Part :=
  match (p.reader l).offload with
  | some x =>
    let t := p.offloadTerm x cls cause detail
    ((p.dropOffload l dst).termReader l t).holdCard x.card
  | none => p

/-- An offload ends on a trip: its card to TRIPPED (R5, R68). -/
def Part.endTripped (p : Part) (l : Fin 6) (trip : Trip) : Part :=
  match (p.reader l).offload with
  | some x =>
    let t := p.offloadTerm x .abnormal .tripped (.trip trip.1 trip.2)
    (((p.dropOffload l .bound).termReader l t).modCard x.card fun c => { c with state := .tripped }).clearAnalyzer l
  | none => p

/-! ### Abandoning a clip (R60) -/

/-- The offload WRITING entries of a clip. -/
def Clip.writingVolumes (c : Clip) : List Nat := (c.copies.map (·.vol)).filter c.offloadWriting

/-- Cancels the WAITING writes of a clip in a lane's slots. -/
def Part.cancelClip (p : Part) (l : Fin 6) (clip : Nat) : Part :=
  p.dropWrites fun s w => s.lane == l && s.clip == clip && !s.recopy && !w.started

/-- The steps of an abandonment that come with a fault and without one: pending faults discarded, entries removed, writes
cancelled, claim withdrawn. The current clip becomes none. -/
def Part.abandonClip (p : Part) (l : Fin 6) : Part :=
  match (p.reader l).offload.bind (·.current) with
  | some cur =>
    let p := p.clearAnalyzer l
    let p := match p.clip cur.clip with
      | some c => p.each c.writingVolumes fun p v => p.removeWriting cur.clip v
      | none => p
    ((p.cancelClip l cur.clip).leaveQueue l).modOffload l fun x => { x with current := none }
  | none => p

/-- The current clip counts as failed (R60, R68), but one whose fan-out was formed empty counts toward none of the three
progress counts (R50); one whose fan-out has shrunk to nothing counts (log 46). -/
def Part.clipFailed (p : Part) (l : Fin 6) : Part :=
  match (p.reader l).offload with
  | some x =>
    match x.current with
    | some cur => if cur.barred then p else p.modCard x.card fun c => { c with failed := c.failed + 1 }
    | none => p
  | none => p

/-- An offload that ends early: the request abandoned, a current clip abandoned without a fault, then the ending. -/
def Part.stopOffload (p : Part) (l : Fin 6) (dst : ReaderState) (cls : TermClass) (cause : Cause) (detail : Detail) : Part :=
  ((p.modReader l fun r => r.abandonOf .offload).abandonClip l).endOffload l dst cls cause detail

/-- A trip during the reading of the current clip (R68). -/
def Part.tripReading (p : Part) (l : Fin 6) (trip : Trip) : Part := ((p.clipFailed l).abandonClip l).endTripped l trip

/-- An abandonment with a fault: READ_ERROR or HEADER_MISMATCH with the block number (R55, R60). -/
def Part.abandonFault (p : Part) (l : Fin 6) (k : FaultKind) (block : Nat) : Part :=
  match (p.reader l).offload.bind (·.current) with
  | some cur =>
    let r := (p.mergeFault cur.clip (Raise.integrity k 0 (some (.block block)))).countRaise l k
    match r.2 with
    | some trip => r.1.tripReading l trip
    | none => ((r.1.clipFailed l).abandonClip l).consider l
  | none => p

/-! ### Ingest (R55 to R58) -/

/-- The SOURCE_MISMATCH raise of an ingest completion, merged and counted. -/
def Part.sourceMismatch (p : Part) (l : Fin 6) (clip : Nat) : Part × Option Trip :=
  (p.mergeFault clip (Raise.integrity .sourceMismatch 0 none)).countRaise l .sourceMismatch

/-- The ingest completion (R57 for FIRST, R58 for REREAD) with the digest of the ingest. -/
def Part.ingestComplete (p : Part) (l : Fin 6) (cur : Current) (c : Clip) (digest : BitVec 64) : Part :=
  let first := c.ingestDigest.isNone
  let p := if first then p.modClip cur.clip fun c => { c with ingestDigest := some digest } else p
  let differs :=
    if first then (match c.cameraDigest with
      | some d => d != digest
      | none => false)
    else c.ingestDigest != some digest
  let r := if differs then p.sourceMismatch l cur.clip else (p, none)
  let p := if cur.reread then r.1 else r.1.mergePending l cur.clip
  let p := p.removeFaults cur.clip fun f => f.kind == .readError || f.kind == .headerMismatch
  let p := p.modOffload l fun x => { x with current := none }
  match r.2 with
  | some trip => p.endTripped l trip
  | none => p.consider l

/-- A block read good for the offload (R55). -/
def Part.offloadBlock (p : Part) (l : Fin 6) (b : Block) : Part :=
  match (p.reader l).offload.bind (·.current) with
  | some cur =>
    match p.clip cur.clip with
    | some c =>
      if c.headerCheck (cur.next - c.firstBlock) b then
        let lastBlock := decide (c.firstBlock + c.blockCount ≤ cur.next + 1)
        let digest := digestAdd cur.digest b
        let r := if cur.reread then (p, none) else p.analyze l cur.clip c b lastBlock
        match r.2 with
        | some trip => r.1.tripReading l trip
        | none =>
          let p := r.1.setSlots fun ss =>
            modWhere ss (fun s => s.lane == l && s.data.isNone) fun s => { s with data := some b }
          if lastBlock then p.ingestComplete l cur c (digestFinal digest)
          else
            p.modOffload l fun x =>
              { x with current := x.current.map fun y => { y with digest := digest, next := y.next + 1 } }
      else p.abandonFault l .headerMismatch cur.next
    | none => p
  | none => p

/-- A block of the offload unreadable after its retries (R55). -/
def Part.offloadUnreadable (p : Part) (l : Fin 6) : Part :=
  match (p.reader l).offload.bind (·.current) with
  | some cur => p.abandonFault l .readError cur.next
  | none => p

/-- The drain has ended: the reading is done and the lane holds no slot (R62). -/
def Part.drainEnd (p : Part) (l : Fin 6) : Part :=
  match (p.reader l).offload with
  | some x =>
    match x.done with
    | some atClip =>
      if (p.slotsOf l).isEmpty then
        p.endOffload l .bound .normal (if atClip then .stoppedAtClip else .complete) .none
      else p
    | none => p
  | none => p

/-! ### Loss of a plan volume (R65) -/

/-- A volume leaves the current clip's fan-out; the offload ends NO_DESTINATION when no plan volume of the card is usable
and the reading is not done. `spare` is the volume that is not counted as usable (log 15). -/
def Part.shrinkFanOut (p : Part) (l : Fin 6) (v : Nat) (spare : Option Nat) : Part :=
  match (p.reader l).offload with
  | some x =>
    let p := p.modOffload l fun x =>
      { x with current := x.current.map fun y => { y with fanOut := y.fanOut.filter (· != v) } }
    let plan := match p.card x.card with
      | some c => c.plan.volumes
      | none => []
    if !(plan.any fun w => p.usable w && spare != some w) && x.done.isNone then
      p.stopOffload l .bound .abnormal .noDestination .none
    else
      match (p.reader l).offload.bind (·.current) with
      | some cur =>
        if cur.fanOut.isEmpty then
          let p := p.leaveQueue l
          if cur.reread then
            (((p.modReader l fun r => r.abandonOf .offload).freeSlots fun s => s.lane == l && s.data.isNone).modOffload l
              fun x => { x with current := none }).consider l
          else p
        else p
      | none => p
  | none => p

/-- The loss of a usable plan volume, taken by one offload (R65). DESIGN CHOICE (log 61): the entries go, and their release
claims are made, in the order of the card's clip list. -/
def Part.losePlanVolume (p : Part) (l : Fin 6) (v : Nat) : Part :=
  match (p.reader l).offload.bind fun x => p.card x.card with
  | some card =>
    if v ∈ card.plan.volumes then
      let p := p.each card.clips fun p clip => p.removeWriting clip v
      let p := p.dropWrites fun s w => s.lane == l && !s.recopy && w.vol == v && !w.started
      p.shrinkFanOut l v (some v)
    else p
  | none => p

/-- The claim reaches the lane of each offload whose card has the volume in its plan. -/
def Part.losePlanVolumeAll (p : Part) (v : Nat) : Part := p.each allReaders fun p l => p.losePlanVolume l v

/-- Removes every WRITING entry of origin OFFLOAD on a volume (R74, R86). DESIGN CHOICE (log 61): by rising clip index, so
that the keys join the release list in that order. -/
def Part.removeWritingOn (p : Part) (v : Nat) : Part :=
  p.each (p.clips.map (·.1)) fun p clip => p.removeWriting clip v

/-! ### Writes of slots (R54, R59) -/

/-- The write end of an offload copy (R59). -/
def Part.writeEnd (p : Part) (clip v : Nat) (digest : BitVec 64) : Part :=
  match p.clip clip with
  | some c =>
    if c.offloadWriting v ∧ (p.volume v).isSome then
      if c.ingestDigest = some digest then
        ((p.modVolume v fun r => { r with verifyList := addOnce r.verifyList clip }).copyTo clip v .written).leaveTally
          clip v true
      else
        (p.failCopy clip v .digest).leaveTally clip v false
    else p
  | none => p

/-- A write of an offload slot completes (R54, R61): the block joins the copy's progress, the last one is the write end; the
block of a removed entry is released, also when the write was granted after the removal (R73, R81). -/
def Part.slotWritten (p : Part) (s : Slot) (v : Nat) (isOrphan : Bool) : Part :=
  if isOrphan then (p.endWrite s.id v).claimRelease v s.key
  else
    match p.clip s.clip, s.data with
    | some c, some b =>
      let old := p.progressOf s.clip v
      let digest := digestAdd old.digest b
      let p := p.endWrite s.id v
      if !c.offloadWriting v then p.claimRelease v s.key
      else if c.blockCount ≤ old.written + 1 then (p.setProgress s.clip v none).writeEnd s.clip v (digestFinal digest)
      else p.setProgress s.clip v (some { clip := s.clip, written := old.written + 1, digest := digest })
    | _, _ => p.endWrite s.id v

/-- A write of an offload slot ends unwritten (R54). DESIGN CHOICE (log 60): a write that was STARTED when its own entry was
removed (R61), as by a Stop Offload NOW, and that ends after an offload has made the clip's WRITING entry on the volume anew,
only leaves its slot: the new entry, its WAITING writes and the fan-out stay. -/
def Part.slotUnwritten (p : Part) (s : Slot) (v : Nat) (isOrphan : Bool) : Part :=
  let p := p.endWrite s.id v
  if isOrphan && p.offloadWriting s.clip v then p
  else
    let p := p.removeWriting s.clip v
    let p := p.dropWrites fun t w => t.clip == s.clip && !t.recopy && w.vol == v && !w.started
    if ((p.reader s.lane).offload.bind (·.current)).map (·.clip) = some s.clip then p.shrinkFanOut s.lane v none else p

end Sys2Proof.Machine
end

