-- ==== Sys2Proof/Machine/Verify.lean ====
section
/-! DEFINITION. Verifies, the sweep, Verify Copy and Recopy at work on their lanes (05). -/

namespace Sys2Proof.Machine

/-! ### Verify (R95, R96) -/

def Part.setSweep (p : Part) (d : Fin 4) (x : Option VerifyCtx) : Part := p.modDest d fun r => { r with sweep := x }
def Part.setExplicit (p : Part) (d : Fin 4) (x : Option ExplicitOp) : Part := p.modDest d fun r => { r with explicit := x }

/-- The verify in flight of one of the two kinds. -/
def Part.verifyOf (p : Part) (d : Fin 4) (explicit : Bool) : Option VerifyCtx :=
  if explicit then (match (p.dest d).explicit with
    | some (.verify x) => some x
    | _ => none)
  else (p.dest d).sweep

def Part.setVerify (p : Part) (d : Fin 4) (explicit : Bool) (x : Option VerifyCtx) : Part :=
  if explicit then p.setExplicit d (x.map .verify) else p.setSweep d x

/-- Queues a verify read (fifth class). -/
def Part.queueVerify (p : Part) (d : Fin 4) (explicit : Bool) (clip index : Nat) : Part :=
  match p.keyOf clip false with
  | some k => p.modDest d fun r => { r with verifies := r.verifies ++ [{ explicit := explicit, key := k, index := index }] }
  | none => p

/-- A verify starts (R95): the context is made, the first read queued, the entry becomes VERIFYING. -/
def Part.startVerify (p : Part) (d : Fin 4) (explicit : Bool) (clip v : Nat) (prior : CopyState) : Part :=
  let x : VerifyCtx := { clip := clip, vol := v, prior := prior, next := 0, digest := digestStart, read := 0 }
  ((p.setVerify d explicit (some x)).queueVerify d explicit clip 0).copyTo clip v .verifying

def VerifyCtx.termination (x : VerifyCtx) (cls : TermClass) (cause : Cause) (detail : Detail) : Termination :=
  { cls := cls, op := .verify, cause := cause, ref := .copy x.clip x.vol, counts := [x.read], detail := detail }

/-- A Verify Copy leaves its termination; a sweep verify leaves none (R97, R101). -/
def Part.verifyTerm (p : Part) (d : Fin 4) (explicit : Bool) (t : Termination) : Part :=
  if explicit then p.termDest d t else p

/-- The result of a verify (R96): none for an equal digest, else the mismatch. One that names no entry is discarded. -/
def Part.verifyResult (p : Part) (d : Fin 4) (explicit : Bool) (x : VerifyCtx) (bad : Option Mismatch) : Part :=
  let p := p.setVerify d explicit none
  match p.copyState x.clip x.vol, p.volume x.vol with
  | some _, some _ =>
    match bad with
    | none => (p.proveCopy x.clip x.vol).verifyTerm d explicit (x.termination .normal .verified .none)
    | some m =>
      (p.failCopy x.clip x.vol m).verifyTerm d explicit
        (x.termination .normal .mismatch (.mismatch m (if m = .unreadable then x.next else 0)))
  | _, _ => p

/-- A verify read is answered: a block, or none for unreadable (R95). The number of blocks read counts the blocks whose check
agrees (log 40). -/
def Part.verifyAnswer (p : Part) (d : Fin 4) (explicit : Bool) (b : Option Block) : Part :=
  match p.verifyOf d explicit with
  | some x =>
    match b with
    | none => p.verifyResult d explicit x (some .unreadable)
    | some b =>
      if b.checkGood then
        let y : VerifyCtx := { x with next := x.next + 1, digest := digestAdd x.digest b, read := x.read + 1 }
        match p.clip x.clip with
        | some c =>
          if c.blockCount ≤ y.next then
            p.verifyResult d explicit y (if c.ingestDigest = some (digestFinal y.digest) then none else some .digest)
          else (p.setVerify d explicit (some y)).queueVerify d explicit x.clip y.next
        | none => p.setVerify d explicit none
      else p.verifyResult d explicit x (some .unreadable)
  | none => p

/-- Puts a clip at the head of a volume's verify list (R94). -/
def Part.listHead (p : Part) (v clip : Nat) : Part :=
  p.modVolume v fun r => { r with verifyList := clip :: r.verifyList.filter (· != clip) }

/-- A verify ends other than by its result (R98, R101): the entry returns to the state it had before. -/
def Part.returnVerify (p : Part) (d : Fin 4) (explicit : Bool) : Part :=
  match p.verifyOf d explicit with
  | some x =>
    let p := p.setVerify d explicit none
    let p := p.modDest d fun r => { r with verifies := r.verifies.filter fun i => i.explicit != explicit }
    let p := if x.prior = .written then p.listHead x.vol x.clip else p
    p.copyTo x.clip x.vol x.prior
  | none => p

/-- The sweep takes its next verify when the conditions of R97 hold. -/
def Part.takeSweep (p : Part) (d : Fin 4) : Part :=
  let r := p.dest d
  match p.boundVolume d with
  | some v =>
    match p.volume v with
    | some rec =>
      match rec.verifyList with
      | clip :: rest =>
        if rec.attach ≠ .detached ∧ rec.mode = .auto ∧ r.sweep.isNone then
          (p.modVolume v fun x => { x with verifyList := rest }).startVerify d false clip v .written
        else p
      | [] => p
    | none => p
  | none => p

/-- The sweep of a lane goes on at the end of an event; one that a reset of the lane has interrupted waits for the Identify
Answer (R98, R109). -/
def Part.resumeSweep (p : Part) (d : Fin 4) : Part := if (p.dest d).reidentify then p else p.takeSweep d

/-! ### Recopy (R103 to R106) -/

/-- The source of a recopy (R103). -/
def Part.recopySource (p : Part) (clip target : Nat) : Option RecopySource :=
  match p.volumeWith clip .verified (some target) with
  | some v => some (.volume v)
  | none =>
    match p.clip clip with
    | some c =>
      match p.card c.card with
      | some card =>
        match card.lane with
        | some l =>
          if (p.reader l).state = .bound ∧ (p.reader l).serves.isNone ∧ card.state ≠ .released ∧ card.state ≠ .erasing ∧
              card.erased = false then some (.card l c.card)
          else none
        | none => none
      | none => none
    | none => none

/-- Queues the next source read of a recopy from a volume (R104). -/
def Part.recopyRead (p : Part) (d : Fin 4) : Part :=
  match p.recopyOf d with
  | some x =>
    match x.source, p.keyOf x.clip false with
    | .volume v, some k =>
      match p.volumeLane v with
      | some e => p.modDest e fun r => { r with recopies := r.recopies ++ [.read d k x.next] }
      | none => p
    | _, _ => p
  | none => p

/-- The start of a recopy (R103). -/
def Part.startRecopy (p : Part) (d : Fin 4) (clip target : Nat) (source : RecopySource) : Part :=
  let p := (p.modClip clip fun c => c.claimWrite target .recopy).evaluateClip clip
  let x : RecopyCtx := { clip := clip, target := target, source := source, next := 0, digest := digestStart, written := 0 }
  let p := p.setExplicit d (some (.recopy x))
  match source with
  | .volume _ => p.recopyRead d
  | .card l _ => p.modReader l fun r => { r with serves := some d }

def Part.modRecopy (p : Part) (d : Fin 4) (f : RecopyCtx → RecopyCtx) : Part :=
  p.modDest d fun r =>
    { r with
      explicit := match r.explicit with
        | some (.recopy x) => some (.recopy (f x))
        | e => e }

/-- A source read of a recopy is answered by its volume: a block, or none for unreadable (R104). -/
def Part.recopyAnswer (p : Part) (d : Fin 4) (b : Option Block) : Part :=
  match p.recopyOf d with
  | some x =>
    let lost := p.endRecopy d .abnormal .noSourceLeft (.mismatch .unreadable x.next)
    match b, p.keyOf x.clip false with
    | some b, some k =>
      if b.checkGood then p.modDest d fun r => { r with recopies := r.recopies ++ [.write k x.next b] } else lost
    | _, _ => lost
  | none => p

/-- The write end of a recopy (R106). -/
def Part.recopyEnd (p : Part) (d : Fin 4) (x : RecopyCtx) (digest : BitVec 64) : Part :=
  let p := match x.readerLane with
    | some l => (p.leaveQueue l).modReader l fun r => { r with serves := none }
    | none => p
  let p := p.setExplicit d none
  if ((p.clip x.clip).bind (·.ingestDigest)) = some digest then
    ((p.modVolume x.target fun r => { r with verifyList := addOnce r.verifyList x.clip }).copyTo x.clip x.target
      .written).termDest d (x.termination .normal .recopied .none)
  else
    (p.failCopy x.clip x.target .digest).termDest d (x.termination .normal .mismatch (.mismatch .digest 0))

/-- A recopy write completes on the target. -/
def Part.recopyWritten (p : Part) (d : Fin 4) (b : Block) : Part :=
  match p.recopyOf d with
  | some x =>
    match p.clip x.clip with
    | some c =>
      let y : RecopyCtx :=
        { x with digest := digestAdd x.digest b, written := x.written + 1,
                 next := match x.source with
                   | .volume _ => x.written + 1
                   | .card _ _ => x.next }
      if c.blockCount ≤ y.written then p.recopyEnd d y (digestFinal y.digest)
      else (p.modRecopy d fun _ => y).recopyRead d
    | none => p
  | none => p

/-- The card block a recopy from a card reads next; past the clip's last block when every block has been read. -/
def Part.recopyBlockNumber (p : Part) (x : RecopyCtx) : Nat :=
  match p.clip x.clip with
  | some c => c.firstBlock + x.next
  | none => 0

/-- A block of a recopy read good from the card (R105). -/
def Part.recopyCardBlock (p : Part) (l : Fin 6) (d : Fin 4) (b : Block) : Part :=
  match p.recopyOf d with
  | some x =>
    match p.clip x.clip with
    | some c =>
      if c.headerCheck x.next b then
        match p.awaited l with
        | some s =>
          let p := p.setSlots fun ss => modWhere ss (fun t => t.id == s.id) fun t => { t with data := some b }
          (p.modDest d fun r => { r with recopies := r.recopies ++ [.slot s.id] }).modRecopy d fun x =>
            { x with next := x.next + 1 }
        | none => p
      else p.endRecopy d .abnormal .noSourceLeft (.header (p.recopyBlockNumber x))
    | none => p
  | none => p

/-- A block of a recopy unreadable on the card (R105). -/
def Part.recopyCardUnreadable (p : Part) (d : Fin 4) : Part :=
  match p.recopyOf d with
  | some x => p.endRecopy d .abnormal .noSourceLeft (.mismatch .unreadable (p.recopyBlockNumber x))
  | none => p

/-- The reader of a recopy has failed (R105, R107): the detail's block number is that of the block the recopy reads next
(log 41). -/
def Part.recopyReaderFailed (p : Part) (l : Fin 6) : Part :=
  match (p.reader l).serves.bind p.recopyOf with
  | some x => p.loseRecopyReader l (.equipment (p.recopyBlockNumber x))
  | none => p

end Sys2Proof.Machine
end

