-- ==== Sys2Proof/Machine/Mount.lean ====
section
/-! DEFINITION. Mounts (R36 to R39) and erases (R70 to R72) of a reader lane. -/

namespace Sys2Proof.Machine

/-! ### Binding -/

/-- The unbind claim of R2: the card is absent, write_protected kept; channels whose source is the card lose it (log 17). -/
def Part.unbindCard (p : Part) (l : Fin 6) : Part :=
  match p.boundCard l with
  | some i => (p.modCard i fun c => { c with lane := none }).loseAll (.card i)
  | none => p

/-- The camera record of a letter takes a body serial; without a record the lowest free one is taken (R15). -/
def Part.bodySerial (p : Part) (letter : Nat) (body : BitVec 64) : Part :=
  match p.cameraOf letter with
  | some e => { p with cameras := tmod p.cameras e.1 fun c => { c with body := body } }
  | none =>
    match tfree p.cameras Config.cameras with
    | some i => { p with cameras := tset p.cameras i { letter := letter, body := body, defaultLook := none } }
    | none => p

/-- The bind claim of R2 for a record, with the facts of the header that the lane keeps (R71). -/
def Part.bindCard (p : Part) (l : Fin 6) (i : Nat) (h : CardHeader) : Part :=
  let p := p.modCard i fun c => { c with lane := some l, writeProtected := (p.reader l).slotLocked }
  (p.bodySerial h.id.letter h.body).modReader l fun r =>
    { r with state := .bound, mount := none, blocks := h.blocks, width := h.width, height := h.height }

/-- A new clip record (R13). -/
def newClip (card : Nat) (id : CardId) (look : Option Nat) (e : DirEntry) : Clip :=
  { card := card, ident := id, number := e.number, firstBlock := e.firstBlock, blockCount := e.blockCount,
    frameCount := e.frameCount, start := e.start, rate := e.rate, marked := e.marked, cameraDigest := e.digest,
    ingestDigest := none, custody := .normal, look := look, copies := [], faults := [], proxy := none,
    trackerOverflow := false }

/-- Registers clips in directory order, each at the lowest free index, with one look reference each (R13). -/
def registerClips (card : Nat) (id : CardId) (look : Option Nat) : List DirEntry → Part → Part × List Nat
  | [], p => (p, [])
  | e :: t, p =>
    match tfree p.clips Config.clips with
    | some i =>
      let q := ({ p with clips := tset p.clips i (newClip card id look e) } : Part).refTake .clips look
      let r := registerClips card id look t q
      (r.1, i :: r.2)
    | none => (p, [])

/-- Row 10 of R38: the camera, the card and its clips are created, and the card is bound. -/
def Part.createCard (p : Part) (l : Fin 6) (i : Nat) (h : CardHeader) (dir : List DirEntry) : Part :=
  let p := p.bodySerial h.id.letter h.body
  let look := (p.cameraOf h.id.letter).bind (·.2.defaultLook)
  let r := registerClips i h.id look dir p
  let card : Card :=
    { id := h.id, state := .ready, lane := some l, writeProtected := (p.reader l).slotLocked, plan := p.standing,
      clips := r.2, erased := false, eraseIncomplete := false, nextPos := 0, copied := 0, failed := 0, skipped := 0 }
  ({ r.1 with cards := tset r.1.cards i card } : Part).bindCard l i h

/-! ### Starting and ending a mount -/

/-- The lane enters MOUNTING to read block 0 (R36, R42, R44). -/
def Part.startMount (p : Part) (l : Fin 6) : Part :=
  p.modReader l fun r =>
    { r with state := .mounting, mount := some none, mountPending := false, remountOwed := false, lastFault := none }

def mountTerm (cls : TermClass) (cause : Cause) (ref : Reference) (counts : List Nat) (detail : Detail) : Termination :=
  { cls := cls, op := .mount, cause := cause, ref := ref, counts := counts, detail := detail }

/-- The card that a mount names: the identity of the header it has read (R39). -/
def Part.mountRef (p : Part) (l : Fin 6) : Reference :=
  match (p.reader l).mount with
  | some (some h) => .identity h.id
  | _ => .none

/-- A mount ends with no record created or bound; a bound card being re-read is unbound (R34, R38, R40, R42). -/
def Part.failMount (p : Part) (l : Fin 6) (dst : ReaderState) (cls : TermClass) (cause : Cause) (ref : Reference)
    (counts : List Nat) (detail : Detail := .none) : Part :=
  ((p.modReader l fun r => { r with state := dst, mount := none }).unbindCard l).termReader l
    (mountTerm cls cause ref counts detail)

/-- A mount that binds or creates ends according to the lane mode and the card (R39). DESIGN CHOICE (log 58): the clip count
of MOUNTED is the length of the record's clip list, also for a RELEASED record whose directory differs or was not read. -/
def Part.endMount (p : Part) (l : Fin 6) (i : Nat) : Part :=
  let p := match p.card i with
    | some card => p.each card.clips Part.regainClip
    | none => p
  match p.card i with
  | some card =>
    if (p.reader l).mode = .auto ∧ card.state = .ready then
      if p.planPasses card.plan then p.startOffload l i
      else p.termReader l (mountTerm .normal .planInvalidAtMount (.card i) [] .none)
    else p.termReader l (mountTerm .normal .mounted (.card i) [card.clips.length] .none)
  | none => p

/-- Whether the directory agrees with a card in use: clip count, and clip number, first block and block count of each entry
in order (R38, row 5). -/
def Part.sameDirectory (p : Part) (card : Card) (dir : List DirEntry) : Bool :=
  (p.clipsOf card).map (fun c => (c.number, c.firstBlock, c.blockCount)) ==
    dir.map fun e => (e.number, e.firstBlock, e.blockCount)

/-- The old record is unbound when the re-read card has another identity (R42). -/
def Part.unbindOther (p : Part) (l : Fin 6) (id : CardId) : Part :=
  match (p.boundCard l).bind p.card with
  | some card => if card.id = id then p else p.unbindCard l
  | none => p

/-- The detail of a termination that carries a sled fault code, when there is one (R29). -/
def codeDetail : Option (BitVec 16) → Detail
  | some c => .code c
  | none => .none

/-- Whether a directory block is in hand and good (R37). -/
def goodDir (h : CardHeader) : Option Block → Bool
  | some b => b.goodDirectory h
  | none => false

/-- The clip count of a directory block, carried by a refusal where one was read (R39). -/
def dirCounts : Option Block → List Nat
  | some b => [b.dirCount]
  | none => []

def dirOf : Option Block → List DirEntry
  | some b => b.dirEntries
  | none => []

/-- The decision of R38 once the header is in hand and the directory is read, or unreadable (none). The directory does not
keep a RELEASED record from binding, whatever it is (R38, R205): row 1 is not applied for its directory (log 48). -/
def Part.decideMount (p : Part) (l : Fin 6) (h : CardHeader) (b : Option Block) (code : Option (BitVec 16)) : Part :=
  let p := p.unbindOther l h.id
  let dir := dirOf b
  let refuse (cause : Cause) : Part := p.failMount l .refused .abnormal cause (.identity h.id) (dirCounts b)
  let unreadable : Part :=
    p.failMount l .refused .abnormal .directoryUnreadable (.identity h.id) (dirCounts b) (codeDetail code)
  match p.cardWith h.id with
  | some (i, card) =>
    if !goodDir h b && !(card.state == .released) then unreadable
    else if card.lane.isSome ∧ card.lane ≠ some l then refuse .duplicatePresent
    else if card.state = .released then (p.bindCard l i h).endMount l i
    else if p.sameDirectory card dir then (p.bindCard l i h).endMount l i
    else refuse .identityConflict
  | none =>
    if !goodDir h b then unreadable
    else if (p.cameraOf h.id.letter).isNone ∧ (tfree p.cameras Config.cameras).isNone then refuse .cameraTableFull
    else
      match tfree p.cards Config.cards with
      | none => refuse .cardTableFull
      | some i =>
        if Config.clips - p.clips.length < dir.length then refuse .clipTableFull
        else (p.createCard l i h dir).endMount l i

/-- A block read good for the mount (R37). -/
def Part.mountBlock (p : Part) (l : Fin 6) (b : Block) : Part :=
  match (p.reader l).mount with
  | some none =>
    if b.blankHeader then p.failMount l .blank .normal .blankCard (.identity b.cardHeader.id) []
    else if b.goodHeader then p.modReader l fun r => { r with mount := some (some b.cardHeader) }
    else p.failMount l .refused .abnormal .directoryUnreadable (.identity b.cardHeader.id) []
  | some (some h) => p.decideMount l h (some b) none
  | none => p

/-- A header or directory block unreadable after its retries (R37). An unreadable directory goes to the decision, which binds
a RELEASED record all the same (R205, log 48). The detail of DIRECTORY_UNREADABLE carries the sled fault code when the mount
ends on a Fault Answer (R29). -/
def Part.mountUnreadable (p : Part) (l : Fin 6) (code : Option (BitVec 16)) : Part :=
  match (p.reader l).mount with
  | some (some h) => p.decideMount l h none code
  | _ => p.failMount l .refused .abnormal .directoryUnreadable (p.mountRef l) [] (codeDetail code)

/-! ### Erase -/

/-- The first Erase Request: block 1 alone (R71). -/
def Part.startErase (p : Part) (l : Fin 6) (card : Nat) : Part :=
  (p.modCard card fun c => { c with state := .erasing }).modReader l fun r =>
    { r with state := .erasing, lastFault := none, erase := some { card := card, form := .run 1 1, erased := 0 } }

/-- The Erase Request after one (R71), for a card of N blocks. -/
def EraseForm.after (blocks : Nat) : EraseForm → EraseForm
  | .run first count =>
    if first + count < blocks then .run (first + count) (min Config.eraseRun (blocks - (first + count))) else .header
  | .header => .header

def eraseTerm (x : EraseCtx) (cls : TermClass) (cause : Cause) (detail : Detail) : Termination :=
  { cls := cls, op := .erase, cause := cause, ref := .card x.card, counts := [x.erased], detail := detail }

/-- An Erase Answer (R71). -/
def Part.eraseAnswered (p : Part) (l : Fin 6) : Part :=
  match (p.reader l).erase with
  | some x =>
    match x.form with
    | .run _ count =>
      p.modReader l fun r =>
        { r with erase := some { x with form := x.form.after r.blocks, erased := x.erased + count } }
    | .header =>
      ((p.modCard x.card fun c => { c with state := .released, erased := true, eraseIncomplete := false }).modReader l
        fun r => { r with state := .bound, erase := none }).termReader l (eraseTerm x .normal .erased .none)
  | none => p

/-- An erase ends as an abort, without its termination (R72). -/
def Part.dropErase (p : Part) (l : Fin 6) (dst : ReaderState) : Part :=
  match (p.reader l).erase with
  | some x =>
    (p.abortErase x.card).modReader l fun r => { r.abandonOf .erase with state := dst, erase := none }
  | none => p

/-- An erase ends as an abort with its termination (R72). -/
def Part.endErase (p : Part) (l : Fin 6) (dst : ReaderState) (cls : TermClass) (cause : Cause) (detail : Detail) : Part :=
  match (p.reader l).erase with
  | some x => (p.dropErase l dst).termReader l (eraseTerm x cls cause detail)
  | none => p

end Sys2Proof.Machine
end

