-- ==== Sys2Proof/Machine/Reader.lean ====
section
/-! DEFINITION. A reader lane: the read procedure, reader failure, stalls, slot events, whom the link serves, and the unit
reset (02). -/

namespace Sys2Proof.Machine

/-! ### Results of a read (2.3) -/

/-- A block read good is handed to its requester (R32). -/
def Part.readGood (p : Part) (l : Fin 6) (o : ReaderOwner) (b : Block) : Part :=
  match o with
  | .mount => p.mountBlock l b
  | .offload => p.offloadBlock l b
  | .recopy d => p.recopyCardBlock l d b
  | .preview c => p.channelAnswer c (some b)
  | .presence | .erase => p

/-- The detail that carries the sled fault code of the last Fault Answer (R66, R72). -/
def Part.faultDetail (p : Part) (l : Fin 6) : Detail := codeDetail (p.reader l).lastFault

/-- A step that stays failed after its retries: a block is unreadable (R33), an erase ends (R72). `code` is the sled fault
code of the Fault Answer that failed it last, none when the block check did. -/
def Part.readUnreadable (p : Part) (l : Fin 6) (o : ReaderOwner) (code : Option (BitVec 16)) : Part :=
  match o with
  | .mount => p.mountUnreadable l code
  | .offload => p.offloadUnreadable l
  | .recopy d => p.recopyCardUnreadable d
  | .preview c => p.channelAnswer c none
  | .erase => p.endErase l .bound .abnormal .equipmentCheck (p.faultDetail l)
  | .presence => p

/-- The reader has failed (R33): the operation in flight ends EQUIPMENT_CHECK, every waiting read goes to its requester as
lane failed, the lane enters EQUIPMENT and its condition-changed flag is set. -/
def Part.readerFailed (p : Part) (l : Fin 6) : Part :=
  let p := p.modReader l fun r => { r with out := none, retries := 0 }
  let detail := p.faultDetail l
  let p := p.recopyReaderFailed l
  let p := match (p.reader l).state with
    | .mounting =>
      (p.modReader l fun r => { r with mount := none }).termReader l
        (mountTerm .abnormal .equipmentCheck (p.mountRef l) [] detail)
    | .offloading => p.stopOffload l .equipment .abnormal .equipmentCheck detail
    | .erasing => p.endErase l .equipment .abnormal .equipmentCheck detail
    | _ => p
  let p := (p.modReader l fun r => { r with state := .equipment }).changedReader l
  match p.boundCard l with
  | some i => p.loseAll (.card i)
  | none => p

/-- A read or an erase step has failed (R33): a Reinit Request, or unreadable when the retries are spent. Its first failure
takes the lane's retry limit, and its retry procedure keeps that one (R43). `code` is the sled fault code of the Fault
Answer, none for a block whose check differs. -/
def Part.stepFailed (p : Part) (l : Fin 6) (o : ReaderOut) (s : ReaderStep) (code : Option (BitVec 16)) : Part :=
  let r := p.reader l
  let limit := if r.retries = 0 then r.retryLimit else r.readLimit
  if r.retries < limit then
    (p.modReader l fun r => { r with out := none, readLimit := limit }).sendReader l (.reinit s) o.owner
  else (p.modReader l fun r => { r with out := none, retries := 0 }).readUnreadable l o.owner code

/-- A reinitialisation has failed (R33). -/
def Part.reinitFailed (p : Part) (l : Fin 6) (o : ReaderOut) (again : ReaderStep) : Part :=
  let p := p.modReader l fun r => { r with out := none, reinitFails := r.reinitFails + 1 }
  if 2 ≤ (p.reader l).reinitFails then p.readerFailed l else p.sendReader l (.reinit again) o.owner

/-- A reinitialisation is done: the same request is sent again (R33). -/
def Part.reinitDone (p : Part) (l : Fin 6) (o : ReaderOut) (again : ReaderStep) : Part :=
  (p.modReader l fun r => { r with out := none, reinitFails := 0, retries := r.retries + 1 }).sendReader l (.step again)
    o.owner

/-! ### Slot events (R30, R36, R40, R41) -/

/-- An insertion (R36): a mount, or the mount pending flag behind an unsensed termination; none in EQUIPMENT. -/
def Part.insertion (p : Part) (l : Fin 6) : Part :=
  let p := p.changedReader l
  if (p.reader l).state = .empty then
    if (p.reader l).term.unsensed then p.modReader l fun r => { r with mountPending := true, remountOwed := false }
    else p.startMount l
  else p

/-- A removal (R40): the operation in flight ends CARD_REMOVED, the card is unbound, the lane enters EMPTY. -/
def Part.removal (p : Part) (l : Fin 6) : Part :=
  let p := p.modReader l fun r => { r with out := none, retries := 0, remountOwed := false }
  let p := match (p.reader l).state with
    | .empty => p.modReader l fun r => { r with mountPending := false }
    | .mounting => p.failMount l .empty .readyChanged .cardRemoved (p.mountRef l) []
    | .bound => p.loseRecopyReader l .none
    | .offloading => p.stopOffload l .empty .readyChanged .cardRemoved .none
    | .erasing => p.endErase l .empty .readyChanged .cardRemoved .none
    | .noReader | .blank | .refused | .equipment => p
  let p := p.unbindCard l
  if (p.reader l).state = .equipment ∨ (p.reader l).state = .noReader then p
  else p.modReader l fun r => { r with state := .empty }

/-- A lock change (R41). -/
def Part.lockChange (p : Part) (l : Fin 6) (locked : Bool) : Part :=
  let p := p.changedReader l
  match p.boundCard l with
  | some i => p.modCard i fun c => { c with writeProtected := locked }
  | none => p

/-- The slot as last reported (R30). -/
def Part.recordSlot (p : Part) (l : Fin 6) (present locked : Bool) (count : Byte) : Part :=
  p.modReader l fun r => { r with slotPresent := present, slotLocked := locked, slotCount := count }

/-- A notice compared with the slot as last reported (R30), which it then becomes. -/
def Part.slotReport (p : Part) (l : Fin 6) (present locked : Bool) (count : Byte) : Part :=
  let r := p.reader l
  let p := p.recordSlot l present locked count
  if present then
    if r.slotPresent = false then p.insertion l
    else if r.slotCount ≠ count then ((p.removal l).changedReader l).insertion l
    else if r.slotLocked ≠ locked then p.lockChange l locked
    else p
  else if r.slotPresent then (p.removal l).changedReader l
  else p

/-- The restart after a reset that a report decides (R44): a card still there is mounted again, bound as it is; a lane with
no card unbinds its record. -/
def Part.remountDecided (p : Part) (l : Fin 6) : Part :=
  let r := p.reader l
  if r.remountOwed = true ∧ r.state = .empty then
    if r.slotPresent then p.startMount l
    else (p.modReader l fun r => { r with remountOwed := false }).unbindCard l
  else p

/-- The answer to a Presence Request: a report, and then the restart it decides (R29, R30, R44). A report of another
insertion count is a removal first, so that a card bound is unbound, and its insertion is then mounted (log 12). -/
def Part.presenceAnswered (p : Part) (l : Fin 6) (present locked : Bool) (count : Byte) : Part :=
  ((p.modReader l fun r => { r with out := none }).slotReport l present locked count).remountDecided l

/-- A report of no card: a Fault Answer to a Presence Request, or its stall (R29, R34). The lock switch and the insertion
count of the slot as last reported stay (log 37). -/
def Part.presenceFailed (p : Part) (l : Fin 6) : Part :=
  p.presenceAnswered l false (p.reader l).slotLocked (p.reader l).slotCount

/-- A reader lost (R41): the slot as last reported keeps its insertion count, and its lock switch (log 37). A request
outstanding is abandoned, a Presence Request with no card in the slot too (log 50). -/
def Part.readerLost (p : Part) (l : Fin 6) : Part :=
  ((p.removal l).changedReader l).modReader l fun r =>
    { r with state := .noReader, mountPending := false, slotPresent := false, reinitFails := 0, presenceOwed := false }

/-- A reader found (R41): the slot counts as one with no card, so that the next notice that shows a card is an insertion
(log 20). -/
def Part.readerFound (p : Part) (l : Fin 6) : Part :=
  let p := p.changedReader l
  if (p.reader l).state = .noReader then
    p.modReader l fun r => { r with state := .empty, slotPresent := false, presenceOwed := true }
  else p

/-! ### Stall (R34) -/

/-- The stall timer expires: the request is abandoned and its owner told. -/
def Part.readerStall (p : Part) (l : Fin 6) : Part :=
  match (p.reader l).out with
  | some o =>
    match o.timer with
    | none => p
    | some _ =>
      let p := p.modReader l fun r => r.abandon
      match o.owner with
      | .presence => p.presenceFailed l
      | .mount => p.failMount l .refused .abnormal .stalled (p.mountRef l) []
      | .offload => p.stopOffload l .bound .abnormal .stalled .none
      | .erase => p.endErase l .bound .abnormal .stalled .none
      | .recopy d => p.endRecopy d .abnormal .noSourceLeft .none
      | .preview c => p.channelAnswer c none
  | none => p

/-! ### Whom the link serves (R35) -/

/-- The card block that the operation in flight on the lane asks for next, and its owner. -/
def Part.laneRequest (p : Part) (l : Fin 6) : Option (ReaderStep × ReaderOwner) :=
  let r := p.reader l
  match r.state with
  | .mounting =>
    match r.mount with
    | some none => some (.block 0, .mount)
    | some (some _) => some (.block 1, .mount)
    | none => none
  | .offloading =>
    match r.offload.bind (·.current) with
    | some cur => if cur.fanOut.isEmpty ∨ (p.awaited l).isSome then some (.block cur.next, .offload) else none
    | none => none
  | .bound =>
    match r.serves with
    | some d =>
      match p.recopyOf d with
      | some x => if (p.awaited l).isSome then some (.block (p.recopyBlockNumber x), .recopy d) else none
      | none => none
    | none => none
  | .erasing => r.erase.map fun x => (.erase x.form, .erase)
  | .noReader | .empty | .blank | .refused | .equipment => none

/-- Sends the next request when the link is free (R35). A read in its retry procedure holds the link, so it is never
free during one. -/
def Part.serveReader (p : Part) (l : Fin 6) : Part :=
  let r := p.reader l
  if r.out.isSome ∨ r.state = .noReader ∨ r.state = .equipment then p
  else if r.presenceOwed then
    (p.modReader l fun r => { r with presenceOwed := false }).sendReader l .presence .presence
  else
    match r.previews with
    | i :: rest =>
      (p.modReader l fun r => { r with previews := rest }).sendReader l (.step (.block i.block)) (.preview i.channel)
    | [] =>
      match p.laneRequest l with
      | some (s, o) => p.sendReader l (.step s) o
      | none => p

/-! ### Slot claims (R53) -/

/-- A lane that has a block to read and no place for it claims a slot. -/
def Part.wantsSlot (p : Part) (l : Fin 6) : Bool :=
  let r := p.reader l
  (p.awaited l).isNone &&
    (match r.state with
     | .offloading =>
       match r.offload.bind (·.current) with
       | some cur => !cur.fanOut.isEmpty
       | none => false
     | .bound =>
       match r.serves.bind p.recopyOf with
       | some x => match p.clip x.clip with
         | some c => decide (x.next < c.blockCount)
         | none => false
       | none => false
     | _ => false)

/-- A granted slot: AWAITED, with one WAITING write for each volume of the fan-out, or for the recopy's target (R53, R105). -/
def Part.newSlot (p : Part) (l : Fin 6) (id : Nat) : Option Slot :=
  let r := p.reader l
  let waiting (vs : List Nat) : List SlotWrite := vs.map fun v => { vol := v, started := false, orphan := false }
  match r.state with
  | .offloading =>
    match r.offload.bind (·.current) with
    | some cur =>
      (p.clip cur.clip).map fun c =>
        { id := id, lane := l, clip := cur.clip, key := c.key false, block := cur.next,
          index := cur.next - c.firstBlock, recopy := false, data := none, writes := waiting cur.fanOut }
    | none => none
  | _ =>
    match r.serves.bind p.recopyOf with
    | some x =>
      (p.clip x.clip).map fun c =>
        { id := id, lane := l, clip := x.clip, key := c.key false, block := c.firstBlock + x.next, index := x.next,
          recopy := true, data := none, writes := waiting [x.target] }
    | none => none

/-- Lanes that claim join the tail of the queue (R53). -/
def Part.joinQueue (p : Part) : Part :=
  p.each allReaders fun p l =>
    if p.wantsSlot l then { p with pool := { p.pool with queue := addOnce p.pool.queue l } } else p

/-- Grants free slots to the first lane in queue order that holds fewer than 16, one at a time (R53). -/
def Part.grantSlots : Nat → Part → Part
  | 0, p => p
  | fuel + 1, p =>
    match p.pool.queue.find? (fun l => decide ((p.slotsOf l).length < Config.slotsPerLane)), p.freeSlotId with
    | some l, some id =>
      let q := p.leaveQueue l
      match p.newSlot l id with
      | some s => Part.grantSlots fuel (q.setSlots fun ss => ss ++ [s])
      | none => Part.grantSlots fuel q
    | _, _ => p

/-! ### Reset (R44, R45, R73) -/

/-- The slots of a lane are freed whatever their writes, and every WRITING entry of their clips on the volumes of their
writes is removed, one that a later offload made anew too (R73, step 4). DESIGN CHOICE (log 61): in the order in which the
slots were granted, so that the keys join the release lists in that order. -/
def Part.freeLaneSlots (p : Part) (l : Fin 6) : Part :=
  let served := ((p.slotsOf l).filter fun s => !s.recopy).map fun s => s.writes.map fun w => (s.clip, w.vol)
  let p := (p.freeSlots fun s => s.lane == l).lateWrites
  p.each served.flatten fun p e => p.removeWriting e.1 e.2

/-- The offload of a lane and the slots it holds are ended by a reset, with no termination (R73). Its tally goes first, so
that the entries removed leave the card's progress fields as they are (R3, R28). DESIGN CHOICE (log 61): the entries of the
slots go first, then those of the card in the order of its clip list. -/
def Part.resetOffload (p : Part) (l : Fin 6) : Part :=
  let ctx := (p.reader l).offload
  let p := (p.modReader l fun r => { r with out := none, retries := 0 }).clearAnalyzer l
  let p := (p.modOffload l fun x => { x with current := none, tally := [] }).freeLaneSlots l
  match ctx with
  | some x =>
    let p := match p.card x.card with
      | some card => p.each card.clips fun p clip =>
          match p.clip clip with
          | some c => p.each c.writingVolumes fun p v => p.removeWriting clip v
          | none => p
      | none => p
    ((p.leaveQueue l).modReader l fun r => { r with offload := none, state := .bound }).holdCard x.card
  | none => p.leaveQueue l

/-- The channels with a read waiting or sent on a reader lane. -/
def Part.readingLane (p : Part) (l : Fin 6) (c : Fin 2) : Bool :=
  ((p.reader l).previews.any fun i => i.channel == c) ||
    (match (p.reader l).out with
     | some o => o.owner == .preview c
     | none => false)

/-- What a reset ends on a reader lane, in one event (R44): the request, a mount, an offload, an erase, the previews' reads,
the termination and its flags. The lane's recopy has been ended before. -/
def Part.clearReader (p : Part) (l : Fin 6) : Part :=
  let p := p.each (allChannels.filter (p.readingLane l)) Part.loseSource
  let p := p.resetOffload l
  let p := p.dropErase l .bound
  p.modReader l fun r =>
    { r with out := none, retries := 0, reinitFails := 0, mount := none, serves := none, mountPending := false,
             previews := [], term := TermSlot.none, changed := false }

/-- The lane restarts after a reset: EMPTY, with a Presence Request that decides what follows (R44, log 12). -/
def Part.restartReader (p : Part) (l : Fin 6) : Part :=
  p.modReader l fun r =>
    if r.state = .noReader then r else { r with state := .empty, presenceOwed := true, remountOwed := true }

/-- A unit reset of a reader lane (R44). -/
def Part.resetReader (p : Part) (l : Fin 6) : Part :=
  (((p.loseRecopyReader l .none).clearReader l).restartReader l)

end Sys2Proof.Machine
end

