-- ==== Sys2Proof/Machine/Dest.lean ====
section
/-! DEFINITION. A destination lane: attach and detach, free space, the arbiter, answers, stalls, and the unit reset (04). -/

namespace Sys2Proof.Machine

/-! ### Free space and FULL (R81, R82) -/

/-- Entry into FULL, handed on in the order in which R82 lists whom it reaches; the release claims follow it (log 61). -/
def Part.enterFull (p : Part) (d : Fin 4) (v : Nat) : Part :=
  let p := (p.modDest d fun r => { r with state := .full }).changedDest d
  let p := p.losePlanVolumeAll v
  let p := p.endRecopy d .abnormal .destFull .none
  if p.renderWrites v then p.abortRender .destFull .none else p

/-- Exit from FULL (R82, R159). -/
def Part.exitFull (p : Part) (d : Fin 4) : Part :=
  ((p.modDest d fun r => { r with state := .online }).changedDest d).examine

/-- A report of free blocks for the volume bound to a lane; with none bound no record changes (R81, R82). -/
def Part.setFree (p : Part) (d : Fin 4) (n : Nat) : Part :=
  match p.boundVolume d with
  | some v =>
    let p := p.modVolume v fun r => { r with free := n }
    if (p.dest d).state = .online ∧ n = 0 then p.enterFull d v
    else if (p.dest d).state = .full ∧ 0 < n then p.exitFull d
    else p
  | none => p

/-! ### Departure (R86, R206) -/

/-- Empties the arbiter: its queues and the verify guard (R86, R90). -/
def DestLane.emptyArbiter (r : DestLane) : DestLane :=
  { r with previews := [], recopies := [], verifies := [], renders := [], progress := [], guard := 0 }

/-- A Verify Copy on a lane ends READY_CHANGED VOLUME_DETACHED (R101). -/
def Part.verifyDetached (p : Part) (d : Fin 4) : Part :=
  match p.verifyOf d true with
  | some x => (p.returnVerify d true).termDest d (x.termination .readyChanged .volumeDetached .none)
  | none => p

/-- The steps of R86 for a bound volume. The release list is discarded by the Detach Notice (R81), kept by an Eject (R88). -/
def Part.detach (p : Part) (d : Fin 4) (v : Nat) : Part :=
  let p := p.modDest d fun r => { r with out := none }
  let p := p.modVolume v fun r => { r with attach := .detached, lane := none }
  let p := p.dropWrites fun s w => !s.recopy && w.vol == v
  let p := p.removeWritingOn v
  let p := p.losePlanVolumeAll v
  let p := p.verifyDetached d
  let p := p.returnVerify d false
  let p := p.endRecopy d .readyChanged .volumeDetached .none
  let p := p.dropWrites fun _ w => w.vol == v
  let p := p.loseRecopyVolume v
  let p := if p.renderReads v then p.abortRender .sourceLost .none else p
  let p := if p.renderWrites v then p.abortRender .destDetached .none else p
  let p := p.loseAll (.volume v)
  let p := p.evaluateVolume v
  p.modDest d fun r => { r.emptyArbiter with state := .empty, reidentify := false, changed := true }

/-- A Detach Notice, or link down, in any lane state (R79, R86, R206). -/
def Part.detachNotice (p : Part) (d : Fin 4) : Part :=
  let p := match p.boundVolume d with
    | some v => p.detach d v
    | none => p
  p.modDest d fun r =>
    { r with state := .empty, out := none, release := [], present := false, identifyPending := false,
             ejectOwed := false, reidentify := false }

/-! ### Arrival and identification (R79, R80) -/

/-- A held-back identification starts when the lane is EMPTY, its termination sensed and its link free (R79, R194). -/
def Part.startIdentify (p : Part) (d : Fin 4) : Part :=
  let r := p.dest d
  if r.state = .empty ∧ r.identifyPending = true ∧ r.term.unsensed = false ∧ r.out.isNone then
    (p.modDest d fun r => { r with state := .identifying, identifyPending := false }).sendVolume d .identify
  else p

/-- An Arrival Notice (R79); while a volume is present it is taken as a Detach Notice first. -/
def Part.arrival (p : Part) (d : Fin 4) : Part :=
  let p := if (p.dest d).state = .empty ∧ (p.dest d).present = false then p else p.detachNotice d
  (p.modDest d fun r => { r with present := true, identifyPending := true }).startIdentify d

/-- The lane state of a volume that attaches (R80). -/
def attachState (isProtected : Bool) (free : Nat) : DestState :=
  if isProtected then .onlineReadonly else if free = 0 then .full else .online

def attachmentOf (isProtected : Bool) : Attachment := if isProtected then .onlineReadonly else .online

/-- An attach handed to the neighbours (R80): Custody Tables, render engine, channels in NO_SOURCE. -/
def Part.handAttach (p : Part) (v : Nat) : Part := ((p.evaluateVolume v).examine).regainAll

def identifyTerm (cls : TermClass) (cause : Cause) (ref : Reference) (counts : List Nat) (detail : Detail) : Termination :=
  { cls := cls, op := .identify, cause := cause, ref := ref, counts := counts, detail := detail }

/-- To attach (R80). -/
def Part.attach (p : Part) (d : Fin 4) (v : Nat) (isProtected : Bool) (free : Nat) : Part :=
  let p := p.modVolume v fun r => { r with lane := some d, attach := attachmentOf isProtected, free := free }
  let p := (p.modDest d fun r => { r with state := attachState isProtected free }).changedDest d
  (p.handAttach v).termDest d
    (identifyTerm .normal .attached (.volume v)
      [(attachmentOf isProtected).code, free % 4294967296, free / 4294967296] .none)

def Part.refuseVolume (p : Part) (d : Fin 4) (cause : Cause) (ref : Reference) (detail : Detail) : Part :=
  (p.modDest d fun r => { r with state := .refused }).termDest d (identifyTerm .abnormal cause ref [] detail)

def newVolume (label : List Byte) (serial : BitVec 64) : Volume :=
  { label := label, serial := serial, role := .archive, lane := none, attach := .detached, free := 0, mode := .auto,
    verifyList := [] }

/-- An Identify Answer decided against the Volume Table (R80). -/
def Part.decideVolume (p : Part) (d : Fin 4) (label : List Byte) (serial : BitVec 64) (isProtected : Bool) (free : Nat) :
    Part :=
  match p.volumes.find? fun e => e.2.sameIdentity label serial with
  | some (v, r) =>
    if r.lane.isSome ∧ r.lane ≠ some d then p.refuseVolume d .identityConflict (.volumeIdentity label serial) .none
    else p.attach d v isProtected free
  | none =>
    match tfree p.volumes Config.volumes with
    | some v => ({ p with volumes := tset p.volumes v (newVolume label serial) } : Part).attach d v isProtected free
    | none => p.refuseVolume d .volumeTableFull (.volumeIdentity label serial) .none

/-- The re-identification after a unit reset names the bound volume (R90): free blocks and attachment are replaced, the
volume is handed on as an attach, and a volume turned read-only or FULL is handed on as such. A recopy or a render to a
volume turned read-only goes on (log 42). -/
def Part.refreshVolume (p : Part) (d : Fin 4) (v : Nat) (isProtected : Bool) (free : Nat) : Part :=
  let before := (p.dest d).state
  let after := attachState isProtected free
  let p := p.modVolume v fun r => { r with attach := attachmentOf isProtected, free := free }
  let p := p.modDest d fun r => { r with state := after, reidentify := false, changed := r.changed || before != after }
  let p := p.handAttach v
  if before = after then p
  else if after = .full then p.enterFull d v
  else if after = .onlineReadonly then p.losePlanVolumeAll v
  else p

/-- An Identify Answer (R80, R90). -/
def Part.identified (p : Part) (d : Fin 4) (label : List Byte) (serial : BitVec 64) (isProtected : Bool) (free : Nat) :
    Part :=
  let p := p.modDest d fun r => { r with out := none }
  match p.boundVolume d with
  | some v =>
    match p.volume v with
    | some r =>
      if r.sameIdentity label serial then p.refreshVolume d v isProtected free
      else ((p.detach d v).modDest d fun r => { r with release := [] }).decideVolume d label serial isProtected free
    | none => p
  | none => p.decideVolume d label serial isProtected free

/-- The stall of an Identify Request, or a Fault Answer to it (R87, R90): a volume still bound is detached first. The volume
present flag stays set in REFUSED (log 38). -/
def Part.identifyFailed (p : Part) (d : Fin 4) (detail : Detail) : Part :=
  let p := p.modDest d fun r => { r with out := none }
  let p := match p.boundVolume d with
    | some v => (p.detach d v).modDest d fun r => { r with release := [] }
    | none => p
  p.refuseVolume d .stalled .none detail

/-! ### The arbiter (R84, R85) -/

/-- The reader lanes in the order of the round-robin search. -/
def robinOrder (start : Fin 6) : List (Fin 6) := allReaders.map fun k => start + k

/-- The head of a reader lane's queue of writes to a volume: the first PRESENT slot with a WAITING write to it. -/
def Part.laneWrite (p : Part) (v : Nat) (l : Fin 6) : Option (Slot × Block) :=
  (p.pool.slots.find? fun s =>
    s.lane == l && !s.recopy && s.data.isSome && s.writes.any fun w => w.vol == v && !w.started).bind fun s =>
    s.data.map fun b => (s, b)

/-- The next offload write to a volume (R84). -/
def Part.nextOffload (p : Part) (d : Fin 4) (v : Nat) : Option (Slot × Block) :=
  ((robinOrder (p.dest d).robin).filterMap (p.laneWrite v)).head?

/-- The guard count after a request other than a verify read or a release (R85). -/
def DestLane.raiseGuard (r : DestLane) : DestLane :=
  if r.verifies.isEmpty then r else { r with guard := min (r.guard + 1) Config.verifyGuard }

def Part.sendRelease (p : Part) (d : Fin 4) (k : CopyKey) : Part :=
  (p.modDest d fun r => { r with release := r.release.tail }).sendVolume d (.release k)

def Part.sendVerify (p : Part) (d : Fin 4) (i : VerifyItem) : Part :=
  (p.modDest d fun r => { r with verifies := r.verifies.tail, guard := 0 }).sendVolume d
    (.read (if i.explicit then .explicit else .sweep) i.key i.index)

/-- Sends a recopy request (fourth class). -/
def Part.sendRecopy (p : Part) (d : Fin 4) (v : Nat) (i : RecopyItem) : Part :=
  let p := p.modDest d fun r => { r.raiseGuard with recopies := r.recopies.tail }
  match i with
  | .read t k n => p.sendVolume d (.read (.recopy t) k n)
  | .write k n b => p.sendVolume d (.write .recopy k n (.copy b))
  | .slot id =>
    match p.slot id with
    | some s => match s.data with
      | some b => (p.startWrite id v).sendVolume d (.write (.slot id) s.key s.index (.copy b))
      | none => p
    | none => p

/-- Sends a render request (sixth class). -/
def Part.sendRender (p : Part) (d : Fin 4) (i : RenderItem) : Part :=
  let p := p.modDest d fun r => { r.raiseGuard with renders := r.renders.tail }
  match i with
  | .read k n => p.sendVolume d (.read .render k n)
  | .write k n b => p.sendVolume d (.write .render k n (.proxy b))

/-- The next request of a lane whose volume is bound and identified (R84, R85). -/
def Part.arbitrate (p : Part) (d : Fin 4) (v : Nat) : Part :=
  let r := p.dest d
  match r.release, r.verifies with
  | k :: _, _ => p.sendRelease d k
  | [], verifies =>
    match verifies, decide (Config.verifyGuard ≤ r.guard) with
    | i :: _, true => p.sendVerify d i
    | _, _ =>
      match r.previews with
      | i :: _ =>
        (p.modDest d fun r => { r.raiseGuard with previews := r.previews.tail }).sendVolume d
          (.read (.preview i.channel) i.key i.index)
      | [] =>
        match p.nextOffload d v with
        | some (s, b) =>
          ((p.modDest d fun r => { r.raiseGuard with robin := s.lane + 1 }).startWrite s.id v).sendVolume d
            (.write (.slot s.id) s.key s.index (.copy b))
        | none =>
          match r.recopies, verifies, r.renders with
          | i :: _, _, _ => p.sendRecopy d v i
          | [], i :: _, _ => p.sendVerify d i
          | [], [], i :: _ => p.sendRender d i
          | [], [], [] => p

/-- Sends the next request when the link is free: after an Eject the release list and the Eject Request (R88); before a
re-identification the release list and the Identify Request (R90); else as the arbiter gives. -/
def Part.serveDest (p : Part) (d : Fin 4) : Part :=
  let p := p.modDest d fun r => if r.verifies.isEmpty then { r with guard := 0 } else r
  let r := p.dest d
  if r.out.isSome then p
  else
    match p.boundVolume d with
    | some v =>
      if r.reidentify then
        match r.release with
        | k :: _ => p.sendRelease d k
        | [] => p.sendVolume d .identify
      else p.arbitrate d v
    | none =>
      if r.state = .empty ∧ r.ejectOwed = true then
        match r.release with
        | k :: _ => p.sendRelease d k
        | [] => (p.modDest d fun r => { r with ejectOwed := false }).sendVolume d .eject
      else p.startIdentify d

/-! ### Answers (R75, R84) -/

/-- The write of a slot to a volume. -/
def Slot.writeTo (s : Slot) (v : Nat) : Option SlotWrite := s.writes.find? fun w => w.vol == v

/-- A write is stored (R54, R84, R104, R162); a late one is released (R61, R81). -/
def Part.writeStored (p : Part) (d : Fin 4) (v : Nat) (o : WriteOwner) (key : CopyKey) (b : Stored) : Part :=
  match o with
  | .slot id =>
    match p.slot id with
    | some s =>
      match s.writeTo v with
      | some w =>
        if s.recopy then
          let q := p.endWrite id v
          if w.orphan then q.claimRelease v s.key
          else match s.data with
            | some b => q.recopyWritten d b
            | none => q
        else p.slotWritten s v w.orphan
      | none => p
    | none => p
  | .recopy => match b with
    | .copy b => p.recopyWritten d b
    | .proxy _ => p
  | .render => p.renderWritten
  | .late => p.claimRelease v key

/-- A write ends unwritten: a recopy and a render end with the cause given. -/
def Part.writeUnwritten (p : Part) (d : Fin 4) (v : Nat) (o : WriteOwner) (recopyEnds renderEnds : Cause) (detail : Detail) :
    Part :=
  match o with
  | .slot id =>
    match p.slot id with
    | some s =>
      match s.writeTo v with
      | some w =>
        if s.recopy then
          let q := p.endWrite id v
          if w.orphan then q else q.endRecopy d .abnormal recopyEnds detail
        else p.slotUnwritten s v w.orphan
      | none => p
    | none => p
  | .recopy => p.endRecopy d .abnormal recopyEnds detail
  | .render => p.abortRender renderEnds detail
  | .late => p

/-- A Write Answer (R54, R81, R82): the write first, then the free blocks, which may make the lane FULL. The write that a
NO_SPACE ends unwritten is ended while the volume still counts as usable (log 53). -/
def Part.writeAnswered (p : Part) (d : Fin 4) (o : WriteOwner) (key : CopyKey) (b : Stored) (stored : Bool) (free : Nat) :
    Part :=
  match p.boundVolume d with
  | some v =>
    if stored then (p.writeStored d v o key b).setFree d free
    else (p.writeUnwritten d v o .destFull .destFull .none).setFree d 0
  | none => p

/-- A read is answered: a block, or none for unreadable. A preview takes a block whose check differs as unreadable (R170). -/
def Part.readAnswered (p : Part) (d : Fin 4) (o : ReadOwner) (b : Option Block) : Part :=
  match o with
  | .preview c =>
    match b with
    | some b => p.channelAnswer c (if b.checkGood then some b else none)
    | none => p.channelAnswer c none
  | .recopy t => p.recopyAnswer t b
  | .sweep => p.verifyAnswer d false b
  | .explicit => p.verifyAnswer d true b
  | .render => p.renderBlock b
  | .dropped => p

/-- A Fault Answer from a volume (R75, R87). -/
def Part.volumeFault (p : Part) (d : Fin 4) (o : VolumeOut) (code : BitVec 16) : Part :=
  let p := p.modDest d fun r => { r with out := none }
  match o.request with
  | .identify => p.identifyFailed d (.code code)
  | .write owner _ _ _ =>
    match p.boundVolume d with
    | some v => p.writeUnwritten d v owner .stalled .stalled (.code code)
    | none => p
  | .read owner _ _ => p.readAnswered d owner none
  | .release _ | .eject => p

/-! ### Stall (R87) -/

/-- A Verify Copy whose own read has stalled ends ABNORMAL STALLED (R101). -/
def Part.verifyStalled (p : Part) (d : Fin 4) : Part :=
  match p.verifyOf d true with
  | some x => (p.returnVerify d true).termDest d (x.termination .abnormal .stalled .none)
  | none => p

/-- The requester of a stalled request is told first, while the volume is attached (R87): a sweep's entry returns to WRITTEN
and is handed on (R93, R98). -/
def Part.tellStalled (p : Part) (d : Fin 4) (v : Nat) (q : VolumeRequest) : Part :=
  match q with
  | .write owner _ _ _ => p.writeUnwritten d v owner .stalled .stalled .none
  | .read (.recopy t) _ _ => p.endRecopy t .abnormal .noSourceLeft .none
  | .read .explicit _ _ => p.verifyStalled d
  | .read .render _ _ => p.abortRender .stalled .none
  | .read (.preview c) _ _ => p.channelAnswer c none
  | .read .sweep _ _ => p.returnVerify d false
  | .read .dropped _ _ | .identify | .release _ | .eject => p

/-- The volume of a stalled request is taken as lost (R87): the requester is told, then the lane detaches the volume. A
sweep's clip that the stall has put back stands ahead of that of a Verify Copy which the detach returns (R101). -/
def Part.loseStalled (p : Part) (d : Fin 4) (v : Nat) (q : VolumeRequest) : Part :=
  let gone := (p.tellStalled d v q).detachNotice d
  match q, (p.dest d).sweep with
  | .read .sweep _ _, some x => gone.listHead x.vol x.clip
  | _, _ => gone

/-- The stall timer of a destination lane expires. -/
def Part.destStall (p : Part) (d : Fin 4) : Part :=
  match (p.dest d).out with
  | some o =>
    match o.timer with
    | none => p
    | some _ =>
      let p := p.modDest d fun r => { r with out := none }
      match o.request with
      | .identify => p.identifyFailed d .none
      | .release _ | .eject => p
      | q =>
        match p.boundVolume d with
        | some v => (p.loseStalled d v q).arrival d
        | none => p
  | none => p

/-! ### Eject and unit reset -/

/-- An Eject that is taken (R88): the steps of R86, the release list kept, an Eject Request to follow. -/
def Part.ejectVolume (p : Part) (d : Fin 4) (v : Nat) : Part :=
  (p.detach d v).modDest d fun r => { r with ejectOwed := true }

/-- The channels with a read waiting or sent on a destination lane. -/
def Part.readingDest (p : Part) (d : Fin 4) (c : Fin 2) : Bool :=
  ((p.dest d).previews.any fun i => i.channel == c) ||
    (match (p.dest d).out with
     | some o => match o.request with
       | .read (.preview k) _ _ => k == c
       | _ => false
     | none => false)

/-- The offload writes to a volume in the slots of every reader lane. -/
def Part.writesTo (p : Part) (v : Nat) : Nat :=
  (p.pool.slots.map fun s => if s.recopy then 0 else (s.writes.filter fun w => w.vol == v).length).sum

/-- An explicit operation is aborted with no termination (R101, R108). -/
def Part.dropExplicit (p : Part) (d : Fin 4) : Part := (p.returnVerify d true).dropRecopy d

/-- What every reset of a lane ends on the volume bound to it: the request, the offload writes with their entries, the
explicit operation and the sweep verify, each with no termination (R74, R90, R109). Their release claims are made in this
order (log 61). -/
def Part.clearTraffic (p : Part) (d : Fin 4) (v : Nat) : Part :=
  let p := p.modDest d fun r => { r with out := none }
  let p := p.dropWrites fun s w => !s.recopy && w.vol == v
  let p := p.removeWritingOn v
  let p := p.losePlanVolumeAll v
  let p := p.dropExplicit d
  let p := p.returnVerify d false
  p.dropWrites fun _ w => w.vol == v

/-- What a unit reset ends on the volume bound to a lane (R74, R90). A render that a hand-on of these starts on the lane is
aborted with it (log 43). -/
def Part.clearBound (p : Part) (d : Fin 4) (v : Nat) : Part :=
  let readers := allChannels.filter (p.readingDest d)
  let p := (p.clearTraffic d v).loseRecopyVolume v
  let p := if p.renderReads v then p.abortRender .sourceLost .none else p
  let p := if p.renderWrites v then p.abortRender .destDetached .none else p
  p.each readers Part.loseSource

/-- The lane after a reset, before it identifies again (R90). -/
def DestLane.cleared (r : DestLane) : DestLane :=
  { r.emptyArbiter with out := none, robin := 0, term := TermSlot.none, changed := false, identifyPending := false,
                        ejectOwed := false, reidentify := false }

/-- The lane identifies again (R90). -/
def Part.reidentify (p : Part) (d : Fin 4) : Part :=
  match p.boundVolume d with
  | some _ => p.modDest d fun r => { r with reidentify := true }
  | none =>
    let r := p.dest d
    if r.state ≠ .empty ∨ r.present = true then
      (p.modDest d fun r => { r with state := .identifying }).sendVolume d .identify
    else p

/-- A unit reset of a destination lane (R90). -/
def Part.resetDest (p : Part) (d : Fin 4) : Part :=
  let p := match p.boundVolume d with
    | some v => p.clearBound d v
    | none => p
  (p.modDest d DestLane.cleared).reidentify d

end Sys2Proof.Machine
end

