-- ==== Sys2Proof/Machine/Event.lean ====
section
/-! DEFINITION. One event of the part: the outbox is emptied, the block that takes the command acts, what the event has made
possible follows, and the vector is formed anew (R183, R199). A request is answered through the port. -/

namespace Sys2Proof.Machine

/-- What follows the changes of an event, in this order (log 5): drained offloads end, sweeps take their next verify,
channels read on, slot claims are made and granted, the free links send. Irreducible, so that no proof runs it unasked. -/
@[irreducible] def Part.settle (p : Part) : Part :=
  let p := p.each allReaders Part.drainEnd
  let p := p.each allDests Part.resumeSweep
  let p := p.pumpChannels
  let p := Part.grantSlots (Config.slots + 6) p.joinQueue
  let p := p.each allReaders Part.serveReader
  p.each allDests Part.serveDest

/-- The part with the messages of the command before it gone. -/
def Part.quiet (p : Part) : Part := { p with outbox := [] }

/-- One event that a block takes. -/
def Part.event (p : Part) (f : Part → Part) : Part := ((f p.quiet).settle).reformVector

/-- An event that only the port, or none of the blocks, takes. -/
def State.quiet (s : State) : State := { s with part := s.part.quiet }

/-- An event of the part beside the port. -/
def State.event (s : State) (f : Part → Part) : State := { s with part := s.part.event f }

/-! ### Results (R183) -/

/-- The result buffer of an answer: the envelope, the payload, zeros (R183, 11.2). -/
def resultBytes (d : Dispatch) (sequence : Byte) (a : Answer) : List Byte :=
  padTo Config.resultBytes
    ([d.identifier, d.refLow, d.refHigh, sequence] ++ leBytes 1 a.status.code ++ leBytes 1 a.payload.length ++ a.payload)

/-- A result is placed: the sequence rises by 1, the buffer is written, the port enters RESULT. -/
def Port.place (q : Port) (d : Dispatch) (a : Answer) : Port :=
  { q with state := .result, sequence := q.sequence + 1, result := resultBytes d (q.sequence + 1) a }

/-- A status code that refuses (R185). -/
def Status.refuses (s : Status) : Bool := decide (5 ≤ s.code)

/-- What an owning block does with a request: its effect, and its answer. -/
abbrev Reply := Part × Answer

def Part.refuse (p : Part) (s : Status) : Reply := (p, Answer.bare s)
def Part.accept (p : Part) : Reply := (p, Answer.bare .ok)
def Part.answerWith (p : Part) (bs : List Byte) : Reply := (p, Answer.withPayload bs)

/-- The dispatch of a request, if it is the one outstanding. -/
def State.dispatchOf (s : State) (i : Instr) : Option Dispatch :=
  match s.port.state with
  | .busy d => if d.request = i then some d else none
  | _ => none

/-- The owning block takes the outstanding request (R183). A refusal changes nothing beyond the port (R185). A command that
is not the outstanding request is withdrawn: it has no effect and no result is placed (R188). The taking and the placing of
the result are one step, so that no result is ever under way at a port reset (log 55). -/
def State.takeRequest (s : State) (i : Instr) (f : Part → Reply) : State :=
  match s.dispatchOf i with
  | none => s.quiet
  | some d =>
    let r := f s.part.quiet
    { s with
      port := s.port.place d r.2
      part := if r.2.status.refuses then s.part.quiet else (r.1.settle).reformVector }

/-- A request that only reads: the part is as it was. -/
def State.takeQuery (s : State) (i : Instr) (f : Part → Answer) : State :=
  match s.dispatchOf i with
  | none => s.quiet
  | some d => { s with port := s.port.place d (f s.part.quiet), part := s.part.quiet }

end Sys2Proof.Machine
end

