-- ==== Sys2Proof/Machine/CardRequests.lean ====
section
/-! DEFINITION. The card requests (01, 02, 03). -/

namespace Sys2Proof.Machine

/-! ### Reading (R18, R19) -/

def Plan.bytes (x : Plan) : List Byte :=
  listBytes 4 1 (x.volumes.map (leBytes 1)) ++ leBytes 1 x.required ++ flagByte x.skipMarked

/-- The number of clips of a card that satisfy a test (R7, R18). -/
def Part.countClips (p : Part) (card : Card) (test : Clip → Bool) : Nat := ((p.clipsOf card).filter test).length

/-- The result of Lookup Card, field by field (R18). -/
def Part.cardBytes (p : Part) (i : Nat) (card : Card) : List Byte :=
  leBytes 1 i ++ card.id.bytes ++ leBytes 1 card.state.code ++ optBytes 1 (card.lane.map (·.val)) ++
    flagByte card.writeProtected ++ card.plan.bytes ++ leBytes 1 card.clips.length ++ flagByte card.erased ++
    flagByte card.eraseIncomplete ++ leBytes 2 card.nextPos ++ leBytes 1 card.copied ++ leBytes 1 card.failed ++
    leBytes 1 card.skipped ++ leBytes 1 (p.countClips card Clip.isWaived) ++ leBytes 1 (p.countClips card p.satisfied) ++
    leBytes 1 (p.countClips card p.short) ++ leBytes 1 (p.countClips card p.heldByFault)

/-- The card that Lookup Card names. -/
def Part.cardNamed (p : Part) : CardRef → Option (Nat × Card)
  | .index i => (p.card i).map fun c => (i, c)
  | .identity id => p.cardWith id

def Part.lookupCard (p : Part) (r : CardRef) : Answer :=
  match p.cardNamed r with
  | some (i, card) => .withPayload (p.cardBytes i card)
  | none => .bare .notFound

/-- Lookup Card (R18). -/
def execLookupCard (card : CardRef) (s : State) : Host.Outcome State Fault Refusal :=
  .next (s.takeQuery (.lookupCard card) fun p => p.lookupCard card)

def cardEntry (i : Nat) (c : Card) : List Byte :=
  leBytes 1 i ++ c.id.bytes ++ leBytes 1 c.state.code ++ optBytes 1 (c.lane.map (·.val)) ++ leBytes 1 c.clips.length

/-- The records in use from a start index on that satisfy a test, each as its entry (R186). -/
def entriesFrom {α : Type} (t : Table α) (start : Nat) (test : α → Bool) (entry : Nat → α → List Byte) :
    List (Nat × List Byte) :=
  (t.filter fun e => decide (start ≤ e.1) && test e.2).map fun e => (e.1, entry e.1 e.2)

/-- The first record in use beyond the last one returned, whatever its state; none when none was returned (R19, R186,
log 36). -/
def nextCard (cards : Table Card) (shown : List (Nat × List Byte)) : Option Nat :=
  shown.getLast?.bind fun e => (cards.find? fun c => decide (e.1 < c.1)).map (·.1)

def Part.listCards (p : Part) (start : Nat) (state : Option Nat) : Answer :=
  if 31 < start then .bare .range
  else
    let shown := (entriesFrom p.cards start (fun c => state.all fun k => c.state.code == k) cardEntry).take Config.page
    .withPayload (pageWith (nextCard p.cards shown) shown)

/-- List Cards (R19). -/
def execListCards (start : Nat) (state : Option Nat) (s : State) : Host.Outcome State Fault Refusal :=
  .next (s.takeQuery (.listCards start state) fun p => p.listCards start state)

/-! ### Plans (R10, R11) -/

/-- The volumes of a plan as a request carries it (R201). -/
def planVolumes (a : PlanArg) : List Nat := a.slots.take a.count

/-- The checks of R10; none when they pass. -/
def Part.planRefusal (p : Part) (a : PlanArg) : Option Status :=
  if a.count < 1 ∨ 4 < a.count ∨ (planVolumes a).any (fun v => decide (7 < v)) ∨ ¬ (planVolumes a).Nodup ∨ a.required < 1 ∨
      a.count < a.required then some .range
  else if (planVolumes a).any fun v => (p.volume v).isNone then some .notFound
  else none

def planOf (a : PlanArg) : Plan := { volumes := planVolumes a, required := a.required, skipMarked := a.skipMarked }

def Part.setCardPlan (p : Part) (i : Nat) (a : PlanArg) : Reply :=
  match p.card i with
  | none => p.refuse .notFound
  | some card =>
    if card.state ≠ .ready ∧ card.state ≠ .held then p.refuse .wrongState
    else
      match p.planRefusal a with
      | some st => p.refuse st
      | none => ((p.modCard i fun c => { c with plan := planOf a }).evaluate i).accept

/-- Set Card Plan (R11). -/
def execSetCardPlan (card : Nat) (plan : PlanArg) (s : State) : Host.Outcome State Fault Refusal :=
  .next (s.takeRequest (.setCardPlan card plan) fun p => p.setCardPlan card plan)

def Part.setStandingPlan (p : Part) (a : PlanArg) : Reply :=
  match p.planRefusal a with
  | some st => p.refuse st
  | none => ({ p with standing := planOf a } : Part).accept

/-- Set Standing Plan (R10). -/
def execSetStandingPlan (plan : PlanArg) (s : State) : Host.Outcome State Fault Refusal :=
  .next (s.takeRequest (.setStandingPlan plan) fun p => p.setStandingPlan plan)

/-! ### Offload (R47, R63, R69) -/

def Part.startRequest (p : Part) (i : Nat) : Reply :=
  if 31 < i then p.refuse .range
  else
    match p.card i with
    | none => p.refuse .notFound
    | some card =>
      match card.lane with
      | none => p.refuse .notPresent
      | some l =>
        let r := p.reader l
        if r.state ≠ .bound ∨ r.serves.isSome then p.refuse .busy
        else if r.term.unsensed then p.refuse .unsensed
        else if card.state ≠ .ready ∧ card.state ≠ .held then p.refuse .wrongState
        else if !p.planPasses card.plan then p.refuse .planInvalid
        else (p.startOffload l i, Answer.bare .accepted)

/-- Start Offload (R47). -/
def execStartOffload (card : Nat) (s : State) : Host.Outcome State Fault Refusal :=
  .next (s.takeRequest (.startOffload card) fun p => p.startRequest card)

def Part.stopRequest (p : Part) (i option : Nat) : Reply :=
  if 31 < i ∨ 1 < option then p.refuse .range
  else
    match p.card i with
    | none => p.refuse .notFound
    | some card =>
      if card.state ≠ .offloading then p.refuse .wrongState
      else
        match p.offloadLane i with
        | none => p.accept
        | some l =>
          if option = 0 then
            (p.modOffload l fun x => if x.done.isNone then { x with stop := true } else x).accept
          else (p.stopOffload l .bound .abnormal .stopped .none).accept

/-- Stop Offload (R63). -/
def execStopOffload (card option : Nat) (s : State) : Host.Outcome State Fault Refusal :=
  .next (s.takeRequest (.stopOffload card option) fun p => p.stopRequest card option)

def Part.clearTrip (p : Part) (i : Nat) : Reply :=
  if 31 < i then p.refuse .range
  else
    match p.card i with
    | none => p.refuse .notFound
    | some card =>
      if card.state ≠ .tripped then p.refuse .wrongState
      else
        let q := match card.lane with
          | some l => p.modReader l fun r => { r with trips := List.replicate 8 0 }
          | none => p
        (q.holdCard i).accept

/-- Clear Trip (R69). -/
def execClearTrip (card : Nat) (s : State) : Host.Outcome State Fault Refusal :=
  .next (s.takeRequest (.clearTrip card) fun p => p.clearTrip card)

/-! ### Release, erase, retire (R20, R21, R70) -/

def Part.releaseCard (p : Part) (i : Nat) : Reply :=
  match p.card i with
  | none => p.refuse .notFound
  | some card =>
    if card.state ≠ .secured then p.refuse .wrongState
    else
      (((p.modCard i fun c => { c with state := .released, erased := false, eraseIncomplete := false }).raiseCustody).loseAll
        (.card i)).accept

/-- Release Card (R20, R174). -/
def execReleaseCard (card : Nat) (s : State) : Host.Outcome State Fault Refusal :=
  .next (s.takeRequest (.releaseCard card) fun p => p.releaseCard card)

def Part.eraseRequest (p : Part) (i : Nat) : Reply :=
  if 31 < i then p.refuse .range
  else
    match p.card i with
    | none => p.refuse .notFound
    | some card =>
      if card.state ≠ .released ∨ card.erased = true then p.refuse .wrongState
      else
        match card.lane with
        | none => p.refuse .notPresent
        | some l =>
          let r := p.reader l
          if r.state ≠ .bound ∨ r.serves.isSome then p.refuse .busy
          else if r.term.unsensed then p.refuse .unsensed
          else if card.writeProtected then p.refuse .isProtected
          else (p.startErase l i, Answer.bare .accepted)

/-- Erase Card (R70). -/
def execEraseCard (card : Nat) (s : State) : Host.Outcome State Fault Refusal :=
  .next (s.takeRequest (.eraseCard card) fun p => p.eraseRequest card)

/-- The conditions that keep a card from being retired (R21, 3). -/
def Part.cardInUse (p : Part) (card : Card) : Bool :=
  card.lane.isSome ||
    (allChannels.any fun c => match (p.channel c).clip with
      | some k => decide (k ∈ card.clips)
      | none => false) ||
    (p.render.queue.any fun e => decide (e.clip ∈ card.clips)) ||
    ((p.clipsOf card).any fun c => c.copies.any fun e => e.state == .writing || e.state == .verifying)

/-- One clip retired: withdrawn from every verify list, its look reference released, its record freed (R21). -/
def Part.retireClip (p : Part) (clip : Nat) : Part :=
  let look := (p.clip clip).bind (·.look)
  let p : Part :=
    { p with volumes := p.volumes.map fun e =>
        (e.1, ({ e.2 with verifyList := e.2.verifyList.filter (· != clip) } : Volume)) }
  let p := p.refRelease .clips look
  { p with clips := tdel p.clips clip }

def Part.retireCard (p : Part) (i : Nat) : Reply :=
  match p.card i with
  | none => p.refuse .notFound
  | some card =>
    if card.state ≠ .released then p.refuse .wrongState
    else if p.cardInUse card then p.refuse .inUse
    else
      let q := p.each card.clips Part.retireClip
      ({ q with cards := tdel q.cards i } : Part).answerWith (leBytes 1 card.clips.length)

/-- Retire Card (R21). -/
def execRetireCard (card : Nat) (s : State) : Host.Outcome State Fault Refusal :=
  .next (s.takeRequest (.retireCard card) fun p => p.retireCard card)

/-! ### Remount (R42) -/

/-- Remount, its refusals and its start. In EMPTY with the mount pending flag set and the termination sensed, which no row
names, it is ACCEPTED and starts the mount (log 49). -/
def Part.remountRequest (p : Part) (lane : Nat) : Reply :=
  match unitAt 6 lane with
  | none => p.refuse .range
  | some l =>
    let r := p.reader l
    if r.state = .noReader ∨ (r.state = .empty ∧ r.mountPending = false) then p.refuse .notPresent
    else if r.state = .mounting ∨ r.state = .offloading ∨ r.state = .erasing ∨ r.state = .equipment ∨ r.serves.isSome then
      p.refuse .busy
    else if r.term.unsensed then p.refuse .unsensed
    else (p.startMount l, Answer.bare .accepted)

/-- Remount (R42). -/
def execRemount (lane : Nat) (s : State) : Host.Outcome State Fault Refusal :=
  .next (s.takeRequest (.remount lane) fun p => p.remountRequest lane)

end Sys2Proof.Machine
end

