-- ==== Sys2Proof/Machine/ClipRequests.lean ====
section
/-! DEFINITION. The clip requests (01, 06). -/

namespace Sys2Proof.Machine

/-! ### Reading a clip (R22) -/

/-- The stale flag of a clip's proxy (R165). -/
def Part.stale (p : Part) (c : Clip) (x : Proxy) : Bool :=
  (match x.look with
   | some l => (p.look l).isNone
   | none => false) ||
    x.look != c.look ||
    (match c.look.bind p.look with
     | some k => x.look == c.look && x.version != some k.live.version
     | none => false)

def Copy.bytes (e : Copy) : List Byte :=
  leBytes 1 e.vol ++ leBytes 1 e.state.code ++ leBytes 1 e.origin.code ++ leBytes 1 e.state.detailCode

/-- The optional proxy field, in the order of R13, with its stale flag behind (DESIGN CHOICE, log 59). -/
def Part.proxyBytes (p : Part) (c : Clip) : List Byte :=
  match c.proxy with
  | some x =>
    flagByte true ++ leBytes 1 x.vol ++ optBytes 1 x.look ++ optBytes 2 x.version ++ leBytes 4 x.frames ++
      flagByte (p.stale c x)
  | none => List.replicate 12 0

/-- The directory facts of a clip (R13). DESIGN CHOICE (log 59): which they are and their order, which R22 does not list, are
those of R13's field table, not of the directory entry of 11.3. -/
def Clip.factBytes (c : Clip) : List Byte :=
  leBytes 2 c.number ++ leBytes 4 c.firstBlock ++ leBytes 4 c.blockCount ++ leBytes 4 c.frameCount ++ c.start.bytes ++
    leBytes 1 c.rate ++ flagByte c.marked

/-- The number of fault entries that satisfy a test. -/
def Clip.countFaults (c : Clip) (test : FaultEntry → Bool) : Nat := (c.faults.filter test).length

/-- An OPEN entry of a kind whose policy holds release (R7). -/
def Part.holding (p : Part) (f : FaultEntry) : Bool := f.state == .opened && (p.policy f.kind).holds

/-- The result of Lookup Clip, field by field (R22). -/
def Part.clipBytes (p : Part) (i : Nat) (c : Clip) : List Byte :=
  leBytes 2 i ++ c.name ++ leBytes 1 c.card ++ c.factBytes ++ optBytes 8 (c.cameraDigest.map (·.toNat)) ++
    optBytes 8 (c.ingestDigest.map (·.toNat)) ++ leBytes 1 c.custody.code ++ leBytes 1 c.custody.causeCode ++
    optBytes 1 c.look ++ listBytes 4 4 (c.copies.map Copy.bytes) ++ leBytes 1 (c.countFaults fun _ => true) ++
    leBytes 1 (c.countFaults fun f => f.state == .opened) ++ leBytes 1 (c.countFaults p.holding) ++ p.proxyBytes c ++
    flagByte c.trackerOverflow ++ flagByte (p.satisfied c) ++ flagByte (p.short c) ++ flagByte (p.heldByFault c)

def Part.lookupClip (p : Part) (r : ClipRef) : Answer :=
  match r with
  | .index i =>
    match p.clip i with
    | some c => .withPayload (p.clipBytes i c)
    | none => .bare .notFound
  | .name t =>
    let named := p.clips.filter fun e => e.2.name == t
    match named with
    | e :: _ => .withPayload (p.clipBytes e.1 e.2 ++ leBytes 2 named.length)
    | [] => .bare .notFound

/-- Lookup Clip (R22). -/
def execLookupClip (clip : ClipRef) (s : State) : Host.Outcome State Fault Refusal :=
  .next (s.takeQuery (.lookupClip clip) fun p => p.lookupClip clip)

/-! ### List Clips (R23) -/

def Part.clipEntry (p : Part) (i : Nat) (c : Clip) : List Byte :=
  leBytes 2 i ++ c.name ++ leBytes 1 c.custody.code ++ leBytes 1 (p.countedCopies c) ++ flagByte (p.faultHeld c)

/-- The clips of a card from a position of its clip list on, each with its position. -/
def Part.clipsFrom (p : Part) (card : Card) (start : Nat) : List (Nat × List Byte) :=
  ((card.clips.zipIdx).drop start).filterMap fun e => (p.clip e.1).map fun c => (e.2, p.clipEntry e.1 c)

def Part.listClips (p : Part) (scan : ClipScan) : Answer :=
  match scan with
  | .card i start =>
    match p.card i with
    | none => .bare .notFound
    | some card => if 249 < start then .bare .range else .withPayload (pageOf Config.page (p.clipsFrom card start))
  | .table start =>
    if 1023 < start then .bare .range
    else .withPayload (pageOf Config.page (entriesFrom p.clips start (fun _ => true) p.clipEntry))

/-- List Clips (R23). -/
def execListClips (scan : ClipScan) (s : State) : Host.Outcome State Fault Refusal :=
  .next (s.takeQuery (.listClips scan) fun p => p.listClips scan)

/-! ### Waivers (R24, R25) -/

/-- The clip's card is RELEASED or ERASING. -/
def Part.cardDecided (p : Part) (c : Clip) : Bool :=
  match p.card c.card with
  | some card => card.state == .released || card.state == .erasing
  | none => false

def Part.setCustody (p : Part) (i : Nat) (c : Custody) : Part :=
  (p.modClip i fun x => { x with custody := c }).evaluateClip i

def Part.waiveClip (p : Part) (i : Nat) : Reply :=
  match p.clip i with
  | none => p.refuse .notFound
  | some c => if p.cardDecided c then p.refuse .wrongState else (p.setCustody i (.waived .host)).accept

/-- Waive Clip (R24). -/
def execWaiveClip (clip : Nat) (s : State) : Host.Outcome State Fault Refusal :=
  .next (s.takeRequest (.waiveClip clip) fun p => p.waiveClip clip)

def Part.unwaiveClip (p : Part) (i : Nat) : Reply :=
  match p.clip i with
  | none => p.refuse .notFound
  | some c =>
    if p.cardDecided c ∨ c.custody = .normal then p.refuse .wrongState else (p.setCustody i .normal).accept

/-- Unwaive Clip (R25). -/
def execUnwaiveClip (clip : Nat) (s : State) : Host.Outcome State Fault Refusal :=
  .next (s.takeRequest (.unwaiveClip clip) fun p => p.unwaiveClip clip)

/-! ### Assign Look (R26) -/

/-- A look id, where one is given, above 63. -/
def lookAbove (look : Option Nat) : Bool := match look with
  | some l => decide (63 < l)
  | none => false

/-- A look id, where one is given, whose look is FREE. -/
def Part.lookFree (p : Part) (look : Option Nat) : Bool := match look with
  | some l => (p.look l).isNone
  | none => false

def Part.assignLook (p : Part) (i : Nat) (look : Option Nat) : Reply :=
  if lookAbove look then p.refuse .range
  else
    match p.clip i with
    | none => p.refuse .notFound
    | some c =>
      if p.lookFree look then p.refuse .notFound
      else ((p.modClip i fun x => { x with look := look }).refMove .clips c.look look).accept

/-- Assign Look (R26). -/
def execAssignLook (clip : Nat) (look : Option Nat) (s : State) : Host.Outcome State Fault Refusal :=
  .next (s.takeRequest (.assignLook clip look) fun p => p.assignLook clip look)

/-! ### Fault entries (R132, R133) -/

def FaultDetail.bytes : FaultDetail → List Byte
  | .block n => leBytes 4 n
  | .mismatch m => leBytes 1 m.code ++ [0, 0, 0]

/-- A List Open Faults entry (11.2). -/
def Part.faultEntry (p : Part) (clip : Nat) (f : FaultEntry) : List Byte :=
  leBytes 2 clip ++ leBytes 1 f.kind.code ++ leBytes 1 (if f.kind = .copyMismatch then f.vol else 0) ++
    leBytes 1 f.state.code ++ countByte f.count f.saturated ++ optBytes 4 f.firstFrame ++
    (match f.firstSite with
     | some (x, y) => flagByte true ++ leBytes 2 x ++ leBytes 2 y
     | none => List.replicate 5 0) ++
    (match f.detail with
     | some d => flagByte true ++ d.bytes
     | none => List.replicate 5 0) ++
    flagByte (p.policy f.kind).holds

/-- The OPEN entries of a clip. -/
def Clip.openFaults (c : Clip) : List FaultEntry := c.faults.filter fun f => f.state == .opened

/-- Takes whole clips while they fit the page; what is left begins the next page (R133). -/
def faultPages (room : Nat) : List (Nat × List (List Byte)) → List Byte × Option Nat
  | [] => ([], none)
  | (i, es) :: t =>
    if room < es.length then ([], some i)
    else
      let r := faultPages (room - es.length) t
      (es.flatten ++ r.1, r.2)

def Part.listOpenFaults (p : Part) (scan : FaultScan) : Answer :=
  match scan with
  | .clip i scope =>
    if 1023 < i ∨ 1 < scope then .bare .range
    else
      match p.clip i with
      | none => .bare .notFound
      | some c =>
        .withPayload
          (nextBytes none ++ ((if scope = 0 then c.openFaults else c.faults).map (p.faultEntry i)).flatten)
  | .table start =>
    if 1023 < start then .bare .range
    else
      let listed := (p.clips.filter fun e => decide (start ≤ e.1) && !e.2.openFaults.isEmpty).map fun e =>
        (e.1, e.2.openFaults.map (p.faultEntry e.1))
      let r := faultPages Config.faultPage listed
      .withPayload (nextBytes r.2 ++ r.1)

/-- List Open Faults (R133). -/
def execListOpenFaults (scan : FaultScan) (s : State) : Host.Outcome State Fault Refusal :=
  .next (s.takeQuery (.listOpenFaults scan) fun p => p.listOpenFaults scan)

def Part.acknowledgeFault (p : Part) (i kind vol : Nat) : Reply :=
  match faultKindOf kind with
  | none => p.refuse .range
  | some k =>
    if 1023 < i ∨ (k = .copyMismatch ∧ 7 < vol) then p.refuse .range
    else
      let v := if k = .copyMismatch then vol else 0
      match (p.clip i).bind fun c => c.faultWith k v with
      | none => p.refuse .notFound
      | some f => (p.acknowledge i k v).answerWith (countByte f.count f.saturated)

/-- Acknowledge Fault (R132). -/
def execAcknowledgeFault (clip kind vol : Nat) (s : State) : Host.Outcome State Fault Refusal :=
  .next (s.takeRequest (.acknowledgeFault clip kind vol) fun p => p.acknowledgeFault clip kind vol)

end Sys2Proof.Machine
end

