-- ==== Sys2Proof/Machine/VolumeRequests.lean ====
section
/-! DEFINITION. The copy and volume requests (04, 05). -/

namespace Sys2Proof.Machine

/-! ### Verify Copy and Recopy (R100, R102) -/

/-- The lane of an attached volume; none when the record is DETACHED (R77). -/
def Volume.attachedLane (v : Volume) : Option (Fin 4) := if v.attach = .detached then none else v.lane

/-- An accepted Verify Copy: a WRITTEN copy leaves the verify list, the verify starts (R100). -/
def Part.acceptVerify (p : Part) (d : Fin 4) (clip vol : Nat) (prior : CopyState) : Part :=
  let p := if prior = .written then
      p.modVolume vol fun r => { r with verifyList := r.verifyList.filter (· != clip) }
    else p
  p.startVerify d true clip vol prior

def Part.verifyRequest (p : Part) (clip vol : Nat) : Reply :=
  if 1023 < clip ∨ 7 < vol then p.refuse .range
  else
    match p.clip clip, p.volume vol, p.copyState clip vol with
    | some _, some rec, some st =>
      match rec.attachedLane with
      | none => p.refuse .notPresent
      | some d =>
        if (p.dest d).explicit.isSome ∨ st = .writing ∨ st = .verifying then p.refuse .busy
        else if (p.dest d).term.unsensed then p.refuse .unsensed
        else (p.acceptVerify d clip vol st, Answer.bare .accepted)
    | _, _, _ => p.refuse .notFound

/-- Verify Copy (R100). -/
def execVerifyCopy (clip vol : Nat) (s : State) : Host.Outcome State Fault Refusal :=
  .next (s.takeRequest (.verifyCopy clip vol) fun p => p.verifyRequest clip vol)

/-- An entry that keeps a recopy from being taken: WRITING, WRITTEN, VERIFYING or VERIFIED (R102, 7). -/
def CopyState.isFailed : CopyState → Bool
  | .failed _ => true
  | _ => false

def Part.recopyRequest (p : Part) (clip vol : Nat) : Reply :=
  if 1023 < clip ∨ 7 < vol then p.refuse .range
  else
    match p.clip clip, p.volume vol with
    | some c, some rec =>
      match rec.attachedLane with
      | none => p.refuse .notPresent
      | some d =>
        if rec.role = .proxy ∨ rec.attach = .onlineReadonly then p.refuse .readonly
        else if (p.dest d).explicit.isSome then p.refuse .busy
        else if (p.dest d).term.unsensed then p.refuse .unsensed
        else if c.ingestDigest.isNone ∨ (c.copyOn vol).any (fun e => !e.state.isFailed) ∨ (p.dest d).state = .full then
          p.refuse .wrongState
        else if (c.copyOn vol).isNone ∧ 4 ≤ c.copies.length then p.refuse .copyListFull
        else
          match p.recopySource clip vol with
          | none => p.refuse .noSource
          | some src => (p.startRecopy d clip vol src, Answer.bare .accepted)
    | _, _ => p.refuse .notFound

/-- Recopy (R102, R103). -/
def execRecopy (clip vol : Nat) (s : State) : Host.Outcome State Fault Refusal :=
  .next (s.takeRequest (.recopy clip vol) fun p => p.recopyRequest clip vol)

/-- A verify mode by its code (11.5). -/
def verifyModeOf : Nat → Option VerifyMode
  | 0 => some .auto | 1 => some .paused | _ => none

/-- A change of the verify mode (R99): to AUTO, the sweep of a bound volume starts in the same event, before the Identify
Answer of a lane under reset too (log 39). -/
def Part.changeVerifyMode (p : Part) (v : Nat) (m : VerifyMode) : Part :=
  let p := p.modVolume v fun r => { r with mode := m }
  match m, p.volumeLane v with
  | .auto, some d => p.takeSweep d
  | _, _ => p

def Part.setVerifyMode (p : Part) (vol mode : Nat) : Reply :=
  match verifyModeOf mode with
  | none => p.refuse .range
  | some m =>
    if 7 < vol then p.refuse .range
    else
      match p.volume vol with
      | none => p.refuse .notFound
      | some r => (if r.mode = m then p else p.changeVerifyMode vol m).accept

/-- Set Verify Mode (R99). -/
def execSetVerifyMode (vol mode : Nat) (s : State) : Host.Outcome State Fault Refusal :=
  .next (s.takeRequest (.setVerifyMode vol mode) fun p => p.setVerifyMode vol mode)

/-! ### Reading the Volume Table (R78) -/

/-- The lane condition of a volume in a List Volumes entry (11.2). -/
def Part.laneCondition (p : Part) (v : Volume) : Nat :=
  match v.attachedLane with
  | none => 0
  | some d => if v.attach = .onlineReadonly then 3 else if (p.dest d).state = .full then 2 else 1

/-- A List Volumes entry, 31 bytes (11.2). -/
def Part.volumeEntry (p : Part) (i : Nat) (v : Volume) : List Byte :=
  let lane := match v.attachedLane with
    | some d => d.val
    | none => 0
  leBytes 1 (i % 8 + 8 * v.role.code + 16 * p.laneCondition v + 64 * lane) ++ v.label ++ leBytes 8 v.serial.toNat ++
    leBytes 6 v.free

def Part.listVolumes (p : Part) (start : Nat) : Answer :=
  if 7 < start then .bare .range
  else .withPayload (pageOf Config.volumes (entriesFrom p.volumes start (fun _ => true) p.volumeEntry))

/-- List Volumes (R78). -/
def execListVolumes (start : Nat) (s : State) : Host.Outcome State Fault Refusal :=
  .next (s.takeQuery (.listVolumes start) fun p => p.listVolumes start)

/-- The copy entries on a volume, over the clip table. -/
def Part.entriesOn (p : Part) (v : Nat) : List Copy := p.clips.filterMap fun e => e.2.copyOn v

def Part.proxiesOn (p : Part) (v : Nat) : Nat :=
  (p.clips.filter fun e => match e.2.proxy with
    | some x => x.vol == v
    | none => false).length

/-- The cards, in any state other than RELEASED, that have a clip with a copy entry on a volume. -/
def Part.cardsOn (p : Part) (v : Nat) : Nat :=
  (p.cards.filter fun e => e.2.state != .released && (p.clipsOf e.2).any fun c => (c.copyOn v).isSome).length

def Part.targeted (p : Part) (v : Nat) : Bool := p.render.queue.any fun e => e.target == v

/-- The number of copy entries on a volume whose state has a code (11.5). -/
def Part.copiesIn (p : Part) (v code : Nat) : Nat := ((p.entriesOn v).filter fun e => e.state.code == code).length

/-- The result of Lookup Volume, field by field (R78, R77); the five copy states in the order of R14 (DESIGN CHOICE, log 59). -/
def Part.volumeBytes (p : Part) (i : Nat) (v : Volume) : List Byte :=
  v.label ++ leBytes 8 v.serial.toNat ++ leBytes 1 v.role.code ++ optBytes 1 (v.lane.map (·.val)) ++
    leBytes 1 v.attach.code ++ leBytes 6 v.free ++ leBytes 1 v.mode.code ++ leBytes 2 v.verifyList.length ++
    ([0, 1, 2, 3, 4].map fun k => leBytes 2 (p.copiesIn i k)).flatten ++ leBytes 2 (p.proxiesOn i) ++
    leBytes 1 (p.cardsOn i) ++ flagByte (p.targeted i)

def Part.lookupVolume (p : Part) (vol : Nat) : Answer :=
  if 7 < vol then .bare .range
  else
    match p.volume vol with
    | none => .bare .notFound
    | some v => .withPayload (p.volumeBytes vol v)

/-- Lookup Volume (R78). -/
def execLookupVolume (vol : Nat) (s : State) : Host.Outcome State Fault Refusal :=
  .next (s.takeQuery (.lookupVolume vol) fun p => p.lookupVolume vol)

/-! ### Set Role (R83) -/

/-- A role by its code (11.5). -/
def roleOf : Nat → Option Role
  | 0 => some .archive | 1 => some .proxy | _ => none

def Part.setRole (p : Part) (vol role : Nat) : Reply :=
  match roleOf role with
  | none => p.refuse .range
  | some r =>
    if 7 < vol then p.refuse .range
    else
      match p.volume vol with
      | none => p.refuse .notFound
      | some v =>
        if !(p.entriesOn vol).isEmpty ∨ 0 < p.proxiesOn vol ∨ p.targeted vol = true then p.refuse .inUse
        else if v.role = r then p.accept
        else
          let q := p.modVolume vol fun x => { x with role := r }
          let q := if r = .proxy then q.losePlanVolumeAll vol else q
          q.examine.accept

/-- Set Role (R83). -/
def execSetRole (vol role : Nat) (s : State) : Host.Outcome State Fault Refusal :=
  .next (s.takeRequest (.setRole vol role) fun p => p.setRole vol role)

/-! ### Eject (R88) -/

/-- The conditions that keep a volume from being ejected (R88, 4). -/
def Part.ejectHeld (p : Part) (d : Fin 4) (v : Nat) : Bool :=
  (allReaders.any fun l => match (p.reader l).offload.bind (·.current) with
    | some cur => decide (v ∈ cur.fanOut)
    | none => false) ||
    (p.pool.slots.any fun s => s.writes.any fun w => w.vol == v) ||
    (p.dest d).explicit.isSome

def Part.ejectRequest (p : Part) (vol : Nat) : Reply :=
  if 7 < vol then p.refuse .range
  else
    match p.volume vol with
    | none => p.refuse .notFound
    | some v =>
      match v.attachedLane with
      | none => p.refuse .wrongState
      | some d => if p.ejectHeld d vol then p.refuse .inUse else (p.ejectVolume d vol).accept

/-- Eject (R88). -/
def execEject (vol : Nat) (s : State) : Host.Outcome State Fault Refusal :=
  .next (s.takeRequest (.eject vol) fun p => p.ejectRequest vol)

/-! ### Retire Volume (R12, R89) -/

def Plan.without (x : Plan) (v : Nat) : Plan := { x with volumes := x.volumes.filter (· != v) }

/-- What Retire Volume takes from one clip: the copy entry, the proxy and the COPY_MISMATCH entry (R12). -/
def Clip.forget (c : Clip) (v : Nat) : Clip :=
  { c.removeCopy v with
    proxy := (match c.proxy with
      | some x => if x.vol = v then none else some x
      | none => none)
    faults := c.faults.filter fun f => !(f.kind == .copyMismatch && f.vol == v) }

/-- The claims of R12. -/
def Part.forgetVolume (p : Part) (v : Nat) : Part :=
  let touched := (p.clips.filter fun e => e.2.forget v != e.2).map (·.2.card)
  let p : Part :=
    { p with
      standing := p.standing.without v
      cards := p.cards.map fun e => (e.1, ({ e.2 with plan := e.2.plan.without v } : Card))
      clips := p.clips.map fun e => (e.1, e.2.forget v) }
  p.each touched Part.evaluate

def Part.retireVolume (p : Part) (vol : Nat) : Reply :=
  if 7 < vol then p.refuse .range
  else
    match p.volume vol with
    | none => p.refuse .notFound
    | some v =>
      if v.lane.isSome ∨ 0 < p.cardsOn vol ∨ p.targeted vol = true then p.refuse .inUse
      else
        let dropped := (p.entriesOn vol).length + p.proxiesOn vol
        let q := p.forgetVolume vol
        ({ q with volumes := tdel q.volumes vol } : Part).answerWith (leBytes 2 dropped)

/-- Retire Volume (R89). -/
def execRetireVolume (vol : Nat) (s : State) : Host.Outcome State Fault Refusal :=
  .next (s.takeRequest (.retireVolume vol) fun p => p.retireVolume vol)

end Sys2Proof.Machine
end

