-- ==== Sys2Proof/Machine/UnitRequests.lean ====
section
/-! DEFINITION. The lane and unit requests: settings, Reset Unit, Sense Unit (02, 04, 08, 10). -/

namespace Sys2Proof.Machine

/-! ### Settings (R43, R87) -/

/-- A lane mode by its code (11.5). -/
def laneModeOf : Nat → Option LaneMode
  | 0 => some .manual | 1 => some .auto | _ => none

def Part.setLaneMode (p : Part) (lane mode : Nat) : Reply :=
  match unitAt 6 lane, laneModeOf mode with
  | some l, some m => (p.modReader l fun r => { r with mode := m }).accept
  | _, _ => p.refuse .range

/-- Set Lane Mode (R43). -/
def execSetLaneMode (lane mode : Nat) (s : State) : Host.Outcome State Fault Refusal :=
  .next (s.takeRequest (.setLaneMode lane mode) fun p => p.setLaneMode lane mode)

/-- The settings of Set Lane Timing (R43). The limit of a read in its retry procedure stays, unless its retries used already
reach the new limit: its next failure then makes the block unreadable. -/
def ReaderLane.retime (r : ReaderLane) (count exponent retry : Nat) : ReaderLane :=
  { r with
    stallCount := count, stallExp := exponent, retryLimit := retry,
    readLimit := if retry ≤ r.retries then retry else r.readLimit }

def Part.setTimingReader (p : Part) (lane count exponent retry : Nat) : Reply :=
  match unitAt 6 lane with
  | some l =>
    if 255 < count ∨ 7 < exponent ∨ 7 < retry then p.refuse .range
    else (p.modReader l fun r => r.retime count exponent retry).accept
  | none => p.refuse .range

/-- Set Lane Timing, reader form (R43). -/
def execSetLaneTimingReader (lane count exponent retry : Nat) (s : State) : Host.Outcome State Fault Refusal :=
  .next (s.takeRequest (.setLaneTimingReader lane count exponent retry) fun p =>
    p.setTimingReader lane count exponent retry)

def Part.setTimingDestination (p : Part) (lane count exponent : Nat) : Reply :=
  match unitAt 4 lane with
  | some d =>
    if 255 < count ∨ 7 < exponent then p.refuse .range
    else (p.modDest d fun r => { r with stallCount := count, stallExp := exponent }).accept
  | none => p.refuse .range

/-- Set Lane Timing, destination form (R87). -/
def execSetLaneTimingDestination (lane count exponent : Nat) (s : State) : Host.Outcome State Fault Refusal :=
  .next (s.takeRequest (.setLaneTimingDestination lane count exponent) fun p =>
    p.setTimingDestination lane count exponent)

/-! ### Units (R187) -/

/-- A unit as Reset Unit and Sense Unit number it. -/
inductive UnitId
  | dest (d : Fin 4)
  | reader (l : Fin 6)
  | render
  | channel (c : Fin 2)
deriving DecidableEq, Repr

/-- The unit of a number (R187); 10 and 11, and numbers above 14, name none. -/
def unitOf (n : Nat) : Option UnitId :=
  match unitAt 4 n with
  | some d => some (.dest d)
  | none =>
    match unitAt 6 (n - 4) with
    | some l => some (.reader l)
    | none =>
      if n = 12 then some .render
      else if n = 13 then some (.channel 0)
      else if n = 14 then some (.channel 1)
      else none

/-! ### Reset Unit (R44, R90, R166, R177) -/

/-- The operation a reset of a reader lane aborts (11.5). -/
def ReaderLane.abortedCode (r : ReaderLane) : Nat :=
  match r.state with
  | .mounting => 1
  | .offloading => 2
  | .erasing => 3
  | _ => 0

/-- The explicit operation a reset of a destination lane aborts (11.5). -/
def DestLane.abortedCode (r : DestLane) : Nat :=
  match r.explicit with
  | none => 0
  | some (.verify _) => 1
  | some (.recopy _) => 2

/-- The report of a reset of a reader lane: the operation aborted, the card bound, whether EQUIPMENT was left (R44). -/
def Part.resetReaderReport (p : Part) (l : Fin 6) : List Byte :=
  leBytes 1 (p.reader l).abortedCode ++ optBytes 1 (p.boundCard l) ++ flagByte ((p.reader l).state == .equipment)

/-- The report of a reset of a destination lane: the operation aborted, whether a sweep verify was, the offload writes
cancelled (R90). -/
def Part.resetDestReport (p : Part) (d : Fin 4) : List Byte :=
  leBytes 1 (p.dest d).abortedCode ++ flagByte (p.dest d).sweep.isSome ++
    leBytes 1 (match p.boundVolume d with
      | some v => p.writesTo v
      | none => 0)

/-- The report of a reset of the render engine: tag and clip of the render aborted, the QUEUED entries kept (R166). -/
def Part.resetRenderReport (p : Part) : List Byte :=
  match p.render.active with
  | some x => flagByte true ++ leBytes 2 x.tag ++ leBytes 2 x.clip ++ leBytes 1 (p.render.queue.length - 1)
  | none => List.replicate 5 0 ++ leBytes 1 p.render.queue.length

/-- A unit reset of the render engine (R166). -/
def Part.resetRender (p : Part) : Part := (p.dropRender.setRender fun r => { r with term := TermSlot.none }).examine

/-- The report of a reset of a channel: the state it left and its clip (R177). -/
def Part.resetChannelReport (p : Part) (c : Fin 2) : List Byte :=
  leBytes 1 (p.channel c).state.code ++ optBytes 2 (p.channel c).clip

/-- A unit reset of a preview channel (R177). -/
def Part.resetChannel (p : Part) (c : Fin 2) : Part :=
  (p.unbindChannel c).modChannel c fun ch => { ch with term := TermSlot.none }

def Part.resetUnit (p : Part) (n : Nat) : Reply :=
  match unitOf n with
  | none => p.refuse .range
  | some (.dest d) => (p.resetDest d).answerWith (p.resetDestReport d)
  | some (.reader l) => (p.resetReader l).answerWith (p.resetReaderReport l)
  | some .render => p.resetRender.answerWith p.resetRenderReport
  | some (.channel c) => (p.resetChannel c).answerWith (p.resetChannelReport c)

/-- Reset Unit (R187). -/
def execResetUnit (unit : Nat) (s : State) : Host.Outcome State Fault Refusal :=
  .next (s.takeRequest (.resetUnit unit) fun p => p.resetUnit unit)

/-! ### Sense Unit (R194) -/

/-- A record as it is kept after a sense. -/
def TermSlot.sensed (t : TermSlot) : TermSlot := { t with unsensed := false }

/-- The present condition of a reader lane (R43, R194); the insertion count is 1 byte (log 10), and the trip
counters stand in the order of the fault kinds (DESIGN CHOICE, log 59). -/
def Part.readerCondition (p : Part) (l : Fin 6) : List Byte :=
  let r := p.reader l
  leBytes 1 r.state.code ++ leBytes 1 r.mode.code ++ leBytes 1 r.stallCount ++ leBytes 1 r.stallExp ++
    leBytes 1 r.retryLimit ++ flagByte r.slotPresent ++ flagByte r.slotLocked ++ [r.slotCount] ++
    flagByte r.mountPending ++ optBytes 1 (p.boundCard l) ++ (r.trips.map (leBytes 1)).flatten ++ flagByte r.serves.isSome

/-- The present condition of a destination lane (R194). -/
def Part.destCondition (p : Part) (d : Fin 4) : List Byte :=
  let r := p.dest d
  leBytes 1 r.state.code ++ optBytes 1 (p.boundVolume d) ++ flagByte r.present ++ flagByte r.identifyPending ++
    leBytes 1 r.stallCount ++ leBytes 1 r.stallExp ++ flagByte (r.explicit.isSome || r.sweep.isSome) ++
    leBytes 2 r.release.length

/-- The present condition of the render engine (R194). -/
def Part.renderCondition (p : Part) : List Byte :=
  leBytes 1 (if p.render.active.isSome then 1 else 0) ++ optBytes 2 (p.render.active.map (·.tag)) ++
    leBytes 1 p.render.queue.length

/-- A channel's source as an optional field: kind (1 volume, 2 card) and the volume index or the reader lane, as a
recopy's source stands in its record (11.2). -/
def Part.sourceBytes (p : Part) (s : Option Source) : List Byte :=
  match s with
  | some (.volume v) => ([1, 1] : List Byte) ++ leBytes 1 v
  | some (.card c) =>
    ([1, 2] : List Byte) ++ leBytes 1 (match (p.card c).bind (·.lane) with
      | some l => l.val
      | none => 0)
  | none => [0, 0, 0]

/-- The present condition of a preview channel (R167). -/
def Part.channelCondition (p : Part) (c : Fin 2) : List Byte :=
  let ch := p.channel c
  leBytes 1 ch.state.code ++ optBytes 2 ch.clip ++ optBytes 1 ch.override ++ leBytes 4 ch.position ++ flagByte ch.loop ++
    p.sourceBytes ch.source

/-- Steps 2 and 3 for a reader lane: the flags cleared, a mount held back started. -/
def Part.senseReader (p : Part) (l : Fin 6) : Part :=
  let p := p.modReader l fun r => { r with term := r.term.sensed, changed := false }
  if (p.reader l).state = .empty ∧ (p.reader l).mountPending = true then p.startMount l else p

/-- Steps 2 and 3 for a destination lane: the flags cleared, an identification held back started. -/
def Part.senseDest (p : Part) (d : Fin 4) : Part :=
  (p.modDest d fun r => { r with term := r.term.sensed, changed := false }).startIdentify d

/-- Steps 2 and 3 for the render engine: the flag cleared, the queue examined. -/
def Part.senseRender (p : Part) : Part := (p.setRender fun r => { r with term := r.term.sensed }).examine

/-- Step 2 for a preview channel. -/
def Part.senseChannel (p : Part) (c : Fin 2) : Part := p.modChannel c fun ch => { ch with term := ch.term.sensed }

def Part.senseUnit (p : Part) (n : Nat) : Reply :=
  match unitOf n with
  | none => p.refuse .range
  | some (.dest d) =>
    let q := p.senseDest d
    q.answerWith ((p.dest d).term.bytes ++ flagByte (p.dest d).changed ++ q.destCondition d)
  | some (.reader l) =>
    let q := p.senseReader l
    q.answerWith ((p.reader l).term.bytes ++ flagByte (p.reader l).changed ++ q.readerCondition l)
  | some .render =>
    let q := p.senseRender
    q.answerWith (p.render.term.bytes ++ flagByte false ++ q.renderCondition)
  | some (.channel c) =>
    let q := p.senseChannel c
    q.answerWith ((p.channel c).term.bytes ++ flagByte false ++ q.channelCondition c)

/-- Sense Unit (R194). -/
def execSenseUnit (unit : Nat) (s : State) : Host.Outcome State Fault Refusal :=
  .next (s.takeRequest (.senseUnit unit) fun p => p.senseUnit unit)

end Sys2Proof.Machine
end

