-- ==== Sys2Proof/Machine/FaultRequests.lean ====
section
/-! DEFINITION. The camera requests and the fault requests: policy, the known-defect map, Sense Faults (01, 06, 10). -/

namespace Sys2Proof.Machine

/-! ### Cameras (R15, R16, R17) -/

/-- The number of card records that name a letter. -/
def Part.cardsOf (p : Part) (letter : Nat) : Nat := (p.cards.filter fun e => e.2.id.letter == letter).length

/-- An entry of List Cameras (R15); the camera index is 1 byte (log 10). -/
def Part.cameraEntry (p : Part) (i : Nat) (c : Camera) : List Byte :=
  leBytes 1 i ++ leBytes 1 c.letter ++ leBytes 8 c.body.toNat ++ optBytes 1 c.defaultLook ++ leBytes 1 (p.cardsOf c.letter)

def Part.listCameras (p : Part) (start : Nat) : Answer :=
  if 7 < start then .bare .range
  else .withPayload (pageOf Config.page (entriesFrom p.cameras start (fun _ => true) p.cameraEntry))

/-- List Cameras (R15). -/
def execListCameras (start : Nat) (s : State) : Host.Outcome State Fault Refusal :=
  .next (s.takeQuery (.listCameras start) fun p => p.listCameras start)

def Part.setCameraDefault (p : Part) (letter : Nat) (look : Option Nat) : Reply :=
  if isLetter letter = false ∨ lookAbove look = true then p.refuse .range
  else
    match p.cameraOf letter with
    | none => p.refuse .notFound
    | some (i, cam) =>
      if p.lookFree look then p.refuse .notFound
      else
        (({ p with cameras := tmod p.cameras i fun c => { c with defaultLook := look } } : Part).refMove .cameras
          cam.defaultLook look).accept

/-- Set Camera Default (R16). -/
def execSetCameraDefault (letter : Nat) (look : Option Nat) (s : State) : Host.Outcome State Fault Refusal :=
  .next (s.takeRequest (.setCameraDefault letter look) fun p => p.setCameraDefault letter look)

def Part.retireCamera (p : Part) (letter : Nat) : Reply :=
  match p.cameraOf letter with
  | none => p.refuse .notFound
  | some (i, cam) =>
    if 0 < p.cardsOf letter then p.refuse .inUse
    else (({ p with cameras := tdel p.cameras i } : Part).refRelease .cameras cam.defaultLook).accept

/-- Retire Camera (R17). -/
def execRetireCamera (letter : Nat) (s : State) : Host.Outcome State Fault Refusal :=
  .next (s.takeRequest (.retireCamera letter) fun p => p.retireCamera letter)

/-! ### Policy (R115, R116) -/

/-- An integrity kind (6.1): enabled and holds_release are fixed. -/
def FaultKind.isIntegrity : FaultKind → Bool
  | .sourceMismatch | .copyMismatch | .readError | .headerMismatch => true
  | _ => false

/-- The ranges of a kind's two thresholds; none for a kind that has none (R115). -/
def FaultKind.thresholds : FaultKind → Option ((Nat × Nat) × (Nat × Nat))
  | .stuckSite => some ((8, 255), (0, 1023))
  | .clipHigh => some ((1, 1000), (1, 255))
  | .blackFrame => some ((0, 1023), (1, 255))
  | _ => none

def outside (r : Nat × Nat) (n : Nat) : Bool := decide (n < r.1) || decide (r.2 < n)

/-- The RANGE conditions of R116. -/
def policyOutside (k : FaultKind) (x : Policy) : Bool :=
  decide (15 < x.trip) ||
    (match k.thresholds with
     | some (a, b) => outside a x.first || outside b x.second
     | none => false) ||
    (k.isIntegrity && (!x.enabled || !x.holds)) || (k == .copyMismatch && x.trip != 0)

/-- The entry as it is stored: thresholds of a kind that has none are ignored. -/
def policyStored (k : FaultKind) (x : Policy) : Policy :=
  match k.thresholds with
  | some _ => x
  | none => { x with first := 0, second := 0 }

def Part.setPolicy (p : Part) (kind : Nat) (x : Policy) : Reply :=
  match faultKindOf kind with
  | none => p.refuse .range
  | some k =>
    if policyOutside k x then p.refuse .range
    else
      let q : Part := { p with fault := { p.fault with policy := p.fault.policy.set k.index (policyStored k x) } }
      if (p.policy k).holds = x.holds then q.accept else q.evaluateAll.accept

/-- Set Policy (R116). -/
def execSetPolicy (kind : Nat) (enabled holds : Bool) (trip first second : Nat) (s : State) :
    Host.Outcome State Fault Refusal :=
  .next (s.takeRequest (.setPolicy kind enabled holds trip first second) fun p =>
    p.setPolicy kind { enabled := enabled, holds := holds, trip := trip, first := first, second := second })

/-- The policy entry as Read Policy returns it (R116): both thresholds stand in it for every kind, 0 for a kind that has none
(log 10), and the values stand in the order of R115 (DESIGN CHOICE, log 59). -/
def Part.readPolicy (p : Part) (kind : Nat) : Answer :=
  match faultKindOf kind with
  | none => .bare .range
  | some k =>
    let x := p.policy k
    .withPayload (flagByte x.enabled ++ flagByte x.holds ++ leBytes 1 x.trip ++ leBytes 2 x.first ++ leBytes 2 x.second ++
      flagByte k.isIntegrity ++ flagByte k.isIntegrity ++ flagByte (k == .copyMismatch))

/-- Read Policy (R116). -/
def execReadPolicy (kind : Nat) (s : State) : Host.Outcome State Fault Refusal :=
  .next (s.takeQuery (.readPolicy kind) fun p => p.readPolicy kind)

/-! ### The known-defect map (R123, R124, R125) -/

/-- A new entry at the lowest free index, or the refusal of a full or duplicate map (R123, R125). -/
def Part.takeDefect (p : Part) (d : Defect) : Status ⊕ (Part × Nat) :=
  if p.fault.has d then .inl .duplicate
  else
    match tfree p.fault.defects Config.defects with
    | none => .inl .tableFull
    | some i => .inr ({ p with fault := { p.fault with defects := tset p.fault.defects i d } }, i)

/-- The effect of Add Defect; the index of the new entry is 1 byte (log 10). -/
def Part.addDefect (p : Part) (letter x y xmask ymask : Nat) : Reply :=
  if isLetter letter = false ∨ 8191 < x ∨ 8191 < y ∨ 8191 < xmask ∨ 8191 < ymask then p.refuse .range
  else
    match p.takeDefect (newDefect letter x y xmask ymask) with
    | .inl st => p.refuse st
    | .inr (q, i) => q.answerWith (leBytes 1 i)

/-- Add Defect (R123). -/
def execAddDefect (letter x y xmask ymask : Nat) (s : State) : Host.Outcome State Fault Refusal :=
  .next (s.takeRequest (.addDefect letter x y xmask ymask) fun p => p.addDefect letter x y xmask ymask)

/-- The effect of Remove Defect; its parameter is 1 byte (log 10). -/
def Part.removeDefect (p : Part) (i : Nat) : Reply :=
  if 127 < i then p.refuse .range
  else
    match tget p.fault.defects i with
    | none => p.refuse .notFound
    | some _ => ({ p with fault := { p.fault with defects := tdel p.fault.defects i } } : Part).accept

/-- Remove Defect (R123). -/
def execRemoveDefect (index : Nat) (s : State) : Host.Outcome State Fault Refusal :=
  .next (s.takeRequest (.removeDefect index) fun p => p.removeDefect index)

/-- A List Defects entry; its index is 1 byte (log 10). -/
def defectEntry (i : Nat) (d : Defect) : List Byte :=
  leBytes 1 i ++ leBytes 1 d.letter ++ leBytes 2 d.x ++ leBytes 2 d.y ++ leBytes 2 d.xmask ++ leBytes 2 d.ymask ++
    leBytes 1 d.hits

def Part.listDefects (p : Part) (start : Nat) (letter : Option Nat) : Answer :=
  if 127 < start ∨ letter.any (fun n => !isLetter n) = true then .bare .range
  else
    .withPayload (pageOf Config.page (entriesFrom p.fault.defects start (fun d =>
      match letter with
      | some n => d.letter == n
      | none => true) defectEntry))

/-- List Defects (R124). -/
def execListDefects (start : Nat) (letter : Option Nat) (s : State) : Host.Outcome State Fault Refusal :=
  .next (s.takeQuery (.listDefects start letter) fun p => p.listDefects start letter)

/-- The effect of Adopt Defect; the index of the new entry is 1 byte (log 10). -/
def Part.adoptDefect (p : Part) (clip : Nat) : Reply :=
  if 1023 < clip then p.refuse .range
  else
    match p.clip clip with
    | none => p.refuse .notFound
    | some c =>
      match (c.faultWith .stuckSite 0).bind (·.firstSite) with
      | none => p.refuse .notFound
      | some site =>
        match p.takeDefect (newDefect c.ident.letter site.1 site.2 8191 8191) with
        | .inl st => p.refuse st
        | .inr (q, i) => (q.acknowledge clip .stuckSite 0).answerWith (leBytes 1 i)

/-- Adopt Defect (R125). -/
def execAdoptDefect (clip : Nat) (s : State) : Host.Outcome State Fault Refusal :=
  .next (s.takeRequest (.adoptDefect clip) fun p => p.adoptDefect clip)

/-! ### Sense Faults (R114, R197) -/

/-- The number of clips in use with an OPEN entry of a release-holding kind. -/
def Part.heldClips (p : Part) : Nat := (p.clips.filter fun e => p.faultHeld e.2).length

def Part.senseFaults (p : Part) : Reply :=
  ({ p with
      fault := { p.fault with mark := p.fault.opened }
      attention := { p.attention with faults := false } } : Part).answerWith
    (leBytes 2 p.fault.opened.toNat ++ leBytes 2 p.fault.mark.toNat ++ leBytes 2 p.heldClips)

/-- Sense Faults (R197). -/
def execSenseFaults (s : State) : Host.Outcome State Fault Refusal :=
  .next (s.takeRequest .senseFaults fun p => p.senseFaults)

end Sys2Proof.Machine
end

