-- ==== Sys2Proof/Machine/LookRequests.lean ====
section
/-! DEFINITION. The look requests (07). -/

namespace Sys2Proof.Machine

/-! ### Create, read, retire (R139, R151, R152) -/

/-- A character of a name tag in the printable range, space to tilde (R139). -/
def isPrintable (b : Byte) : Bool := decide (0x20 ≤ b.toNat) && decide (b.toNat ≤ 0x7E)

/-- The look id that Create Look takes: the one named, or the lowest FREE one. -/
def Part.lookId (p : Part) (look : Option Nat) : Option Nat := match look with
  | some l => some l
  | none => tfree p.looks Config.looks

def Part.createLook (p : Part) (tag : List Byte) (look : Option Nat) : Reply :=
  if lookAbove look = true ∨ tag.all isPrintable = false then p.refuse .range
  else if look.any (fun l => (p.look l).isSome) = true then p.refuse .inUse
  else
    match p.lookId look with
    | none => p.refuse .tableFull
    | some l => ({ p with looks := tset p.looks l (Look.created tag) } : Part).answerWith (leBytes 1 l)

/-- Create Look (R139). -/
def execCreateLook (tag : List Byte) (look : Option Nat) (s : State) : Host.Outcome State Fault Refusal :=
  .next (s.takeRequest (.createLook tag look) fun p => p.createLook tag look)

def valueBytes (vs : List Int) : List Byte := (vs.map signedBytes).flatten

def LookSlot.bytes (x : LookSlot) : List Byte := valueBytes x.values ++ leBytes 2 x.version ++ leBytes 1 x.pins

/-- The result of Read Look for an ACTIVE look, field by field (R151). -/
def Look.bytes (k : Look) : List Byte :=
  leBytes 1 1 ++ k.tag ++ leBytes 2 k.mask.toNat ++ valueBytes k.staging ++ k.live.bytes ++
    (match k.held with
     | some h => flagByte true ++ h.bytes
     | none => List.replicate 28 0) ++
    leBytes 2 k.differing ++ leBytes 2 k.refs ++ leBytes 2 k.refClips ++ leBytes 2 k.refCameras ++
    leBytes 2 k.refRenders ++ leBytes 2 k.refChannels

def Part.readLook (p : Part) (look : Nat) : Answer :=
  if 63 < look then .bare .range
  else
    match p.look look with
    | some k => .withPayload k.bytes
    | none => .withPayload [0]

/-- Read Look (R151). -/
def execReadLook (look : Nat) (s : State) : Host.Outcome State Fault Refusal :=
  .next (s.takeQuery (.readLook look) fun p => p.readLook look)

def Part.retireLook (p : Part) (look : Nat) : Reply :=
  if 63 < look then p.refuse .range
  else
    match p.look look with
    | none => p.refuse .notFound
    | some k =>
      if 0 < k.refs ∨ k.pinned = true then p.refuse .inUse
      else ({ p with looks := tdel p.looks look } : Part).accept

/-- Retire Look (R152). -/
def execRetireLook (look : Nat) (s : State) : Host.Outcome State Fault Refusal :=
  .next (s.takeRequest (.retireLook look) fun p => p.retireLook look)

/-! ### Staging and commits (R140 to R144) -/

/-- The look with a staged value. -/
def Look.stage (k : Look) (param : Nat) (v : Int) : Look := { k with staging := k.staging.set param v }

/-- The answer of a commit made: COMMITTED with the LIVE version that results. -/
def committed (k : Look) : Answer := { status := .committed, payload := leBytes 2 k.live.version }

def Part.setLook (p : Part) (look : Nat) (k : Look) : Part := p.modLook look fun _ => k

def Part.stageParameter (p : Part) (look param : Nat) (v : Int) : Reply :=
  if 63 < look ∨ 11 < param ∨ paramInRange param v = false then p.refuse .range
  else
    match p.look look with
    | none => p.refuse .notFound
    | some k =>
      let staged := k.stage param v
      if k.mask.getLsbD param then
        match staged.commit with
        | some after => (p.setLook look after, committed after)
        | none => (p.setLook look staged, Answer.bare .stagedHeld)
      else (p.setLook look staged, Answer.bare .staged)

/-- Stage Parameter (R140). -/
def execStageParameter (look param : Nat) (value : Int) (s : State) : Host.Outcome State Fault Refusal :=
  .next (s.takeRequest (.stageParameter look param value) fun p => p.stageParameter look param value)

def Part.setCommitMask (p : Part) (look : Nat) (params : BitVec 16) : Reply :=
  if 63 < look ∨ 4095 < params.toNat then p.refuse .range
  else
    match p.look look with
    | none => p.refuse .notFound
    | some _ => (p.modLook look fun k => { k with mask := params.setWidth 12 }).accept

/-- Set Commit Mask (R141). -/
def execSetCommitMask (look : Nat) (params : BitVec 16) (s : State) : Host.Outcome State Fault Refusal :=
  .next (s.takeRequest (.setCommitMask look params) fun p => p.setCommitMask look params)

def Part.commitLook (p : Part) (look : Nat) : Reply :=
  if 63 < look then p.refuse .range
  else
    match p.look look with
    | none => p.refuse .notFound
    | some k =>
      match k.commit with
      | some after => (p.setLook look after, committed after)
      | none => p.refuse .lookHeld

/-- Commit Look (R144). -/
def execCommitLook (look : Nat) (s : State) : Host.Outcome State Fault Refusal :=
  .next (s.takeRequest (.commitLook look) fun p => p.commitLook look)

def Part.discardStaging (p : Part) (look : Nat) : Reply :=
  if 63 < look then p.refuse .range
  else
    match p.look look with
    | none => p.refuse .notFound
    | some _ => (p.modLook look fun k => { k with staging := k.live.values }).accept

/-- Discard Staging (R142). -/
def execDiscardStaging (look : Nat) (s : State) : Host.Outcome State Fault Refusal :=
  .next (s.takeRequest (.discardStaging look) fun p => p.discardStaging look)

end Sys2Proof.Machine
end

