-- ==== Sys2Proof/Machine/PictureRequests.lean ====
section
/-! DEFINITION. The render requests, the preview requests and the attention requests (08, 10). -/

namespace Sys2Proof.Machine

/-! ### Render queue (R155 to R158) -/

/-- The first tag from the counter's value on that no entry in the queue holds (R155). -/
def RenderEngine.takeTag (r : RenderEngine) : Nat :=
  let free := (List.range (Config.renderQueue + 1)).find? fun k =>
    r.queue.all fun e => e.tag != (r.nextTag + k) % 65536
  (r.nextTag + free.getD 0) % 65536

/-- The queue and the counter after an entry has been added at the tail (R155, R156). -/
def RenderEngine.enqueue (r : RenderEngine) (clip : Nat) (look : Option Nat) (target : Nat) : RenderEngine :=
  { r with
    queue := r.queue ++ [{ tag := r.takeTag, clip := clip, look := look, target := target }]
    nextTag := (r.takeTag + 1) % 65536 }

def Part.enqueueRender (p : Part) (clip : Nat) (look : Option Nat) (target : Nat) : Reply :=
  if 1023 < clip ∨ lookAbove look = true ∨ 7 < target then p.refuse .range
  else
    match p.clip clip, p.volume target with
    | some _, some v =>
      if p.lookFree look then p.refuse .notFound
      else if v.role ≠ .proxy then p.refuse .wrongRole
      else if Config.renderQueue ≤ p.render.queue.length then p.refuse .queueFull
      else
        ((p.setRender fun r => r.enqueue clip look target).refTake .renders look).examine.answerWith
          (leBytes 2 p.render.takeTag)
    | _, _ => p.refuse .notFound

/-- Enqueue Render (R156). -/
def execEnqueueRender (clip : Nat) (look : Option Nat) (target : Nat) (s : State) : Host.Outcome State Fault Refusal :=
  .next (s.takeRequest (.enqueueRender clip look target) fun p => p.enqueueRender clip look target)

/-- The entry that is RENDERING has the tag. -/
def RenderEngine.isRendering (r : RenderEngine) (tag : Nat) : Bool := match r.active with
  | some x => x.tag == tag
  | none => false

def Part.cancelRender (p : Part) (tag : Nat) : Reply :=
  if p.render.queue.any fun e => e.tag == tag then
    (if p.render.isRendering tag then p.abortRender .cancelled .none else p.removeEntry tag).accept
  else p.refuse .notFound

/-- Cancel Render (R157). -/
def execCancelRender (tag : Nat) (s : State) : Host.Outcome State Fault Refusal :=
  .next (s.takeRequest (.cancelRender tag) fun p => p.cancelRender tag)

/-- Bytes 9 to 22 of a List Render Queue entry: the state, and for the RENDERING entry its source, look used, version,
blocks read and frames written (11.2). -/
def RenderEngine.stateBytes (r : RenderEngine) (tag : Nat) : List Byte :=
  match r.active with
  | some x =>
    if x.tag = tag then
      [1] ++ leBytes 1 x.source ++ optBytes 1 (x.used.map (·.1)) ++ leBytes 2 ((x.used.map (·.2)).getD 0) ++
        leBytes 4 x.sourceBlocks ++ leBytes 4 x.frames
    else List.replicate 14 0
  | none => List.replicate 14 0

/-- A List Render Queue entry (11.2). -/
def RenderEngine.entryBytes (r : RenderEngine) (pos : Nat) (e : RenderEntry) : List Byte :=
  leBytes 2 pos ++ leBytes 2 e.tag ++ leBytes 2 e.clip ++ optBytes 1 e.look ++ leBytes 1 e.target ++ r.stateBytes e.tag

def Part.listRenderQueue (p : Part) (start : Nat) : Answer :=
  if 15 < start then .bare .range
  else
    .withPayload (pageOf Config.renderPage
      ((p.render.queue.zipIdx.drop start).map fun e => (e.2, p.render.entryBytes e.2 e.1)))

/-- List Render Queue (R158). -/
def execListRenderQueue (start : Nat) (s : State) : Host.Outcome State Fault Refusal :=
  .next (s.takeQuery (.listRenderQueue start) fun p => p.listRenderQueue start)

/-! ### Preview (R169, R172, R175, R176) -/

/-- Steps 1 to 3 of a Bind: the read withdrawn, the override references moved, the channel bound anew (R169). -/
def Part.rebind (p : Part) (c : Fin 2) (clip : Nat) (look : Option Nat) : Part :=
  let old := (p.channel c).override
  ((p.withdrawRead c).refMove .channels old look).modChannel c fun ch =>
    { Channel.reset with clip := some clip, override := look, term := ch.term }

/-- Step 4 of a Bind: a source is selected (R168, R169). -/
def Part.bindSource (p : Part) (c : Fin 2) (clip : Nat) : Part :=
  match p.selectSource clip none with
  | some t => p.modChannel c fun ch => ({ ch with state := .paused, source := some t } : Channel).aim 0
  | none => p.noSource c clip

def Part.bindPreview (p : Part) (channel clip : Nat) (look : Option Nat) : Reply :=
  match unitAt 2 channel with
  | none => p.refuse .range
  | some c =>
    if 1023 < clip ∨ lookAbove look = true then p.refuse .range
    else if (p.clip clip).isNone = true ∨ p.lookFree look = true then p.refuse .notFound
    else if (p.channel c).term.unsensed then p.refuse .unsensed
    else
      let q := (p.rebind c clip look).bindSource c clip
      q.answerWith (q.sourceBytes (q.channel c).source)

/-- Bind Preview (R169). -/
def execBindPreview (channel clip : Nat) (look : Option Nat) (s : State) : Host.Outcome State Fault Refusal :=
  .next (s.takeRequest (.bindPreview channel clip look) fun p => p.bindPreview channel clip look)

def Part.unbindPreview (p : Part) (channel : Nat) : Reply :=
  match unitAt 2 channel with
  | none => p.refuse .range
  | some c => (p.unbindChannel c).accept

/-- Unbind Preview (R175). -/
def execUnbindPreview (channel : Nat) (s : State) : Host.Outcome State Fault Refusal :=
  .next (s.takeRequest (.unbindPreview channel) fun p => p.unbindPreview channel)

/-- A seek in PAUSED or PLAYING: the next frame and the read under way are dropped, the position is set (R172). -/
def Part.seekTo (p : Part) (c : Fin 2) (frame : Nat) : Part :=
  (p.withdrawRead c).modChannel c fun ch => ({ ch with position := frame } : Channel).aim frame

/-- The shown frame is the clip's last. -/
def Channel.atLast (ch : Channel) : Bool := match ch.shown with
  | some f => f.last
  | none => false

def Part.play (p : Part) (channel : Nat) (loop : Bool) : Reply :=
  match unitAt 2 channel with
  | none => p.refuse .range
  | some c =>
    let ch := p.channel c
    if ch.state = .idle ∨ ch.state = .noSource then p.refuse .wrongState
    else if ch.term.unsensed then p.refuse .unsensed
    else if ch.state = .paused then
      let q := if ch.atLast && !loop then p.seekTo c 0 else p
      (q.modChannel c fun x => { x with loop := loop, state := .playing }).accept
    else (p.modChannel c fun x => { x with loop := loop }).accept

/-- Play (R172). -/
def execPlay (channel : Nat) (loop : Bool) (s : State) : Host.Outcome State Fault Refusal :=
  .next (s.takeRequest (.play channel loop) fun p => p.play channel loop)

def Part.pause (p : Part) (channel : Nat) : Reply :=
  match unitAt 2 channel with
  | none => p.refuse .range
  | some c =>
    let ch := p.channel c
    if ch.state = .idle ∨ ch.state = .noSource then p.refuse .wrongState
    else (p.modChannel c fun x => { x with state := .paused }).accept

/-- Pause (R172). -/
def execPause (channel : Nat) (s : State) : Host.Outcome State Fault Refusal :=
  .next (s.takeRequest (.pause channel) fun p => p.pause channel)

/-- The directory frame count of the clip bound to a channel. -/
def Part.boundFrames (p : Part) (c : Fin 2) : Nat := match (p.channel c).clip.bind p.clip with
  | some clip => clip.frameCount
  | none => 0

def Part.seek (p : Part) (channel frame : Nat) : Reply :=
  match unitAt 2 channel with
  | none => p.refuse .range
  | some c =>
    let ch := p.channel c
    if ch.state = .idle then p.refuse .wrongState
    else if p.boundFrames c ≤ frame then p.refuse .range
    else if ch.state = .noSource then (p.modChannel c fun x => { x with position := frame }).accept
    else (p.seekTo c frame).accept

/-- Seek (R172). -/
def execSeek (channel frame : Nat) (s : State) : Host.Outcome State Fault Refusal :=
  .next (s.takeRequest (.seek channel frame) fun p => p.seek channel frame)

/-- A scope sample as an optional field. -/
def scopeBytes (x : Option Scope) : List Byte :=
  match x with
  | some m =>
    flagByte true ++ leBytes 4 m.frame ++ optBytes 1 m.look ++ optBytes 2 m.version ++ leBytes 2 m.low ++
      leBytes 2 m.high ++ leBytes 2 m.mean ++ leBytes 2 m.clipped
  | none => List.replicate 18 0

def Part.readScope (p : Part) (channel : Nat) : Reply :=
  match unitAt 2 channel with
  | none => p.refuse .range
  | some c =>
    (p.modChannel c fun ch => { ch with scope := none, armed := true }).answerWith (scopeBytes (p.channel c).scope)

/-- Read Scope (R176). -/
def execReadScope (channel : Nat) (s : State) : Host.Outcome State Fault Refusal :=
  .next (s.takeRequest (.readScope channel) fun p => p.readScope channel)

/-! ### Attention (R196, R198) -/

/-- The mask replaced; bit 15 of the value is ignored (R198). -/
def Part.replaceMask (p : Part) (mask : BitVec 16) : Part :=
  { p with attention := { p.attention with mask := mask.setWidth 15 } }

def Part.setMask (p : Part) (mask : BitVec 16) : Reply :=
  (p.replaceMask mask).answerWith (leBytes 2 p.attention.mask.toNat)

/-- Set Mask (R198). -/
def execSetMask (mask : BitVec 16) (s : State) : Host.Outcome State Fault Refusal :=
  .next (s.takeRequest (.setMask mask) fun p => p.setMask mask)

/-- The number of card records in a state. -/
def Part.cardsIn (p : Part) (st : CardState) : Nat := (p.cards.filter fun e => e.2.state == st).length

def Part.senseCustody (p : Part) : Reply :=
  ({ p with attention := { p.attention with custody := false } } : Part).answerWith
    (leBytes 1 (p.cardsIn .secured) ++ leBytes 1 (p.cardsIn .held) ++ leBytes 1 (p.cardsIn .tripped) ++
      flagByte p.attention.custody)

/-- Sense Custody (R196). -/
def execSenseCustody (s : State) : Host.Outcome State Fault Refusal :=
  .next (s.takeRequest .senseCustody fun p => p.senseCustody)

end Sys2Proof.Machine
end

