-- ==== Sys2Proof/Machine/ReaderLink.lean ====
section
/-! DEFINITION. The events of the reader links: link events, notices, answers, stall expiry (02). -/

namespace Sys2Proof.Machine

/-- The outstanding request of a reader lane when an answer carries its tag (R29). -/
def Part.readerAsks (p : Part) (l : Fin 6) (tag : Byte) : Option ReaderOut :=
  match (p.reader l).out with
  | some o => if o.tag = tag then some o else none
  | none => none

/-- Reader Link Up (R30, R41). -/
def execReaderLinkUp (lane : Fin 6) (s : State) : Host.Outcome State Fault Refusal :=
  .next (s.event fun p => p.readerFound lane)

/-- Reader Link Down (R30, R41). -/
def execReaderLinkDown (lane : Fin 6) (s : State) : Host.Outcome State Fault Refusal :=
  .next (s.event fun p => p.readerLost lane)

/-- A Presence Notice: with a tag it answers the outstanding Presence Request; without one it is taken at any time, in every
lane state (R29, R30). -/
def Part.takePresence (p : Part) (l : Fin 6) (tag : Option Byte) (present locked : Bool) (count : Byte) : Part :=
  match tag with
  | some t =>
    match p.readerAsks l t with
    | some o =>
      match o.request with
      | .presence => p.presenceAnswered l present locked count
      | .step _ | .reinit _ => p
    | none => p
  | none => p.slotReport l present locked count

/-- Presence Notice (R30). -/
def execPresenceNotice (lane : Fin 6) (tag : Option Byte) (present locked : Bool) (count : Byte) (s : State) :
    Host.Outcome State Fault Refusal :=
  .next (s.event fun p => p.takePresence lane tag present locked count)

/-- A Block Answer to a Block Request: good when its block check agrees, else the read has failed (R32). -/
def Part.takeBlock (p : Part) (l : Fin 6) (tag : Byte) (b : Block) : Part :=
  match p.readerAsks l tag with
  | some o =>
    match o.request with
    | .step (.block n) =>
      if b.checkGood then (p.modReader l fun r => { r with out := none, retries := 0 }).readGood l o.owner b
      else p.stepFailed l o (.block n) none
    | .step (.erase _) | .presence | .reinit _ => p
  | none => p

/-- Block Answer (R32). -/
def execBlockAnswer (lane : Fin 6) (tag : Byte) (block : Block) (s : State) : Host.Outcome State Fault Refusal :=
  .next (s.event fun p => p.takeBlock lane tag block)

/-- Hold Answer: the request stays outstanding, nothing else changes (R32, R34). -/
def execHoldAnswer (_lane : Fin 6) (_tag : Byte) (s : State) : Host.Outcome State Fault Refusal := .next (s.event id)

/-- A Fault Answer ends any request; its code is kept for the detail of a termination (R29, R33, R71). -/
def Part.takeReaderFault (p : Part) (l : Fin 6) (tag : Byte) (code : BitVec 16) : Part :=
  match p.readerAsks l tag with
  | some o =>
    let p := p.modReader l fun r => { r with lastFault := some code }
    match o.request with
    | .presence => p.presenceFailed l
    | .step s => p.stepFailed l o s (some code)
    | .reinit again => p.reinitFailed l o again
  | none => p

/-- Reader Fault Answer (R29, R33). -/
def execReaderFaultAnswer (lane : Fin 6) (tag : Byte) (code : BitVec 16) (s : State) :
    Host.Outcome State Fault Refusal :=
  .next (s.event fun p => p.takeReaderFault lane tag code)

/-- A Reinit Answer to a Reinit Request (R33). -/
def Part.takeReinit (p : Part) (l : Fin 6) (tag : Byte) (ready : Bool) : Part :=
  match p.readerAsks l tag with
  | some o =>
    match o.request with
    | .reinit again => if ready then p.reinitDone l o again else p.reinitFailed l o again
    | .presence | .step _ => p
  | none => p

/-- Reinit Answer (R33). -/
def execReinitAnswer (lane : Fin 6) (tag : Byte) (ready : Bool) (s : State) : Host.Outcome State Fault Refusal :=
  .next (s.event fun p => p.takeReinit lane tag ready)

/-- An Erase Answer to an Erase Request (R71). -/
def Part.takeErase (p : Part) (l : Fin 6) (tag : Byte) : Part :=
  match p.readerAsks l tag with
  | some o =>
    match o.request with
    | .step (.erase _) => (p.modReader l fun r => { r with out := none, retries := 0 }).eraseAnswered l
    | .step (.block _) | .presence | .reinit _ => p
  | none => p

/-- Erase Answer (R71). -/
def execEraseAnswer (lane : Fin 6) (tag : Byte) (s : State) : Host.Outcome State Fault Refusal :=
  .next (s.event fun p => p.takeErase lane tag)

/-- A message of a type unknown to the lane is discarded (R29). -/
def execUnknownReaderMessage (_lane : Fin 6) (_type : Byte) (_bytes : List Byte) (s : State) :
    Host.Outcome State Fault Refusal := .next (s.event id)

/-- Reader Stall Expiry: nothing when no timer runs (R34). -/
def execReaderStallExpiry (lane : Fin 6) (s : State) : Host.Outcome State Fault Refusal :=
  .next (s.event fun p => p.readerStall lane)

end Sys2Proof.Machine
end

