-- ==== Sys2Proof/Machine/VolumeLink.lean ====
section
/-! DEFINITION. The events of the volume links and of the video outputs: notices, answers, stall expiry, output frame
requests (04, 08). -/

namespace Sys2Proof.Machine

/-- The outstanding request of a destination lane when an answer carries its tag (R75). -/
def Part.volumeAsks (p : Part) (d : Fin 4) (tag : Byte) : Option VolumeOut :=
  match (p.dest d).out with
  | some o => if o.tag = tag then some o else none
  | none => none

/-- The request is answered: the link is free. -/
def Part.freeLink (p : Part) (d : Fin 4) : Part := p.modDest d fun r => { r with out := none }

/-- Arrival Notice (R79). -/
def execArrivalNotice (lane : Fin 4) (s : State) : Host.Outcome State Fault Refusal :=
  .next (s.event fun p => p.arrival lane)

/-- Detach Notice (R86, R206). -/
def execDetachNotice (lane : Fin 4) (s : State) : Host.Outcome State Fault Refusal :=
  .next (s.event fun p => p.detachNotice lane)

/-- Link down is taken as a Detach Notice (R75). -/
def execVolumeLinkDown (lane : Fin 4) (s : State) : Host.Outcome State Fault Refusal :=
  .next (s.event fun p => p.detachNotice lane)

/-- An Identify Answer to an Identify Request (R80, R90). -/
def Part.takeIdentify (p : Part) (d : Fin 4) (tag : Byte) (label : List Byte) (serial : BitVec 64) (isProtected : Bool)
    (free : Nat) : Part :=
  match p.volumeAsks d tag with
  | some o =>
    match o.request with
    | .identify => p.identified d label serial isProtected free
    | .write _ _ _ _ | .read _ _ _ | .release _ | .eject => p
  | none => p

/-- Identify Answer (R80). -/
def execIdentifyAnswer (lane : Fin 4) (tag : Byte) (label : List Byte) (serial : BitVec 64) (isProtected : Bool)
    (free : Nat) (s : State) : Host.Outcome State Fault Refusal :=
  .next (s.event fun p => p.takeIdentify lane tag label serial isProtected free)

/-- A Write Answer to a Write Request (R54, R81, R82). -/
def Part.takeWrite (p : Part) (d : Fin 4) (tag : Byte) (stored : Bool) (free : Nat) : Part :=
  match p.volumeAsks d tag with
  | some o =>
    match o.request with
    | .write owner key _ b => (p.freeLink d).writeAnswered d owner key b stored free
    | .identify | .read _ _ _ | .release _ | .eject => p
  | none => p

/-- Write Answer (R54, R81). -/
def execWriteAnswer (lane : Fin 4) (tag : Byte) (stored : Bool) (free : Nat) (s : State) :
    Host.Outcome State Fault Refusal :=
  .next (s.event fun p => p.takeWrite lane tag stored free)

/-- A Read Answer to a Read Request: a block, or UNREADABLE (R95, R104, R162, R170). -/
def Part.takeRead (p : Part) (d : Fin 4) (tag : Byte) (b : Option Block) : Part :=
  match p.volumeAsks d tag with
  | some o =>
    match o.request with
    | .read owner _ _ => (p.freeLink d).readAnswered d owner b
    | .identify | .write _ _ _ _ | .release _ | .eject => p
  | none => p

/-- Read Answer (R95). -/
def execReadAnswer (lane : Fin 4) (tag : Byte) (block : Option Block) (s : State) : Host.Outcome State Fault Refusal :=
  .next (s.event fun p => p.takeRead lane tag block)

/-- A Release Answer to a Release Request: the free blocks (R81). -/
def Part.takeRelease (p : Part) (d : Fin 4) (tag : Byte) (free : Nat) : Part :=
  match p.volumeAsks d tag with
  | some o =>
    match o.request with
    | .release _ => (p.freeLink d).setFree d free
    | .identify | .write _ _ _ _ | .read _ _ _ | .eject => p
  | none => p

/-- Release Answer (R81). The count of blocks freed changes nothing. -/
def execReleaseAnswer (lane : Fin 4) (tag : Byte) (_freed free : Nat) (s : State) : Host.Outcome State Fault Refusal :=
  .next (s.event fun p => p.takeRelease lane tag free)

/-- An Eject Answer to an Eject Request (R88). -/
def Part.takeEject (p : Part) (d : Fin 4) (tag : Byte) : Part :=
  match p.volumeAsks d tag with
  | some o =>
    match o.request with
    | .eject => p.freeLink d
    | .identify | .write _ _ _ _ | .read _ _ _ | .release _ => p
  | none => p

/-- Eject Answer (R88). -/
def execEjectAnswer (lane : Fin 4) (tag : Byte) (s : State) : Host.Outcome State Fault Refusal :=
  .next (s.event fun p => p.takeEject lane tag)

/-- A Fault Answer ends any request (R75). -/
def Part.takeVolumeFault (p : Part) (d : Fin 4) (tag : Byte) (code : BitVec 16) : Part :=
  match p.volumeAsks d tag with
  | some o => p.volumeFault d o code
  | none => p

/-- Volume Fault Answer (R75). -/
def execVolumeFaultAnswer (lane : Fin 4) (tag : Byte) (code : BitVec 16) (s : State) :
    Host.Outcome State Fault Refusal :=
  .next (s.event fun p => p.takeVolumeFault lane tag code)

/-- Free Report (R81). -/
def execFreeReport (lane : Fin 4) (free : Nat) (s : State) : Host.Outcome State Fault Refusal :=
  .next (s.event fun p => p.setFree lane free)

/-- A message of a type unknown to the lane is discarded (R75). -/
def execUnknownVolumeMessage (_lane : Fin 4) (_type : Byte) (_bytes : List Byte) (s : State) :
    Host.Outcome State Fault Refusal := .next (s.event id)

/-- Destination Stall Expiry: nothing when no timer runs (R87). -/
def execDestStallExpiry (lane : Fin 4) (s : State) : Host.Outcome State Fault Refusal :=
  .next (s.event fun p => p.destStall lane)

/-- Output Frame Request (R170). -/
def execOutputFrameRequest (channel : Fin 2) (s : State) : Host.Outcome State Fault Refusal :=
  .next (s.event fun p => p.outputRequest channel)

end Sys2Proof.Machine
end

