-- ==== Sys2Proof/Machine/Messages.lean ====
section
/-! DEFINITION. The messages of the links in bytes (R29, R75, R201, R203, 11.4): blocks in their stored form, the requests
that the part sends, and the command that a message of a sled or of a volume is. -/

namespace Sys2Proof
open Machine

/-! ### Blocks in their stored form (11.3, R203) -/

/-- A block of a card or of a copy: header, payload with its fill, and the block check, its low byte first. -/
def Block.bytes (b : Block) : List Byte :=
  b.header ++ padTo Config.payloadBytes b.payload ++ leBytes 4 b.check.toNat

/-- A payload as the model holds it: up to its last byte that is not 0. -/
def trimmed (bs : List Byte) : List Byte := (bs.reverse.dropWhile fun x => x == 0).reverse

/-- The block that bytes carry in the stored form. -/
def Block.ofBytes (bs : List Byte) : Block :=
  { header := bs.take Config.headerBytes
    payload := trimmed ((bs.drop Config.headerBytes).take Config.payloadBytes)
    check := BitVec.ofNat 32 (numAt bs (Config.headerBytes + Config.payloadBytes) 4) }

end Sys2Proof

namespace Sys2Proof.Machine

/-- A proxy block: header, payload and block check (11.4). -/
def ProxyBlock.bytes (b : ProxyBlock) : List Byte := b.header ++ b.payload ++ leBytes 4 b.check.toNat

def Stored.bytes : Stored → List Byte
  | .copy b => b.bytes
  | .proxy b => b.bytes

/-! ### What the part sends -/

/-- An erase step: the form byte, and for a run its first block and block count (11.4). -/
def EraseForm.bytes : EraseForm → List Byte
  | .run first count => [0] ++ leBytes 4 first ++ leBytes 4 count
  | .header => [1]

/-- The type byte of a reader link request and its fields (R29, 11.4). -/
def ReaderRequest.parts : ReaderRequest → Byte × List Byte
  | .presence => (0x01, [])
  | .step (.block n) => (0x02, leBytes 4 n)
  | .reinit _ => (0x03, [])
  | .step (.erase form) => (0x04, form.bytes)

/-- The type byte of a volume link request and its fields (R75, 11.4). -/
def VolumeRequest.parts : VolumeRequest → Byte × List Byte
  | .identify => (0x11, [])
  | .write _ key index block => (0x12, key.bytes ++ leBytes 4 index ++ block.bytes)
  | .read _ key index => (0x13, key.bytes ++ leBytes 4 index)
  | .release key => (0x14, key.bytes)
  | .eject => (0x15, [])

/-- A message of a link: the type byte, the tag byte, the fields (11.4). -/
def linkBytes (tag : Byte) (parts : Byte × List Byte) : List Byte := [parts.1, tag] ++ parts.2

/-- The bytes of a message on a reader or a volume link; an interrupt message and a video frame have no layout there. -/
def Message.bytes : Message → Option (List Byte)
  | .reader _ tag request => some (linkBytes tag request.parts)
  | .volume _ tag request => some (linkBytes tag request.parts)
  | .interrupt _ | .video _ _ => none

/-! ### What the part receives -/

/-- The outcome byte of an answer with two outcomes: 0 is the one its message names first (log 45). -/
def firstOutcome (bs : List Byte) (off : Nat) : Bool := byteAt bs off == 0

/-- A flag of a link message: any value but 0 is taken as set (R201). -/
def flagAt (bs : List Byte) (off : Nat) : Bool := byteAt bs off != 0

/-- The command that a message on a reader link is. The tag byte of a notice is not read: the tag that a Presence Notice
answers is its first field, an optional one (R29, R201, 11.4). DESIGN CHOICE (log 45): bytes that a short message lacks read
as 0, and bytes beyond the layout of a type are not read. -/
def readerCommand (lane : Fin 6) (m : List Byte) : Instr :=
  let tag := byteAt m 1
  match (byteAt m 0).toNat with
  | 0x81 =>
    .presenceNotice lane (if flagAt m 2 then some (byteAt m 3) else none) (flagAt m 4) (flagAt m 5) (byteAt m 6)
  | 0x82 => .blockAnswer lane tag (Block.ofBytes (m.drop 2))
  | 0x83 => .holdAnswer lane tag
  | 0x84 => .readerFaultAnswer lane tag (BitVec.ofNat 16 (numAt m 2 2))
  | 0x85 => .reinitAnswer lane tag (firstOutcome m 2)
  | 0x86 => .eraseAnswer lane tag
  | _ => .unknownReaderMessage lane (byteAt m 0) (m.drop 1)

/-- The command that a message on a volume link is (R75, 11.4). The tag byte of a notice is not read. DESIGN CHOICE (log 45):
bytes that a short message lacks read as 0, and bytes beyond the layout of a type are not read. -/
def volumeCommand (lane : Fin 4) (m : List Byte) : Instr :=
  let tag := byteAt m 1
  match (byteAt m 0).toNat with
  | 0x91 =>
    .identifyAnswer lane tag (bytesAt m 2 16) (BitVec.ofNat 64 (numAt m 18 8)) (flagAt m 26) (numAt m 27 6)
  | 0x92 => .writeAnswer lane tag (firstOutcome m 2) (numAt m 3 6)
  | 0x93 => .readAnswer lane tag (if firstOutcome m 2 then some (Block.ofBytes (m.drop 3)) else none)
  | 0x94 => .releaseAnswer lane tag (numAt m 2 4) (numAt m 6 6)
  | 0x95 => .ejectAnswer lane tag
  | 0x96 => .volumeFaultAnswer lane tag (BitVec.ofNat 16 (numAt m 2 2))
  | 0x97 => .arrivalNotice lane
  | 0x98 => .detachNotice lane
  | 0x99 => .freeReport lane (numAt m 2 6)
  | _ => .unknownVolumeMessage lane (byteAt m 0) (m.drop 1)

end Sys2Proof.Machine
end

