-- ==== Sys2Proof/Machine/Envelope.lean ====
section
/-! DEFINITION. The request envelope: identifiers, lengths, forms and optional fields, as Go decodes them (R182, R201,
11.2). -/

namespace Sys2Proof.Machine

/-- What Go finds in the request buffer: no request of the catalogue, a bad field with its offset, or a request. -/
inductive Decoded
  | unknown
  | malformed (offset : Nat)
  | request (i : Instr)
deriving DecidableEq, Repr

/-- The length byte of an envelope. -/
def envLength (b : List Byte) : Nat := numAt b 3 1

/-- A parameter field of `w` bytes at an offset of the envelope. -/
def par (b : List Byte) (off w : Nat) : Nat := numAt b off w

/-- A flag parameter: any value but 0 is taken as set (R201). -/
def parFlag (b : List Byte) (off : Nat) : Bool := byteAt b off != 0

/-- A request of one form: its length is laid down. -/
def oneForm (b : List Byte) (length : Nat) (i : Instr) : Decoded :=
  if envLength b = length then .request i else .malformed 3

/-- A request with an optional 1-byte field whose presence marker stands at an offset. -/
def optForm (b : List Byte) (length marker : Nat) (i : Option Nat → Instr) : Decoded :=
  if envLength b = length then
    match par b marker 1 with
    | 0 => .request (i none)
    | 1 => .request (i (some (par b (marker + 1) 1)))
    | _ => .malformed marker
  else .malformed 3

/-- A request with a form selector as its first parameter. -/
def twoForms (b : List Byte) (first second : Decoded) : Decoded :=
  if envLength b < 5 ∨ 64 < envLength b then .malformed 3
  else
    match par b 4 1 with
    | 0 => first
    | 1 => second
    | _ => .malformed 4

/-- A plan parameter: a bounded list of four volume indexes, the required copies in 1 byte (log 10), skip_marked (R10, R201). -/
def parPlan (b : List Byte) (off : Nat) : PlanArg :=
  { count := par b off 1, slots := [par b (off + 1) 1, par b (off + 2) 1, par b (off + 3) 1, par b (off + 4) 1],
    required := par b (off + 5) 1, skipMarked := parFlag b (off + 6) }

def decodeCard (b : List Byte) : Nat → Decoded
  | 0x10 =>
    twoForms b (oneForm b 6 (.lookupCard (.index (par b 5 1))))
      (oneForm b 16 (.lookupCard
        (.identity { letter := par b 5 1, roll := par b 6 2, serial := BitVec.ofNat 64 (par b 8 8) })))
  | 0x11 => optForm b 8 6 (.listCards (par b 4 2))
  | 0x12 => oneForm b 12 (.setCardPlan (par b 4 1) (parPlan b 5))
  | 0x13 => oneForm b 11 (.setStandingPlan (parPlan b 4))
  | 0x14 => oneForm b 5 (.startOffload (par b 4 1))
  | 0x15 => oneForm b 6 (.stopOffload (par b 4 1) (par b 5 1))
  | 0x16 => oneForm b 5 (.clearTrip (par b 4 1))
  | 0x17 => oneForm b 5 (.releaseCard (par b 4 1))
  | 0x18 => oneForm b 5 (.eraseCard (par b 4 1))
  | 0x19 => oneForm b 5 (.retireCard (par b 4 1))
  | 0x1A => oneForm b 5 (.remount (par b 4 1))
  | _ => .unknown

def decodeClip (b : List Byte) : Nat → Decoded
  | 0x20 =>
    twoForms b (oneForm b 7 (.lookupClip (.index (par b 5 2)))) (oneForm b 13 (.lookupClip (.name (bytesAt b 5 8))))
  | 0x21 =>
    twoForms b (oneForm b 8 (.listClips (.card (par b 5 1) (par b 6 2)))) (oneForm b 7 (.listClips (.table (par b 5 2))))
  | 0x22 => oneForm b 6 (.waiveClip (par b 4 2))
  | 0x23 => oneForm b 6 (.unwaiveClip (par b 4 2))
  | 0x24 => optForm b 8 6 (.assignLook (par b 4 2))
  | 0x25 =>
    twoForms b (oneForm b 8 (.listOpenFaults (.clip (par b 5 2) (par b 7 1))))
      (oneForm b 7 (.listOpenFaults (.table (par b 5 2))))
  | 0x26 => oneForm b 8 (.acknowledgeFault (par b 4 2) (par b 6 1) (par b 7 1))
  | _ => .unknown

def decodeCopies (b : List Byte) : Nat → Decoded
  | 0x30 => oneForm b 7 (.verifyCopy (par b 4 2) (par b 6 1))
  | 0x31 => oneForm b 7 (.recopy (par b 4 2) (par b 6 1))
  | 0x32 => oneForm b 6 (.setVerifyMode (par b 4 1) (par b 5 1))
  | _ => .unknown

def decodeVolume (b : List Byte) : Nat → Decoded
  | 0x40 => oneForm b 6 (.listVolumes (par b 4 2))
  | 0x41 => oneForm b 5 (.lookupVolume (par b 4 1))
  | 0x42 => oneForm b 6 (.setRole (par b 4 1) (par b 5 1))
  | 0x43 => oneForm b 5 (.eject (par b 4 1))
  | 0x44 => oneForm b 5 (.retireVolume (par b 4 1))
  | _ => .unknown

def decodeLane (b : List Byte) : Nat → Decoded
  | 0x50 => oneForm b 6 (.setLaneMode (par b 4 1) (par b 5 1))
  | 0x51 =>
    twoForms b (oneForm b 9 (.setLaneTimingReader (par b 5 1) (par b 6 1) (par b 7 1) (par b 8 1)))
      (oneForm b 8 (.setLaneTimingDestination (par b 5 1) (par b 6 1) (par b 7 1)))
  | 0x52 => oneForm b 5 (.resetUnit (par b 4 1))
  | 0x53 => oneForm b 5 (.senseUnit (par b 4 1))
  | _ => .unknown

def decodeCamera (b : List Byte) : Nat → Decoded
  | 0x60 => oneForm b 6 (.listCameras (par b 4 2))
  | 0x61 => optForm b 7 5 (.setCameraDefault (par b 4 1))
  | 0x62 => oneForm b 5 (.retireCamera (par b 4 1))
  | _ => .unknown

/-- The requests of the Fault Unit; a known-defect index is 1 byte (log 10). -/
def decodeFault (b : List Byte) : Nat → Decoded
  | 0x70 =>
    oneForm b 12 (.setPolicy (par b 4 1) (parFlag b 5) (parFlag b 6) (par b 7 1) (par b 8 2) (par b 10 2))
  | 0x71 => oneForm b 5 (.readPolicy (par b 4 1))
  | 0x72 => oneForm b 13 (.addDefect (par b 4 1) (par b 5 2) (par b 7 2) (par b 9 2) (par b 11 2))
  | 0x73 => oneForm b 5 (.removeDefect (par b 4 1))
  | 0x74 => optForm b 8 6 (.listDefects (par b 4 2))
  | 0x75 => oneForm b 6 (.adoptDefect (par b 4 2))
  | 0x76 => oneForm b 4 .senseFaults
  | _ => .unknown

def decodeLook (b : List Byte) : Nat → Decoded
  | 0x80 => optForm b 14 12 (.createLook (bytesAt b 4 8))
  | 0x81 => oneForm b 5 (.readLook (par b 4 1))
  | 0x82 => oneForm b 8 (.stageParameter (par b 4 1) (par b 5 1) (signedAt b 6))
  | 0x83 => oneForm b 7 (.setCommitMask (par b 4 1) (BitVec.ofNat 16 (par b 5 2)))
  | 0x84 => oneForm b 5 (.commitLook (par b 4 1))
  | 0x85 => oneForm b 5 (.discardStaging (par b 4 1))
  | 0x86 => oneForm b 5 (.retireLook (par b 4 1))
  | _ => .unknown

def decodeRender (b : List Byte) : Nat → Decoded
  | 0x90 => optForm b 9 6 fun look => .enqueueRender (par b 4 2) look (par b 8 1)
  | 0x91 => oneForm b 6 (.cancelRender (par b 4 2))
  | 0x92 => oneForm b 6 (.listRenderQueue (par b 4 2))
  | _ => .unknown

def decodePreview (b : List Byte) : Nat → Decoded
  | 0xA0 => optForm b 9 7 (.bindPreview (par b 4 1) (par b 5 2))
  | 0xA1 => oneForm b 5 (.unbindPreview (par b 4 1))
  | 0xA2 => oneForm b 6 (.play (par b 4 1) (parFlag b 5))
  | 0xA3 => oneForm b 5 (.pause (par b 4 1))
  | 0xA4 => oneForm b 9 (.seek (par b 4 1) (par b 5 4))
  | 0xA5 => oneForm b 5 (.readScope (par b 4 1))
  | _ => .unknown

def decodeAttention (b : List Byte) : Nat → Decoded
  | 0xB0 => oneForm b 6 (.setMask (BitVec.ofNat 16 (par b 4 2)))
  | 0xB1 => oneForm b 4 .senseCustody
  | _ => .unknown

/-- The envelope in the request buffer, family by family (11.2). Every other identifier names no request. -/
def decodeEnvelope (b : List Byte) : Decoded :=
  let id := numAt b 0 1
  match id / 16 with
  | 1 => decodeCard b id
  | 2 => decodeClip b id
  | 3 => decodeCopies b id
  | 4 => decodeVolume b id
  | 5 => decodeLane b id
  | 6 => decodeCamera b id
  | 7 => decodeFault b id
  | 8 => decodeLook b id
  | 9 => decodeRender b id
  | 10 => decodePreview b id
  | 11 => decodeAttention b id
  | _ => .unknown

end Sys2Proof.Machine
end

