-- ==== Sys2Proof/Machine/Window.lean ====
section
/-! DEFINITION. The window: what a read returns, and the writes that the host sends (09, 11.2). A write of the port control
word is one command with its bits, taken in the order of R181; the reset bit is PORT_RESET alone (log 2). -/

namespace Sys2Proof.Machine

/-! ### Reads (R178) -/

def PortState.code : PortState → Nat
  | .idle => 0 | .busy _ => 1 | .result => 2

/-- The port status word: state, collision flag, result sequence (11.2). -/
def Port.statusWord (q : Port) : List Byte :=
  leBytes 1 (q.state.code + if q.collision then 16 else 0) ++ [q.sequence, 0, 0]

/-- The byte that a host read returns at an offset of the window; offsets that hold no word or buffer read as 0. -/
def State.windowByte (s : State) (offset : Nat) : Byte :=
  if offset < 4 then byteAt s.port.statusWord offset
  else if 8 ≤ offset ∧ offset < 12 then byteAt (leBytes 4 s.part.attention.vector) (offset - 8)
  else if 12 ≤ offset ∧ offset < 16 then byteAt (leBytes 4 s.part.attention.mask.toNat) (offset - 12)
  else if 64 ≤ offset ∧ offset < 128 then byteAt s.port.request (offset - 64)
  else if 256 ≤ offset ∧ offset < 512 then byteAt s.port.result (offset - 256)
  else 0

/-! ### Writes (R178, R180) -/

/-- The bytes of an item after a write at an offset; bytes not covered keep their values. -/
def overwrite (old : List Byte) (offset : Nat) (new : List Byte) : List Byte :=
  (List.range old.length).map fun k =>
    if offset ≤ k ∧ k < offset + new.length then byteAt new (k - offset) else byteAt old k

/-- Whether the port is IDLE. -/
def PortState.isIdle : PortState → Bool
  | .idle => true
  | _ => false

/-- A write dropped: the collision flag is set. -/
def Port.collide (q : Port) : Port := { q with collision := true }

def Port.writeRequest (q : Port) (offset : Nat) (bytes : List Byte) : Port :=
  if q.state.isIdle then { q with request := overwrite q.request offset bytes } else q.collide

/-- An event of the port alone. -/
def State.portEvent (s : State) (f : Port → Port) : State := { s.quiet with port := f s.port }

/-- Request buffer write (R180); the offset counts from the buffer's start. -/
def execRequestBufferWrite (offset : Nat) (bytes : List Byte) (s : State) : Host.Outcome State Fault Refusal :=
  .next (s.portEvent fun q => q.writeRequest offset bytes)

/-- The mask after a write of bytes of the attention mask word (11.2); the bits of the bytes not covered are kept
(log 52). -/
def maskAfter (mask : BitVec 15) (offset : Nat) (bytes : List Byte) : BitVec 16 :=
  BitVec.ofNat 16 (leNat (overwrite (leBytes 4 mask.toNat) offset bytes))

/-- Attention mask word write (R178, R198); the offset counts from the word's start. -/
def execAttentionMaskWordWrite (offset : Nat) (bytes : List Byte) (s : State) : Host.Outcome State Fault Refusal :=
  .next (s.event fun p => p.replaceMask (maskAfter p.attention.mask offset bytes))

/-- A write that the window ignores (R178). -/
def execWindowWriteIgnored (_offset : Nat) (_bytes : List Byte) (s : State) : Host.Outcome State Fault Refusal :=
  .next s.quiet

/-! ### Control bits (R181, R182, R184) -/

def Port.done (q : Port) : Port :=
  match q.state with
  | .result => { q with state := .idle }
  | .idle => q
  | .busy _ => q.collide

/-- The dispatch of a request: identifier and reference as they stand in the request buffer at Go. -/
def Port.dispatch (q : Port) (i : Instr) : Dispatch :=
  { identifier := byteAt q.request 0, refLow := byteAt q.request 1, refHigh := byteAt q.request 2, request := i }

/-- A Go taken in IDLE (R182): the request becomes the outstanding dispatch, or the port places the result itself. The
dispatch of a result that the port places names no request; only its identifier and reference are used. -/
def Port.launch (q : Port) : Port :=
  match decodeEnvelope q.request with
  | .request i => { q with state := .busy (q.dispatch i) }
  | .unknown => q.place (q.dispatch (.portGo false false)) (Answer.bare .unknownRequest)
  | .malformed offset =>
    q.place (q.dispatch (.portGo false false)) { status := .malformed, payload := leBytes 1 offset }

def Port.go (q : Port) : Port := if q.state.isIdle then q.launch else q.collide

/-- Collision clear (R181). -/
def Port.clearCollision (q : Port) : Port := { q with collision := false }

/-- One write of the port control word without its reset bit: collision clear, Done and Go in this order (R181). -/
def Port.control (q : Port) (clear done go : Bool) : Port :=
  let q := if clear then q.clearCollision else q
  let q := if done then q.done else q
  if go then q.go else q

/-- Collision clear (R181). -/
def execCollisionClear (s : State) : Host.Outcome State Fault Refusal :=
  .next (s.portEvent fun q => q.control true false false)

/-- Done, with the collision clear of its write before it (R184, R181). -/
def execPortDone (s : State) (clear : Bool := false) : Host.Outcome State Fault Refusal :=
  .next (s.portEvent fun q => q.control clear true false)

/-- Go, with the collision clear and the Done of its write before it (R182, R181). -/
def execPortGo (s : State) (done : Bool := false) (clear : Bool := false) : Host.Outcome State Fault Refusal :=
  .next (s.portEvent fun q => q.control clear done true)

/-- The command that a write of one byte or several of the port control word is: one command for the whole word, whatever
bytes it covers (R178). The reset bit is the port reset and nothing else; bytes that are not covered carry no bits, and a
write with none of the four bits set is ignored (R181, log 2). The offset counts from the word's start. -/
def controlCommand (offset : Nat) (bytes : List Byte) : Instr :=
  let word := byteAt (overwrite (List.replicate 4 0) offset bytes) 0
  if word.getLsbD 3 then .portReset .whole
  else if word.getLsbD 0 then .portGo (word.getLsbD 1) (word.getLsbD 2)
  else if word.getLsbD 1 then .portDone (word.getLsbD 2)
  else if word.getLsbD 2 then .collisionClear
  else .windowWriteIgnored (4 + offset) bytes

end Sys2Proof.Machine
end

