-- ==== Sys2Proof/Machine/Resets.lean ====
section
/-! DEFINITION. Power-on reset and port reset of the whole part. -/

namespace Sys2Proof.Machine

/-- Power-on reset: every block at its power-on state (R27, R46, R74, R92, R109, R134, R153, R155, R167, R190, R200). The
commands that wait are the model's own and stay. -/
def execPowerOnReset (s : State) : Host.Outcome State Fault Refusal := .next { State.reset with pending := s.pending }

/-- The port after a port reset (R188). -/
def Port.cleared (q : Port) : Port :=
  { q with
    state := .idle, collision := false, sequence := 0, request := List.replicate Config.requestBytes 0,
    result := List.replicate Config.resultBytes 0 }

/-- The attention state cleared: CUSTODY and FAULTS, the vector at 15; the mask is kept (R200). -/
def Part.clearAttention (p : Part) : Part :=
  { p with attention := { p.attention with custody := false, faults := false, vector := 15 } }

/-- The render engine takes the reset: the entry that is RENDERING leaves. The queue is examined once every block has taken
the reset, so an unsensed flag stands in between (R166, log 6). -/
def Part.portResetRender (p : Part) : Part :=
  (p.setRender fun r => { r with term := { record := none, unsensed := true } }).dropRender

/-- A destination lane's operations end with no termination: a recopy, a Verify Copy, a sweep verify (R109). -/
def Part.portResetVerify (p : Part) (d : Fin 4) : Part := (p.dropExplicit d).returnVerify d false

/-- A reader lane takes the reset (R45): a lane in EQUIPMENT stays there. -/
def Part.portResetReader (p : Part) (l : Fin 6) : Part :=
  let q := p.clearReader l
  if (q.reader l).state = .equipment then q else q.restartReader l

/-- What every block does with a port reset that is one step, in this order (R189, log 6). -/
def Part.portReset (p : Part) : Part :=
  let p := p.clearAttention.portResetRender
  let p := p.each allChannels Part.resetChannel
  let p := p.each allDests Part.portResetVerify
  let p := p.each allReaders Part.portResetReader
  let p := p.each allDests Part.resetDest
  let p := p.evaluateAll
  (p.setRender fun r => { r with term := TermSlot.none }).examine

/-! ### A port reset in the events of its blocks (R189) -/

/-- Every block that takes a port reset. -/
def allBlocks : List ResetBlock :=
  [.attention, .render] ++ allChannels.map .channel ++ allReaders.map .reader ++ allDests.map .dest ++ [.tables]

/-- The place of a block's event among the events of one port reset. The Attention Unit is first: the raises of the reset
itself stand after its clearing (R28, R200). The channels are unbound before a lane's reset would make them re-select (R91,
R177). The reader lanes end their offloads before a volume's loss would end them with a termination (R45, R73). The
destination lanes come next; then the engine, which aborts its own render with no termination (R91, R166), and the Custody
Tables, which evaluate the cards as the lanes have left them (R28). -/
def resetStage : ResetBlock → Nat
  | .attention => 0
  | .channel _ => 1
  | .reader _ => 2
  | .dest _ => 3
  | .render | .tables => 4

/-- A block that owes its reset may take it once no block of an earlier stage owes one (log 6). -/
def mayTakeReset (b : ResetBlock) (owed : List ResetBlock) : Bool :=
  decide (b ∈ owed) && owed.all fun x => decide (resetStage b ≤ resetStage x)

/-- The Attention Unit's event (R200): each unit's record is cleared with its unsensed flag, each lane's condition-changed
flag, CUSTODY and FAULTS; the vector is 15 before it is formed anew. Every unit still owes its own event, in which the work
that its record held back goes on: a lane mounts or identifies under its reset rule, the engine examines its queue (R44,
R90, R166). -/
def Part.resetAttention (p : Part) : Part :=
  let p := p.clearAttention.setRender fun r => { r with term := TermSlot.none }
  let p := p.each allChannels fun p c => p.modChannel c fun ch => { ch with term := TermSlot.none }
  let p := p.each allReaders fun p l => p.modReader l fun r => { r with term := TermSlot.none, changed := false }
  p.each allDests fun p d => p.modDest d fun r => { r with term := TermSlot.none, changed := false }

/-- The recopies that read from a volume end with no termination (R109). -/
def Part.dropRecopiesFrom (p : Part) (v : Nat) : Part :=
  p.each allDests fun p t =>
    match p.recopyOf t with
    | some x => if x.source == .volume v then p.dropRecopy t else p
    | none => p

/-- A destination lane takes the port reset (R91, R109): as R90 has it, but no recopy and no render gets a termination. A
recopy of another lane that reads through this one ends here; a render is left to the engine's own event (R166). A channel
that reads through the lane was bound after its own event, and loses its source as at a unit reset. -/
def Part.portResetDest (p : Part) (d : Fin 4) : Part :=
  let p := match p.boundVolume d with
    | some v => ((p.dropRecopiesFrom v).clearTraffic d v).each (allChannels.filter (p.readingDest d)) Part.loseSource
    | none => p.portResetVerify d
  (p.modDest d DestLane.cleared).reidentify d

/-- What one block does with a port reset in its own event (R189): the Attention Unit under R200, the engine under R166, a
channel under R177, a reader lane with its offload under R45 and R73, a destination lane with its verifies and its recopy
under R91 and R109, the Custody Tables under R28. The other blocks keep what they hold (R134, R154). A recopy that reads
through a lane ends with no termination at whichever of its two lanes takes the reset first (R109). A termination or a flag
left on a unit between the Attention Unit's event and the unit's own is cleared by the unit's own (log 6). -/
def Part.takeReset (p : Part) : ResetBlock → Part
  | .attention => p.resetAttention
  | .render => p.resetRender
  | .channel c => p.resetChannel c
  | .reader l =>
    match (p.reader l).serves with
    | some d => (p.dropRecopy d).portResetReader l
    | none => p.portResetReader l
  | .dest d => p.portResetDest d
  | .tables => p.evaluateAll

/-- Port reset (R188, R189): a request outstanding is withdrawn. The whole reset is one step; or the port takes its event
and every block owes its own, which it takes between other commands, stage by stage and in any order within one (log 6). A
block that owes none, or whose stage has not come, takes nothing. -/
def execPortReset (s : State) (turn : ResetTurn := .whole) : Host.Outcome State Fault Refusal :=
  match turn with
  | .whole => .next { s.event Part.portReset with port := s.port.cleared, owed := [] }
  | .port => .next { s.quiet with port := s.port.cleared, owed := allBlocks }
  | .block b =>
    if mayTakeReset b s.owed then .next { s.event fun p => p.takeReset b with owed := s.owed.filter fun x => x != b }
    else .next s.quiet

end Sys2Proof.Machine
end

