-- ==== Sys2Proof/Machine/Dispatch.lean ====
section
/-! DEFINITION. The meaning of every command, one arm each. -/

namespace Sys2Proof.Machine

/-- The effect of a command on everything but the queue. -/
def exec (i : Instr) (s : State) : Host.Outcome State Fault Refusal :=
  match i with
  | .powerOnReset => Sys2Proof.Machine.execPowerOnReset s
  | .portReset turn => Sys2Proof.Machine.execPortReset s turn
  | .requestBufferWrite offset bytes => Sys2Proof.Machine.execRequestBufferWrite offset bytes s
  | .portGo done clear => Sys2Proof.Machine.execPortGo s done clear
  | .portDone clear => Sys2Proof.Machine.execPortDone s clear
  | .collisionClear => Sys2Proof.Machine.execCollisionClear s
  | .attentionMaskWordWrite offset bytes => Sys2Proof.Machine.execAttentionMaskWordWrite offset bytes s
  | .windowWriteIgnored offset bytes => Sys2Proof.Machine.execWindowWriteIgnored offset bytes s
  | .lookupCard card => Sys2Proof.Machine.execLookupCard card s
  | .listCards start state => Sys2Proof.Machine.execListCards start state s
  | .setCardPlan card plan => Sys2Proof.Machine.execSetCardPlan card plan s
  | .setStandingPlan plan => Sys2Proof.Machine.execSetStandingPlan plan s
  | .startOffload card => Sys2Proof.Machine.execStartOffload card s
  | .stopOffload card option => Sys2Proof.Machine.execStopOffload card option s
  | .clearTrip card => Sys2Proof.Machine.execClearTrip card s
  | .releaseCard card => Sys2Proof.Machine.execReleaseCard card s
  | .eraseCard card => Sys2Proof.Machine.execEraseCard card s
  | .retireCard card => Sys2Proof.Machine.execRetireCard card s
  | .remount lane => Sys2Proof.Machine.execRemount lane s
  | .lookupClip clip => Sys2Proof.Machine.execLookupClip clip s
  | .listClips scan => Sys2Proof.Machine.execListClips scan s
  | .waiveClip clip => Sys2Proof.Machine.execWaiveClip clip s
  | .unwaiveClip clip => Sys2Proof.Machine.execUnwaiveClip clip s
  | .assignLook clip look => Sys2Proof.Machine.execAssignLook clip look s
  | .listOpenFaults scan => Sys2Proof.Machine.execListOpenFaults scan s
  | .acknowledgeFault clip kind vol => Sys2Proof.Machine.execAcknowledgeFault clip kind vol s
  | .verifyCopy clip vol => Sys2Proof.Machine.execVerifyCopy clip vol s
  | .recopy clip vol => Sys2Proof.Machine.execRecopy clip vol s
  | .setVerifyMode vol mode => Sys2Proof.Machine.execSetVerifyMode vol mode s
  | .listVolumes start => Sys2Proof.Machine.execListVolumes start s
  | .lookupVolume vol => Sys2Proof.Machine.execLookupVolume vol s
  | .setRole vol role => Sys2Proof.Machine.execSetRole vol role s
  | .eject vol => Sys2Proof.Machine.execEject vol s
  | .retireVolume vol => Sys2Proof.Machine.execRetireVolume vol s
  | .setLaneMode lane mode => Sys2Proof.Machine.execSetLaneMode lane mode s
  | .setLaneTimingReader lane count exponent retry => Sys2Proof.Machine.execSetLaneTimingReader lane count exponent retry s
  | .setLaneTimingDestination lane count exponent => Sys2Proof.Machine.execSetLaneTimingDestination lane count exponent s
  | .resetUnit unit => Sys2Proof.Machine.execResetUnit unit s
  | .senseUnit unit => Sys2Proof.Machine.execSenseUnit unit s
  | .listCameras start => Sys2Proof.Machine.execListCameras start s
  | .setCameraDefault letter look => Sys2Proof.Machine.execSetCameraDefault letter look s
  | .retireCamera letter => Sys2Proof.Machine.execRetireCamera letter s
  | .setPolicy kind enabled holds trip first second => Sys2Proof.Machine.execSetPolicy kind enabled holds trip first second s
  | .readPolicy kind => Sys2Proof.Machine.execReadPolicy kind s
  | .addDefect letter x y xmask ymask => Sys2Proof.Machine.execAddDefect letter x y xmask ymask s
  | .removeDefect index => Sys2Proof.Machine.execRemoveDefect index s
  | .listDefects start letter => Sys2Proof.Machine.execListDefects start letter s
  | .adoptDefect clip => Sys2Proof.Machine.execAdoptDefect clip s
  | .senseFaults => Sys2Proof.Machine.execSenseFaults s
  | .createLook tag look => Sys2Proof.Machine.execCreateLook tag look s
  | .readLook look => Sys2Proof.Machine.execReadLook look s
  | .stageParameter look param value => Sys2Proof.Machine.execStageParameter look param value s
  | .setCommitMask look params => Sys2Proof.Machine.execSetCommitMask look params s
  | .commitLook look => Sys2Proof.Machine.execCommitLook look s
  | .discardStaging look => Sys2Proof.Machine.execDiscardStaging look s
  | .retireLook look => Sys2Proof.Machine.execRetireLook look s
  | .enqueueRender clip look target => Sys2Proof.Machine.execEnqueueRender clip look target s
  | .cancelRender tag => Sys2Proof.Machine.execCancelRender tag s
  | .listRenderQueue start => Sys2Proof.Machine.execListRenderQueue start s
  | .bindPreview channel clip look => Sys2Proof.Machine.execBindPreview channel clip look s
  | .unbindPreview channel => Sys2Proof.Machine.execUnbindPreview channel s
  | .play channel loop => Sys2Proof.Machine.execPlay channel loop s
  | .pause channel => Sys2Proof.Machine.execPause channel s
  | .seek channel frame => Sys2Proof.Machine.execSeek channel frame s
  | .readScope channel => Sys2Proof.Machine.execReadScope channel s
  | .setMask mask => Sys2Proof.Machine.execSetMask mask s
  | .senseCustody => Sys2Proof.Machine.execSenseCustody s
  | .readerLinkUp lane => Sys2Proof.Machine.execReaderLinkUp lane s
  | .readerLinkDown lane => Sys2Proof.Machine.execReaderLinkDown lane s
  | .presenceNotice lane tag present locked count => Sys2Proof.Machine.execPresenceNotice lane tag present locked count s
  | .blockAnswer lane tag block => Sys2Proof.Machine.execBlockAnswer lane tag block s
  | .holdAnswer lane tag => Sys2Proof.Machine.execHoldAnswer lane tag s
  | .readerFaultAnswer lane tag code => Sys2Proof.Machine.execReaderFaultAnswer lane tag code s
  | .reinitAnswer lane tag ready => Sys2Proof.Machine.execReinitAnswer lane tag ready s
  | .eraseAnswer lane tag => Sys2Proof.Machine.execEraseAnswer lane tag s
  | .unknownReaderMessage lane type bytes => Sys2Proof.Machine.execUnknownReaderMessage lane type bytes s
  | .readerStallExpiry lane => Sys2Proof.Machine.execReaderStallExpiry lane s
  | .arrivalNotice lane => Sys2Proof.Machine.execArrivalNotice lane s
  | .detachNotice lane => Sys2Proof.Machine.execDetachNotice lane s
  | .volumeLinkDown lane => Sys2Proof.Machine.execVolumeLinkDown lane s
  | .identifyAnswer lane tag label serial isProtected free => Sys2Proof.Machine.execIdentifyAnswer lane tag label serial isProtected free s
  | .writeAnswer lane tag stored free => Sys2Proof.Machine.execWriteAnswer lane tag stored free s
  | .readAnswer lane tag block => Sys2Proof.Machine.execReadAnswer lane tag block s
  | .releaseAnswer lane tag freed free => Sys2Proof.Machine.execReleaseAnswer lane tag freed free s
  | .ejectAnswer lane tag => Sys2Proof.Machine.execEjectAnswer lane tag s
  | .volumeFaultAnswer lane tag code => Sys2Proof.Machine.execVolumeFaultAnswer lane tag code s
  | .freeReport lane free => Sys2Proof.Machine.execFreeReport lane free s
  | .unknownVolumeMessage lane type bytes => Sys2Proof.Machine.execUnknownVolumeMessage lane type bytes s
  | .destStallExpiry lane => Sys2Proof.Machine.execDestStallExpiry lane s
  | .outputFrameRequest channel => Sys2Proof.Machine.execOutputFrameRequest channel s

end Sys2Proof.Machine
end

