-- ==== Sys2Proof/Safety.lean ====
section
/-! DEFINITION. The words the statements use: which commands are requests, the states a request leaves behind, and the
invariants that every step keeps. -/

namespace Sys2Proof

/-- The requests of the catalogue (9.8): the commands that an owning block takes from the port. -/
def Instr.isRequest : Instr → Bool
  | .powerOnReset | .portReset _ | .requestBufferWrite _ _ | .portGo _ _ | .portDone _ | .collisionClear
  | .attentionMaskWordWrite _ _ | .windowWriteIgnored _ _ | .readerLinkUp _ | .readerLinkDown _
  | .presenceNotice _ _ _ _ _ | .blockAnswer _ _ _ | .holdAnswer _ _ | .readerFaultAnswer _ _ _ | .reinitAnswer _ _ _
  | .eraseAnswer _ _ | .unknownReaderMessage _ _ _ | .readerStallExpiry _ | .arrivalNotice _ | .detachNotice _
  | .volumeLinkDown _ | .identifyAnswer _ _ _ _ _ _ | .writeAnswer _ _ _ _ | .readAnswer _ _ _ | .releaseAnswer _ _ _ _
  | .ejectAnswer _ _ | .volumeFaultAnswer _ _ _ | .freeReport _ _ | .unknownVolumeMessage _ _ _ | .destStallExpiry _
  | .outputFrameRequest _ => false
  | _ => true

/-- The events of the reader links, the volume links and the video outputs. -/
def Instr.isLink : Instr → Bool
  | .readerLinkUp _ | .readerLinkDown _ | .presenceNotice _ _ _ _ _ | .blockAnswer _ _ _ | .holdAnswer _ _
  | .readerFaultAnswer _ _ _ | .reinitAnswer _ _ _ | .eraseAnswer _ _ | .unknownReaderMessage _ _ _
  | .readerStallExpiry _ | .arrivalNotice _ | .detachNotice _ | .volumeLinkDown _ | .identifyAnswer _ _ _ _ _ _
  | .writeAnswer _ _ _ _ | .readAnswer _ _ _ | .releaseAnswer _ _ _ _ | .ejectAnswer _ _ | .volumeFaultAnswer _ _ _
  | .freeReport _ _ | .unknownVolumeMessage _ _ _ | .destStallExpiry _ | .outputFrameRequest _ => true
  | _ => false

/-- The commands that the port alone takes. -/
def Instr.isPortOnly : Instr → Bool
  | .requestBufferWrite _ _ | .portGo _ _ | .portDone _ | .collisionClear | .windowWriteIgnored _ _ => true
  | _ => false

/-- The requests that only read. -/
def Instr.isQuery : Instr → Bool
  | .lookupCard _ | .listCards _ _ | .lookupClip _ | .listClips _ | .listOpenFaults _ | .listVolumes _ | .lookupVolume _
  | .listCameras _ | .readPolicy _ | .listDefects _ _ | .readLook _ | .listRenderQueue _ => true
  | _ => false

/-- The resets of the port: power-on reset, and a port reset as the port takes it. -/
def Instr.isReset : Instr → Bool
  | .powerOnReset | .portReset .whole | .portReset .port => true
  | _ => false

/-- The writes of the port control word with the collision clear bit set. -/
def Instr.clearsCollision : Instr → Bool
  | .collisionClear | .portDone true | .portGo _ true => true
  | _ => false

/-- The commands whose rule replaces the standing plan, the fault policy or the attention mask. -/
def Instr.writesSettings : Instr → Bool
  | .powerOnReset | .setStandingPlan _ | .retireVolume _ | .setPolicy _ _ _ _ _ _ | .setMask _
  | .attentionMaskWordWrite _ _ => true
  | _ => false

end Sys2Proof

namespace Sys2Proof.Machine

/-- The request `i` is the outstanding dispatch `d` (R179). -/
def Dispatched (s : State) (d : Dispatch) (i : Instr) : Prop := s.port.state = .busy d ∧ d.request = i

/-- An answer that changes nothing beyond the port: the result placed, the messages of the command before gone. -/
def State.answered (s : State) (d : Dispatch) (a : Answer) : State :=
  { s with port := s.port.place d a, part := s.part.quiet }

/-- A refusal (R185). -/
def State.refused (s : State) (d : Dispatch) (st : Status) : State := s.answered d (Answer.bare st)

/-- A request taken with effect: the result placed, and the part as the effect `q` leaves it, with what the effect has made
possible and the vector formed anew (R183, R199). -/
def State.taken (s : State) (d : Dispatch) (a : Answer) (q : Part) : State :=
  { s with port := s.port.place d a, part := q.settle.reformVector }

/-- An event taken beside the port: the part as the effect `q` leaves it, with what it has made possible and the vector
formed anew. -/
def State.acted (s : State) (q : Part) : State := { s with part := q.settle.reformVector }

/-- The refusal of a request that is outstanding. -/
def Declines (s : State) (d : Dispatch) (i : Instr) (st : Status) : Prop := exec i s = .next (s.refused d st)

/-- The range checks of a plan (R10). -/
def PlanFits (a : PlanArg) : Prop :=
  1 ≤ a.count ∧ a.count ≤ 4 ∧ (∀ v ∈ planVolumes a, v ≤ 7) ∧ (planVolumes a).Nodup ∧ 1 ≤ a.required ∧ a.required ≤ a.count

/-- Every volume that a plan names has a record in use (R10). -/
def PlanKnown (p : Part) (a : PlanArg) : Prop := ∀ v ∈ planVolumes a, (p.volume v).isSome = true

/-- The identifiers of the catalogue (11.2). -/
def catalogue : List Nat :=
  [0x10, 0x11, 0x12, 0x13, 0x14, 0x15, 0x16, 0x17, 0x18, 0x19, 0x1A] ++
    [0x20, 0x21, 0x22, 0x23, 0x24, 0x25, 0x26] ++ [0x30, 0x31, 0x32] ++ [0x40, 0x41, 0x42, 0x43, 0x44] ++
    [0x50, 0x51, 0x52, 0x53] ++ [0x60, 0x61, 0x62] ++ [0x70, 0x71, 0x72, 0x73, 0x74, 0x75, 0x76] ++
    [0x80, 0x81, 0x82, 0x83, 0x84, 0x85, 0x86] ++ [0x90, 0x91, 0x92] ++ [0xA0, 0xA1, 0xA2, 0xA3, 0xA4, 0xA5] ++
    [0xB0, 0xB1]

/-- What only a few requests write: the standing plan, the fault policy, the attention mask. -/
def Part.settings (p : Part) : Plan × List Policy × BitVec 15 := (p.standing, p.fault.policy, p.attention.mask)

/-! ### Invariants -/

/-- The two buffers of the port have the lengths that the window gives them (R178). -/
def Port.Sized (q : Port) : Prop :=
  q.request.length = Config.requestBytes ∧ q.result.length = Config.resultBytes

/-- The records in use of every table stand at strictly rising indexes below the table's size, and the fault policy has its
eight entries (R1, R13, R15, R77, R115, R122, R135). -/
def Part.Tidy (p : Part) : Prop :=
  twf 32 p.cards = true ∧ twf 1024 p.clips = true ∧ twf 8 p.cameras = true ∧ twf 8 p.volumes = true ∧
    twf 64 p.looks = true ∧ twf 128 p.fault.defects = true ∧ p.fault.policy.length = 8

/-- The bounds of the lists that the part keeps: the held slots bear different numbers below 48, so that there are at most
48, no lane holds more than 16, no lane waits twice for one (R52, R53), and no verify list names a clip twice (R94). -/
def Part.Bounded (p : Part) : Prop :=
  (p.pool.slots.map (·.id)).Nodup ∧ (∀ s ∈ p.pool.slots, s.id < Config.slots) ∧
    (∀ l, (p.slotsOf l).length ≤ Config.slotsPerLane) ∧ p.pool.queue.Nodup ∧
    ∀ e ∈ p.volumes, e.2.verifyList.Nodup

/-- The vector names the highest-priority source that is pending and unmasked (R199). -/
def Part.VectorTrue (p : Part) : Prop := p.attention.vector = p.formVector

end Sys2Proof.Machine
end

