-- ==== Sys2Proof/Certificates/Slice0/Obligations.lean ====
section
/-! DEFINITION. The statements about the model. `State.taken` places the answer and leaves the part as the effect
given, with what that effect makes possible (`Part.settle`, whose order is the model's choice, log 5) and the vector
formed anew; `State.acted` does the same beside the port; `State.answered` and `State.refused` place the answer and
leave the part as it was. `quiet` empties the model's own record of the messages that the command before it sent (log
4). -/

open Sys2Proof Sys2Proof.Machine

/-! ### The step, the port (09) -/

/-- A step takes the command at the front of the queue and runs it on the state with the queue's rest. -/
def Obligations.StepRunsFront : Prop :=
  ∀ (c : Instr) (rest : List Instr) (s : State), s.pending = c :: rest → step s = exec c { s with pending := rest }

/-- Every command answers a next state from every state, and leaves the queue of waiting commands as it is; with an
empty queue the step leaves the state as it is (the model's choice, log 3). -/
def Obligations.EveryCommandCompletes : Prop :=
  (∀ (c : Instr) (s : State), ∃ t, exec c s = .next t ∧ t.pending = s.pending) ∧
    ∀ s : State, s.pending = [] → step s = .next s

/-- Power-on reset, in every state: the commands that wait stay (log 26), all else is at its power-on value. After
power-on reset the port is IDLE with no request outstanding, and every byte of the window reads 0 but for the vector,
15, and the mask, all fifteen sources masked. -/
def Obligations.PowerOnResets : Prop :=
  ((∀ s : State, exec .powerOnReset s = .next { State.reset with pending := s.pending }) ∧
     (let p := State.reset.part
      p.cards = [] ∧ p.clips = [] ∧ p.cameras = [] ∧ p.volumes = [] ∧ p.looks = [] ∧ p.fault.defects = [] ∧
        p.standing = { volumes := [], required := 0, skipMarked := false } ∧
        p.pool = { slots := [], queue := [] } ∧ p.fault.opened = 0 ∧ p.fault.mark = 0 ∧
        p.render.queue = [] ∧ p.render.active = none ∧ p.render.term.record = none ∧
        (∀ l, (p.reader l).state = .noReader ∧ (p.reader l).mode = .manual ∧ (p.reader l).retryLimit = 3 ∧
          (p.reader l).stallCount = 100 ∧ (p.reader l).stallExp = 3 ∧ (p.reader l).term.record = none ∧
          (p.reader l).changed = false) ∧
        (∀ d, (p.dest d).state = .empty ∧ (p.dest d).stallCount = 100 ∧ (p.dest d).stallExp = 3 ∧
          (p.dest d).release = [] ∧ (p.dest d).term.record = none ∧ (p.dest d).changed = false) ∧
        (∀ c, (p.channel c).state = .idle ∧ (p.channel c).clip = none ∧ (p.channel c).term.record = none))) ∧
  (State.reset.port.state = .idle ∧ State.reset.port.collision = false ∧
     ∀ o, State.reset.windowByte o = if o = 8 then 15 else if o = 12 then 255 else if o = 13 then 127 else 0)

/-- After power-on reset every look is FREE; no reference and no pin is held (R153). -/
def Obligations.ResetLooksFree : Prop :=
  ∀ (s t : State), exec .powerOnReset s = .next t →
    (∀ l, t.part.look l = none) ∧ t.part.clips = [] ∧ t.part.cameras = [] ∧ t.part.render.queue = [] ∧
      t.part.render.active = none ∧ ∀ c, (t.part.channel c).state = .idle ∧ (t.part.channel c).override = none

/-- A port reset, in every port state: the port IDLE, the flag clear, the buffers zeros, the sequence 0, and every byte
of the window 0 but for the vector and the mask, which is kept. Either the whole part takes it as one step (in an order
that is the model's choice, log 6); or the port takes its own event, after which every block owes its reset, and each
block takes its own once, between other commands, when no block of an earlier stage owes one (the stages: log 6): the
Attention Unit, the channels, the reader lanes, the destination lanes, then the engine and the Custody Tables. At each
of these the mask, the fault policy and the standing plan stay. What the events of the blocks do: every block is one of
those that owe; the Attention Unit clears CUSTODY, FAULTS, every record with its unsensed flag and every
condition-changed flag, the vector at 15 before it is formed anew, the mask kept; the engine, a channel and a reader
lane take their own resets; a destination lane ends its traffic, with a volume bound the recopies that read from it
too, none of them with a termination, and identifies again; the Custody Tables evaluate every card. What three of the
operations leave, said of the operation alone: `portResetRender`, no entry under work; `portResetReader`, of a reader
lane as `clearReader` leaves it, in NO_READER or EQUIPMENT the same state, in every other EMPTY with a Presence Request
owed (the model's choice, log 12), and no request outstanding, no recopy served, no preview read waiting, no
termination left. -/
def Obligations.PortResets : Prop :=
  (∀ s : State,
    let cleared : Port :=
      { state := .idle, collision := false, sequence := 0, request := List.replicate 64 0,
        result := List.replicate 256 0 }
    let whole := (s.part.quiet.portReset).settle.reformVector
    let taken (b : ResetBlock) := (s.part.quiet.takeReset b).settle.reformVector
    exec (.portReset .whole) s = .next { s with port := cleared, owed := [], part := whole } ∧
      whole.settings = s.part.settings ∧
      exec (.portReset .port) s =
        .next { s with port := cleared, owed := allBlocks, part := { s.part with outbox := [] } } ∧
      (∀ b, b ∈ s.owed → (∀ x ∈ s.owed, resetStage b ≤ resetStage x) →
        exec (.portReset (.block b)) s =
            .next { s with owed := s.owed.filter fun x => x != b, part := taken b } ∧
          (taken b).settings = s.part.settings) ∧
      ∀ b, (b ∉ s.owed ∨ ∃ x ∈ s.owed, resetStage x < resetStage b) →
        exec (.portReset (.block b)) s = .next { s with part := { s.part with outbox := [] } }) ∧
  (∀ s t : State, exec (.portReset .whole) s = .next t ∨ exec (.portReset .port) s = .next t →
    ∀ o, t.windowByte o =
      if 8 ≤ o ∧ o < 12 then byteAt (leBytes 4 t.part.attention.vector) (o - 8)
      else if 12 ≤ o ∧ o < 16 then byteAt (leBytes 4 s.part.attention.mask.toNat) (o - 12)
      else 0) ∧
  (∀ b : ResetBlock, b ∈ allBlocks) ∧
  (resetStage .attention = 0 ∧ (∀ c, resetStage (.channel c) = 1) ∧ (∀ l, resetStage (.reader l) = 2) ∧
    (∀ d, resetStage (.dest d) = 3) ∧ resetStage .render = 4 ∧ resetStage .tables = 4) ∧
  (∀ p : Part,
    (let q := p.takeReset .attention
     q.attention = { p.attention with custody := false, faults := false, vector := 15 } ∧
       q.render.term = TermSlot.none ∧ (∀ c, (q.channel c).term = TermSlot.none) ∧
       (∀ l, (q.reader l).term = TermSlot.none ∧ (q.reader l).changed = false) ∧
       ∀ d, (q.dest d).term = TermSlot.none ∧ (q.dest d).changed = false) ∧
      p.takeReset .render = p.resetRender ∧ (∀ c, p.takeReset (.channel c) = p.resetChannel c) ∧
      p.takeReset .tables = p.evaluateAll ∧
      (∀ d,
        let again (q : Part) : Part := (q.modDest d DestLane.cleared).reidentify d
        (p.boundVolume d = none → p.takeReset (.dest d) = again (p.portResetVerify d)) ∧
        ∀ v, p.boundVolume d = some v →
          p.takeReset (.dest d) =
            again ((allChannels.filter (p.readingDest d)).foldl Part.loseSource
              ((p.dropRecopiesFrom v).clearTraffic d v))) ∧
      (∀ v,
        let q := p.dropRecopiesFrom v
        q.render = p.render ∧ (∀ l, (q.reader l).term = (p.reader l).term) ∧
          ∀ e, (q.dest e).term = (p.dest e).term ∧
            ∀ x, (q.dest e).explicit = some (.recopy x) → x.source ≠ .volume v) ∧
      (∀ l, (p.reader l).serves = none → p.takeReset (.reader l) = p.portResetReader l) ∧
      ∀ l d, (p.reader l).serves = some d → p.takeReset (.reader l) = (p.dropRecopy d).portResetReader l) ∧
  (∀ p : Part, p.portResetRender.render.active = none) ∧
  (∀ (p : Part) (l : Fin 6),
    let was := ((p.clearReader l).reader l).state
    let r := (p.portResetReader l).reader l
    r.state = (if was = .noReader ∨ was = .equipment then was else .empty) ∧
      (was ≠ .noReader → was ≠ .equipment → r.presenceOwed = true) ∧
      r.out = none ∧ r.serves = none ∧ r.previews = [] ∧ r.term = TermSlot.none ∧ r.changed = false)

/-- The request buffer: a write in IDLE replaces the bytes it covers, a write in BUSY or RESULT is dropped and sets the
collision flag; nothing else but a reset changes the buffer (R180). -/
def Obligations.RequestBufferWritten : Prop :=
  ∀ (s : State) (o : Nat) (bs : List Byte),
    (s.port.state = .idle →
      exec (.requestBufferWrite o bs) s =
        .next { s.quiet with port := { s.port with request := overwrite s.port.request o bs } }) ∧
    (s.port.state ≠ .idle →
      exec (.requestBufferWrite o bs) s = .next { s.quiet with port := { s.port with collision := true } }) ∧
    (overwrite s.port.request o bs).length = s.port.request.length ∧
    (∀ k, k < s.port.request.length →
      byteAt (overwrite s.port.request o bs) k =
        if o ≤ k ∧ k < o + bs.length then byteAt bs (k - o) else byteAt s.port.request k) ∧
    (∀ (c : Instr) (t : State), exec c s = .next t → (∀ o' bs', c ≠ .requestBufferWrite o' bs') → c.isReset = false →
      t.port.request = s.port.request) ∧
    (∀ t : State, exec (.portReset .whole) s = .next t ∨ exec (.portReset .port) s = .next t →
      t.port.request = List.replicate 64 0) ∧
    (∀ (i : Instr) (done clear : Bool), s.port.state = .idle → decodeEnvelope s.port.request = .request i →
      exec (.portGo done clear) s =
        .next { s.quiet with
          port := { s.port with
            state := .busy (s.port.dispatch i), collision := if clear then false else s.port.collision } })

/-- Go in IDLE: a request becomes the outstanding dispatch with the identifier and the reference of the buffer, and
nothing else changes; an envelope that is none is answered by the port itself (the order of its checks: log 11). Which
envelopes are requests: UNKNOWN_REQUEST exactly for an identifier outside the catalogue; a bad field lies within the
request buffer; a request found is a request of the catalogue. -/
def Obligations.GoTaken : Prop :=
  (∀ s : State, s.port.state = .idle →
     let from' (i : Instr) : Dispatch :=
       { identifier := byteAt s.port.request 0, refLow := byteAt s.port.request 1, refHigh := byteAt s.port.request 2,
         request := i }
     (∀ i, decodeEnvelope s.port.request = .request i →
       exec (.portGo false false) s = .next { s.quiet with port := { s.port with state := .busy (from' i) } }) ∧
     (decodeEnvelope s.port.request = .unknown →
       exec (.portGo false false) s =
         .next { s.quiet with
           port := s.port.place (from' (.portGo false false)) { status := .unknownRequest, payload := [] } }) ∧
     (∀ o, decodeEnvelope s.port.request = .malformed o →
       exec (.portGo false false) s =
         .next { s.quiet with
           port :=
             s.port.place (from' (.portGo false false)) { status := .malformed, payload := [BitVec.ofNat 8 o] } })) ∧
  (∀ b : List Byte,
     (decodeEnvelope b = .unknown ↔ numAt b 0 1 ∉ catalogue) ∧
     (∀ o, decodeEnvelope b = .malformed o → o < 64) ∧
     (∀ i, decodeEnvelope b = .request i → i.isRequest = true ∧ 4 ≤ envLength b ∧ envLength b ≤ 64))

/-- Done in RESULT moves the port to IDLE and changes nothing else of it; the result buffer is read alike in every port
state, and holds its result until the next one is placed or a reset sets it to zeros (R184). -/
def Obligations.DoneTaken : Prop :=
  ∀ s : State,
    (s.port.state = .result →
      exec (.portDone false) s = .next { s.quiet with port := { s.port with state := .idle } }) ∧
    (∀ k, k < 256 → ∀ st : PortState,
      ({ s with port := { s.port with state := st } } : State).windowByte (256 + k) = byteAt s.port.result k) ∧
    (∀ (c : Instr) (t : State), exec c s = .next t → c.isReset = false →
      (t.port.result = s.port.result ∧ t.port.sequence = s.port.sequence) ∨
        (t.port.sequence = s.port.sequence + 1 ∧ t.port.state = .result)) ∧
    (∀ (c : Instr) (t : State) (d : Dispatch), exec c s = .next t → c.isReset = false → t.port.state = .busy d →
      t.port.result = s.port.result ∧ t.port.sequence = s.port.sequence) ∧
    (∀ t : State, exec (.portReset .whole) s = .next t ∨ exec (.portReset .port) s = .next t →
      t.port.result = List.replicate 256 0)

/-- The collision flag: set by a Go outside IDLE and by a Done in BUSY, which are dropped; a Done in IDLE does nothing;
cleared by collision clear in every port state; and sticky. One write of the control word with several bits does what
its bits do in turn, collision clear first, then Done, then Go: from RESULT, Done with Go is a Go from IDLE. Which
command a write of one byte or several of the control word is: the port reset alone when its bit is set, else the write
with its other bits; bits 4 to 7 and the three upper bytes carry none (the one command for a write is the model's
choice, log 2). -/
def Obligations.CollisionFlag : Prop :=
  (∀ s : State,
    (s.port.state ≠ .idle →
      exec (.portGo false false) s = .next { s.quiet with port := { s.port with collision := true } }) ∧
    (∀ d, s.port.state = .busy d →
      exec (.portDone false) s = .next { s.quiet with port := { s.port with collision := true } }) ∧
    (s.port.state = .idle → exec (.portDone false) s = .next s.quiet) ∧
    exec .collisionClear s = .next { s.quiet with port := { s.port with collision := false } } ∧
    (∀ (c : Instr) (t : State), exec c s = .next t → c.clearsCollision = false → c.isReset = false →
      s.port.collision = true → t.port.collision = true) ∧
    (∀ t, exec .collisionClear s = .next t →
      exec (.portDone true) s = exec (.portDone false) t ∧
        ∀ done, exec (.portGo done true) s = exec (.portGo done false) t) ∧
    (∀ t, exec (.portDone false) s = .next t → exec (.portGo true false) s = exec (.portGo false false) t) ∧
    (∀ (i : Instr) (clear : Bool), s.port.state = .result → decodeEnvelope s.port.request = .request i →
      exec (.portGo true clear) s =
        .next { s.quiet with
          port := { s.port with
            state := .busy (s.port.dispatch i), collision := if clear then false else s.port.collision } })) ∧
  (∀ (b : Byte) (rest : List Byte),
    (b.getLsbD 3 = true → controlCommand 0 (b :: rest) = .portReset .whole) ∧
    (b.getLsbD 3 = false → b.getLsbD 0 = true →
      controlCommand 0 (b :: rest) = .portGo (b.getLsbD 1) (b.getLsbD 2)) ∧
    (b.getLsbD 3 = false → b.getLsbD 0 = false → b.getLsbD 1 = true →
      controlCommand 0 (b :: rest) = .portDone (b.getLsbD 2)) ∧
    (b.getLsbD 3 = false → b.getLsbD 0 = false → b.getLsbD 1 = false → b.getLsbD 2 = true →
      controlCommand 0 (b :: rest) = .collisionClear) ∧
    (b.getLsbD 3 = false → b.getLsbD 0 = false → b.getLsbD 1 = false → b.getLsbD 2 = false →
      controlCommand 0 (b :: rest) = .windowWriteIgnored 4 (b :: rest))) ∧
  ∀ (o : Nat) (bs : List Byte), 0 < o → controlCommand o bs = .windowWriteIgnored (4 + o) bs

/-- What the window returns: the status word, the vector word, which holds the vector in its low byte, the mask word,
whose two high bytes are 0, the two buffers, and 0 elsewhere. A write to the status word, the vector word, the result
buffer or an offset that holds nothing is ignored. -/
def Obligations.WindowRead : Prop :=
  (∀ s : State,
     s.windowByte 0 =
         BitVec.ofNat 8
           ((match s.port.state with
             | .idle => 0
             | .busy _ => 1
             | .result => 2) + if s.port.collision then 16 else 0) ∧
       s.windowByte 1 = s.port.sequence ∧
       s.windowByte 8 = BitVec.ofNat 8 s.part.attention.vector ∧
       (∀ k, k < 4 → s.windowByte (8 + k) = byteAt (leBytes 4 s.part.attention.vector) k) ∧
       (s.part.attention.vector ≤ 15 → s.windowByte 9 = 0 ∧ s.windowByte 10 = 0 ∧ s.windowByte 11 = 0) ∧
       s.windowByte 14 = 0 ∧ s.windowByte 15 = 0 ∧
       s.windowByte 12 = s.part.attention.mask.setWidth 8 ∧
       s.windowByte 13 = (s.part.attention.mask >>> 8).setWidth 8 ∧
       (∀ k, k < 64 → s.windowByte (64 + k) = byteAt s.port.request k) ∧
       (∀ k, k < 256 → s.windowByte (256 + k) = byteAt s.port.result k) ∧
       (∀ o, (o = 2 ∨ o = 3 ∨ (4 ≤ o ∧ o < 8) ∨ (16 ≤ o ∧ o < 64) ∨ (128 ≤ o ∧ o < 256) ∨ 512 ≤ o) →
         s.windowByte o = 0)) ∧
  (∀ (s : State) (o : Nat) (bs : List Byte),
     exec (.windowWriteIgnored o bs) s = .next { s with part := { s.part with outbox := [] } })

/-- A request that is not the one outstanding has no effect, and no result is placed (the model's choice, log 1). A
request answered with a refusal changes no state beyond the port's exchange, whatever the request; and a request that
only reads changes none whatever its answer. -/
def Obligations.RefusalChangesNothing : Prop :=
  (∀ (s : State) (i : Instr), i.isRequest = true → (∀ d, ¬ Dispatched s d i) →
     exec i s = .next { s with part := { s.part with outbox := [] } }) ∧
  (∀ (s t : State) (d : Dispatch) (i : Instr), i.isRequest = true → Dispatched s d i → exec i s = .next t →
     (i.isQuery = true ∨ 5 ≤ (byteAt t.port.result 4).toNat) → t.part = { s.part with outbox := [] })

/-- Which side of the part a command can change: an event of the links leaves the port as it is, a command of the port
leaves the other blocks as they are, and a request changes the port by its result alone. -/
def Obligations.SidesKept : Prop :=
  ∀ (s t : State) (c : Instr), exec c s = .next t →
    (c.isLink = true → t.port = s.port) ∧
    (c.isPortOnly = true → t.part = { s.part with outbox := [] }) ∧
    (∀ o bs, c = .attentionMaskWordWrite o bs → t.port = s.port) ∧
    (∀ d, c.isRequest = true → Dispatched s d c → ∃ a, t.port = s.port.place d a)

/-! ### Invariants -/

/-- The buffers of the port keep their lengths, 64 and 256 bytes, over every step. -/
def Obligations.BuffersKeepSize : Prop :=
  ∀ s t : State, s.port.Sized → step s = .next t → t.port.Sized

/-- After every step the records in use of each table stand at strictly rising indexes within the table, and the fault
policy has its eight entries. And after every step the slots held bear different numbers below 48, at most 48 in all
and at most 16 of one lane, no lane waits twice for a slot, and no verify list names a clip twice. -/
def Obligations.TablesStayTidy : Prop :=
  (∀ s t : State, s.part.Tidy → step s = .next t → t.part.Tidy) ∧
    ∀ s t : State, s.part.Bounded → step s = .next t → t.part.Bounded ∧ t.part.pool.slots.length ≤ 48

/-- The vector names the highest-priority source that is pending and unmasked after every step (R199). -/
def Obligations.VectorStaysTrue : Prop :=
  ∀ s t : State, s.part.VectorTrue → step s = .next t → t.part.VectorTrue

/-- The invariants hold after power-on reset. -/
def Obligations.InvariantsAtReset : Prop :=
  State.reset.port.Sized ∧ State.reset.part.Tidy ∧ State.reset.part.Bounded ∧ State.reset.part.VectorTrue

/-- The standing plan, the fault policy and the attention mask are kept by every command but the few that write them.
-/
def Obligations.SettingsKept : Prop :=
  ∀ (s t : State) (c : Instr), c.writesSettings = false → exec c s = .next t → t.part.settings = s.part.settings

/-! ### Attention (10) -/

/-- The vector is the number of the highest-priority source that is pending and unmasked, or 15 when there is none.
Which sources are pending: a lane's termination unsensed or its condition-changed flag set, CUSTODY and FAULTS raised,
the termination of the render engine or of a channel unsensed. -/
def Obligations.VectorNamesHighest : Prop :=
  (∀ (p : Part) (n : Nat),
     (n < 15 →
       (p.formVector = n ↔
         (p.sourcePending n = true ∧ p.attention.mask.getLsbD n = false ∧
           ∀ m, m < n → p.sourcePending m = true → p.attention.mask.getLsbD m = true))) ∧
     (p.formVector = 15 ↔ ∀ m, m < 15 → p.sourcePending m = true → p.attention.mask.getLsbD m = true) ∧
     p.formVector ≤ 15) ∧
  (∀ p : Part,
     (∀ d : Fin 4, p.sourcePending d = ((p.dest d).term.unsensed || (p.dest d).changed)) ∧
     (∀ l : Fin 6, p.sourcePending (4 + l) = ((p.reader l).term.unsensed || (p.reader l).changed)) ∧
     p.sourcePending 10 = p.attention.custody ∧ p.sourcePending 11 = p.attention.faults ∧
     p.sourcePending 12 = p.render.term.unsensed ∧
     (∀ c : Fin 2, p.sourcePending (13 + c) = (p.channel c).term.unsensed))

/-- Forming the vector sends one interrupt message, with the new vector, exactly when it changes from 15 to a source;
and changes nothing else. -/
def Obligations.InterruptMessage : Prop :=
  ∀ p : Part,
    p.reformVector =
      { p with
        attention := { p.attention with vector := p.formVector }
        outbox :=
          if p.attention.vector = 15 ∧ p.formVector ≠ 15 then p.outbox ++ [.interrupt p.formVector] else p.outbox }

/-- The mask is replaced by Set Mask, which answers the mask before, and by a write of the mask word, in every port
state and with no effect on the port. Bit 15 is ignored; the bits of bytes not covered are kept (the model's inference,
log 52). -/
def Obligations.MaskReplaced : Prop :=
  ∀ s : State,
    (∀ (d : Dispatch) (m : BitVec 16), Dispatched s d (.setMask m) →
      exec (.setMask m) s =
        .next (s.taken d (.withPayload (leBytes 2 s.part.attention.mask.toNat))
          { s.part.quiet with attention := { s.part.attention with mask := m.setWidth 15 } })) ∧
    (∀ (o : Nat) (bs : List Byte), exec (.attentionMaskWordWrite o bs) s =
      .next (s.acted
        { s.part.quiet with
          attention := { s.part.attention with
            mask := (BitVec.ofNat 16 (leNat (overwrite (leBytes 4 s.part.attention.mask.toNat) o bs))).setWidth 15 } })) ∧
    (∀ b0 b1 : Byte, maskAfter s.part.attention.mask 0 [b0, b1] = BitVec.ofNat 16 (b0.toNat + 256 * b1.toNat))

/-- Sense Custody and Sense Faults: what they return, what they clear, and that they run in every state. -/
def Obligations.AttentionSensed : Prop :=
  ∀ (s : State) (d : Dispatch),
    (Dispatched s d .senseCustody →
      exec .senseCustody s =
        .next (s.taken d
          (.withPayload
            ([BitVec.ofNat 8 (s.part.cards.filter fun e => e.2.state == .secured).length,
              BitVec.ofNat 8 (s.part.cards.filter fun e => e.2.state == .held).length,
              BitVec.ofNat 8 (s.part.cards.filter fun e => e.2.state == .tripped).length,
              if s.part.attention.custody then 1 else 0]))
          { s.part.quiet with attention := { s.part.attention with custody := false } })) ∧
    (Dispatched s d .senseFaults →
      exec .senseFaults s =
        .next (s.taken d
          (.withPayload
            (leBytes 2 s.part.fault.opened.toNat ++ leBytes 2 s.part.fault.mark.toNat ++
              leBytes 2 (s.part.clips.filter fun e => s.part.faultHeld e.2).length))
          { s.part.quiet with
            fault := { s.part.fault with mark := s.part.fault.opened }
            attention := { s.part.attention with faults := false } }))

/-! ### Reads: the lookups and the lists -/

/-- The lookups and Read Policy, Read Look: what each answers in every case, and that nothing but the port changes. The
one byte 0 of a FREE look, the thresholds of 0 of a kind that has none, and the two bytes behind the clip's fields for
how many clips have a name looked up are the model's choice (log 10). The order of the values of a policy entry, of a
clip's directory facts and proxy, and of a volume's counts by copy state is too (log 59). -/
def Obligations.LookupsAnswer : Prop :=
  ∀ (s : State) (d : Dispatch),
    (∀ r, Dispatched s d (.lookupCard r) →
      let named := match r with
        | .index i => (s.part.card i).map fun c => (i, c)
        | .identity id => s.part.cards.find? fun e => e.2.id == id
      (named = none → Declines s d (.lookupCard r) .notFound) ∧
      ∀ i card, named = some (i, card) →
        exec (.lookupCard r) s = .next (s.answered d (.withPayload (s.part.cardBytes i card)))) ∧
    (∀ i, Dispatched s d (.lookupClip (.index i)) →
      (s.part.clip i = none → Declines s d (.lookupClip (.index i)) .notFound) ∧
      ∀ c, s.part.clip i = some c →
        exec (.lookupClip (.index i)) s = .next (s.answered d (.withPayload (s.part.clipBytes i c)))) ∧
    (∀ t, Dispatched s d (.lookupClip (.name t)) →
      let named := s.part.clips.filter fun e => e.2.name == t
      (named = [] → Declines s d (.lookupClip (.name t)) .notFound) ∧
      ∀ e rest, named = e :: rest →
        exec (.lookupClip (.name t)) s =
          .next (s.answered d (.withPayload (s.part.clipBytes e.1 e.2 ++ leBytes 2 named.length)))) ∧
    (∀ v, Dispatched s d (.lookupVolume v) →
      (7 < v → Declines s d (.lookupVolume v) .range) ∧
      (v ≤ 7 → s.part.volume v = none → Declines s d (.lookupVolume v) .notFound) ∧
      ∀ r, v ≤ 7 → s.part.volume v = some r →
        exec (.lookupVolume v) s = .next (s.answered d (.withPayload (s.part.volumeBytes v r)))) ∧
    (∀ l, Dispatched s d (.readLook l) →
      (63 < l → Declines s d (.readLook l) .range) ∧
      (l ≤ 63 → s.part.look l = none → exec (.readLook l) s = .next (s.answered d (.withPayload [0]))) ∧
      ∀ k, l ≤ 63 → s.part.look l = some k →
        exec (.readLook l) s = .next (s.answered d (.withPayload k.bytes))) ∧
    (∀ n, Dispatched s d (.readPolicy n) →
      (n = 0 ∨ 8 < n → Declines s d (.readPolicy n) .range) ∧
      ∀ k, faultKindOf n = some k →
        exec (.readPolicy n) s =
          .next (s.answered d (.withPayload
            ([if (s.part.policy k).enabled then 1 else 0, if (s.part.policy k).holds then 1 else 0,
              BitVec.ofNat 8 (s.part.policy k).trip] ++
              leBytes 2 (s.part.policy k).first ++ leBytes 2 (s.part.policy k).second ++
              (let fixed : Byte := if k.isIntegrity then 1 else 0
               [fixed, fixed, if k = .copyMismatch then 1 else 0])))))

/-- The lists: RANGE for a start out of range, else one page of the entries at or past the start, and nothing but the
port changes. A page holds the first entries, as many as its size allows; its next value names the first entry left
out, or none (which index that is when free ones lie between is the model's choice, log 36). List Cards names the first
record in use beyond the last one returned, whatever its state, or none when none lies beyond; with no record returned
it names none (log 36), and a filter that is no state's code returns none (the model's inference, log 35). The one byte
of a camera index is the model's choice (log 10). -/
def Obligations.ListsAnswer : Prop :=
  (∀ (s : State) (d : Dispatch) (n : Nat),
     (∀ st, Dispatched s d (.listCards n st) →
       (31 < n → Declines s d (.listCards n st) .range) ∧
       (n ≤ 31 →
         let shown :=
           ((s.part.cards.filter fun e => decide (n ≤ e.1) && st.all fun k => e.2.state.code == k).map fun e =>
             (e.1, cardEntry e.1 e.2)).take 12
         exec (.listCards n st) s =
           .next (s.answered d (.withPayload (pageWith (nextCard s.part.cards shown) shown))))) ∧
     (∀ i, Dispatched s d (.listClips (.card i n)) →
       (s.part.card i = none → Declines s d (.listClips (.card i n)) .notFound) ∧
       ∀ card, s.part.card i = some card →
         (249 < n → Declines s d (.listClips (.card i n)) .range) ∧
         (n ≤ 249 →
           exec (.listClips (.card i n)) s =
             .next (s.answered d (.withPayload (pageOf 12 (s.part.clipsFrom card n)))))) ∧
     (Dispatched s d (.listClips (.table n)) →
       (1023 < n → Declines s d (.listClips (.table n)) .range) ∧
       (n ≤ 1023 →
         exec (.listClips (.table n)) s = .next (s.answered d (.withPayload (pageOf 12
           ((s.part.clips.filter fun e => decide (n ≤ e.1)).map fun e => (e.1, s.part.clipEntry e.1 e.2))))))) ∧
     (Dispatched s d (.listVolumes n) →
       (7 < n → Declines s d (.listVolumes n) .range) ∧
       (n ≤ 7 →
         exec (.listVolumes n) s = .next (s.answered d (.withPayload (pageOf 8
           ((s.part.volumes.filter fun e => decide (n ≤ e.1)).map fun e => (e.1, s.part.volumeEntry e.1 e.2))))))) ∧
     (Dispatched s d (.listCameras n) →
       (7 < n → Declines s d (.listCameras n) .range) ∧
       (n ≤ 7 →
         exec (.listCameras n) s = .next (s.answered d (.withPayload (pageOf 12
           ((s.part.cameras.filter fun e => decide (n ≤ e.1)).map fun e => (e.1, s.part.cameraEntry e.1 e.2))))))) ∧
     (∀ letter, Dispatched s d (.listDefects n letter) →
       (127 < n ∨ (∃ x, letter = some x ∧ ¬ (65 ≤ x ∧ x ≤ 90)) → Declines s d (.listDefects n letter) .range) ∧
       (n ≤ 127 → (∀ x, letter = some x → 65 ≤ x ∧ x ≤ 90) →
         exec (.listDefects n letter) s = .next (s.answered d (.withPayload (pageOf 12
           ((s.part.fault.defects.filter fun e => decide (n ≤ e.1) && letter.all fun x => e.2.letter == x).map fun e =>
             (e.1, defectEntry e.1 e.2))))))) ∧
     (∀ i, Dispatched s d (.listOpenFaults (.clip i n)) →
       (1023 < i ∨ 1 < n → Declines s d (.listOpenFaults (.clip i n)) .range) ∧
       (i ≤ 1023 → n ≤ 1 →
         (s.part.clip i = none → Declines s d (.listOpenFaults (.clip i n)) .notFound) ∧
         ∀ c, s.part.clip i = some c →
           exec (.listOpenFaults (.clip i n)) s = .next (s.answered d (.withPayload
             ([0xFF, 0xFF] ++ ((if n = 0 then c.faults.filter (fun f => f.state == .opened) else c.faults).map
               (s.part.faultEntry i)).flatten))))) ∧
     (Dispatched s d (.listOpenFaults (.table n)) →
       (1023 < n → Declines s d (.listOpenFaults (.table n)) .range) ∧
       (n ≤ 1023 →
         let listed := (s.part.clips.filter fun e => decide (n ≤ e.1) && !e.2.openFaults.isEmpty).map fun e =>
           (e.1, e.2.openFaults.map (s.part.faultEntry e.1))
         exec (.listOpenFaults (.table n)) s =
           .next (s.answered d (.withPayload (nextBytes (faultPages 11 listed).2 ++ (faultPages 11 listed).1))))) ∧
     (Dispatched s d (.listRenderQueue n) →
       (15 < n → Declines s d (.listRenderQueue n) .range) ∧
       (n ≤ 15 →
         exec (.listRenderQueue n) s = .next (s.answered d (.withPayload (pageOf 10
           ((s.part.render.queue.zipIdx.drop n).map fun e => (e.2, s.part.render.entryBytes e.2 e.1)))))))) ∧
  (∀ (size : Nat) (entries : List (Nat × List Byte)),
     (entries.length ≤ size → pageOf size entries = [0xFF, 0xFF] ++ (entries.map (·.2)).flatten) ∧
     ∀ front e rest, entries = front ++ e :: rest → front.length = size →
       pageOf size entries = leBytes 2 e.1 ++ (front.map (·.2)).flatten) ∧
  (∀ (cards : Table Card) (front : List (Nat × List Byte)) (e : Nat × List Byte), twf 32 cards = true →
     nextCard cards [] = none ∧ (nextCard cards (front ++ [e]) = none ↔ ∀ c ∈ cards, c.1 ≤ e.1) ∧
     ∀ m, nextCard cards (front ++ [e]) = some m ↔
       e.1 < m ∧ tget cards m ≠ none ∧ ∀ k, e.1 < k → k < m → tget cards k = none) ∧
  ∀ shown : List (Nat × List Byte),
    pageWith none shown = [0xFF, 0xFF] ++ (shown.map (·.2)).flatten ∧
      ∀ m, pageWith (some m) shown = leBytes 2 m ++ (shown.map (·.2)).flatten

/-! ### Cards, plans, offload and erase (01, 02, 03) -/

/-- Set Standing Plan and Set Card Plan, their refusals in order and their effect. -/
def Obligations.PlansSet : Prop :=
  ∀ (s : State) (d : Dispatch) (a : PlanArg),
    (Dispatched s d (.setStandingPlan a) →
      (¬ PlanFits a → Declines s d (.setStandingPlan a) .range) ∧
      (PlanFits a → ¬ PlanKnown s.part a → Declines s d (.setStandingPlan a) .notFound) ∧
      (PlanFits a → PlanKnown s.part a →
        exec (.setStandingPlan a) s =
          .next (s.taken d (.bare .ok)
            { s.part.quiet with
              standing :=
                { volumes := a.slots.take a.count, required := a.required, skipMarked := a.skipMarked } }))) ∧
    ∀ i, Dispatched s d (.setCardPlan i a) →
      (s.part.card i = none → Declines s d (.setCardPlan i a) .notFound) ∧
      ∀ card, s.part.card i = some card →
        (card.state ≠ .ready → card.state ≠ .held → Declines s d (.setCardPlan i a) .wrongState) ∧
        (card.state = .ready ∨ card.state = .held →
          (¬ PlanFits a → Declines s d (.setCardPlan i a) .range) ∧
          (PlanFits a → ¬ PlanKnown s.part a → Declines s d (.setCardPlan i a) .notFound) ∧
          (PlanFits a → PlanKnown s.part a →
            exec (.setCardPlan i a) s =
              .next (s.taken d (.bare .ok)
                ((s.part.quiet.modCard i fun c =>
                  { c with plan :=
                      { volumes := a.slots.take a.count, required := a.required, skipMarked := a.skipMarked } }).evaluate
                  i))))

/-- The evaluation of a card: HELD moves to SECURED when the secure condition holds, SECURED to HELD when it does not,
with CUSTODY raised at each; else the part stays as it is. The condition: no offload in flight, and every clip waived,
or with its required copies counted and not fault-held. The required copies are those of the plan of the clip's card; a
copy counts when it is VERIFIED and on an ARCHIVE volume that is attached. -/
def Obligations.CardEvaluated : Prop :=
  (∀ (p : Part) (c : Clip),
    (∀ card, p.card c.card = some card → p.requiredOf c = card.plan.required) ∧
    (c.copies = [] → p.countedCopies c = 0) ∧
    ∀ e rest, c.copies = e :: rest →
      let counts : Prop :=
        e.state = .verified ∧ ∃ r, p.volume e.vol = some r ∧ r.role = .archive ∧ r.attach ≠ .detached
      (counts → p.countedCopies c = p.countedCopies { c with copies := rest } + 1) ∧
      (¬ counts → p.countedCopies c = p.countedCopies { c with copies := rest })) ∧
  ∀ (p : Part) (i : Nat) (card : Card), p.card i = some card →
    (card.state = .held → p.secure card = true →
      p.evaluate i =
        { p with
          cards := tmod p.cards i fun c => { c with state := .secured }
          attention := { p.attention with custody := true } }) ∧
    (card.state = .secured → p.secure card = false →
      p.evaluate i =
        { p with
          cards := tmod p.cards i fun c => { c with state := .held }
          attention := { p.attention with custody := true } }) ∧
    (card.state = .held → p.secure card = false → p.evaluate i = p) ∧
    (card.state = .secured → p.secure card = true → p.evaluate i = p) ∧
    (card.state ≠ .held → card.state ≠ .secured → p.evaluate i = p) ∧
    (p.secure card = true ↔
      card.state ≠ .offloading ∧
        ∀ k ∈ card.clips, ∀ c, p.clip k = some c →
          c.custody ≠ .normal ∨
            (p.requiredOf c ≤ p.countedCopies c ∧
              ∀ f ∈ c.faults, f.state = .opened → (p.policy f.kind).holds = false))

/-- Start Offload: its refusals in order, and the offload that it starts: the card OFFLOADING with its progress at 0,
the lane OFFLOADING with its trip counters at 0, the analyzer cleared, the code of the last Fault Answer forgotten (the
model's inference, log 19), and the first clip considered. The plan check: some volume, the required copies between 1
and their number, and every volume in use, ARCHIVE, ONLINE, and on a lane that is not FULL. How the next position is
considered (R49): a stop at the clip or the end of the clip list ends the reading, a stop held at the end counting as
the stop (the model's choice, log 22); else the next position rises by 1, and a clip that is WAIVED, or marked with
skip_marked set and then WAIVED so, is skipped, one with its ingest digest and an empty fan-out is passed over, and any
other is the current clip, read from its first block, marked as one that counts toward no progress count when its
fan-out is formed empty (R50). The fan-out (R50): the plan volumes in plan order, those kept that are usable and whose
write claim the clip takes. -/
def Obligations.OffloadStarted : Prop :=
  (∀ (s : State) (d : Dispatch) (i : Nat), Dispatched s d (.startOffload i) →
     (31 < i → Declines s d (.startOffload i) .range) ∧
     (i ≤ 31 → s.part.card i = none → Declines s d (.startOffload i) .notFound) ∧
     ∀ card, i ≤ 31 → s.part.card i = some card →
       (card.lane = none → Declines s d (.startOffload i) .notPresent) ∧
       ∀ l, card.lane = some l →
         ((s.part.reader l).state ≠ .bound ∨ (s.part.reader l).serves ≠ none →
           Declines s d (.startOffload i) .busy) ∧
         ((s.part.reader l).state = .bound → (s.part.reader l).serves = none →
           ((s.part.reader l).term.unsensed = true → Declines s d (.startOffload i) .unsensed) ∧
           ((s.part.reader l).term.unsensed = false →
             (card.state ≠ .ready → card.state ≠ .held → Declines s d (.startOffload i) .wrongState) ∧
             (card.state = .ready ∨ card.state = .held →
               (s.part.planPasses card.plan = false → Declines s d (.startOffload i) .planInvalid) ∧
               (s.part.planPasses card.plan = true →
                 exec (.startOffload i) s =
                   .next (s.taken d (.bare .accepted)
                     (((s.part.quiet.modCard i fun c =>
                       { c with state := .offloading, nextPos := 0, copied := 0, failed := 0, skipped := 0 }).modReader l
                       fun r =>
                       { r with state := .offloading, trips := List.replicate 8 0, analyzer := Analyzer.cleared,
                                lastFault := none,
                                offload := some { card := i, current := none, stop := false, done := none,
                                                  tally := [] } }).consider l))))))) ∧
  (∀ (p : Part) (x : Plan),
     p.planPasses x = true ↔
       x.volumes ≠ [] ∧ 1 ≤ x.required ∧ x.required ≤ x.volumes.length ∧
         ∀ v ∈ x.volumes, ∃ r d, p.volume v = some r ∧ r.role = .archive ∧ r.attach = .online ∧ r.lane = some d ∧
           (p.dest d).state ≠ .full) ∧
  (∀ (p : Part) (l : Fin 6) (x : OffloadCtx) (card : Card),
     (p.reader l).offload = some x → p.card x.card = some card → card.clips.length ≤ 250 →
       let onward := p.modCard x.card fun c => { c with nextPos := card.nextPos + 1 }
       let skip (q : Part) : Part := q.modCard x.card fun c => { c with skipped := c.skipped + 1 }
       let finished (atClip : Bool) : Part :=
         p.modReader l fun r => { r with offload := some { x with done := some atClip } }
       (x.stop = true → p.consider l = finished true) ∧
       (x.stop = false → card.clips[card.nextPos]? = none → p.consider l = finished false) ∧
       ∀ i c, x.stop = false → card.clips[card.nextPos]? = some i → p.clip i = some c →
         (c.isWaived = true → p.consider l = (skip onward).consider l) ∧
         (c.isWaived = false → c.marked = true → card.plan.skipMarked = true →
           p.consider l = (skip (onward.modClip i fun c => { c with custody := .waived .cameraMark })).consider l) ∧
         (c.isWaived = false → c.marked = false ∨ card.plan.skipMarked = false →
           let fan := onward.formFanOut i card.plan
           (c.ingestDigest ≠ none → fan.2 = [] → p.consider l = fan.1.consider l) ∧
           (c.ingestDigest = none ∨ fan.2 ≠ [] →
             p.consider l = fan.1.takeUp l i card.nextPos c fan.2))) ∧
  (∀ (p : Part) (i : Nat) (plan : Plan),
     p.formFanOut i { plan with volumes := [] } = (p, []) ∧
       (p.formFanOut i plan).2.Sublist plan.volumes ∧
       ∀ (vs : List Nat) (v : Nat) (c : Clip),
         let f := p.formFanOut i { plan with volumes := vs }
         f.1.clip i = some c →
           (p.usable v = true → c.writeClaimTaken v = true →
             p.formFanOut i { plan with volumes := vs ++ [v] } =
               (f.1.modClip i fun c => c.claimWrite v .offload, f.2 ++ [v])) ∧
           (p.usable v = false ∨ c.writeClaimTaken v = false →
             p.formFanOut i { plan with volumes := vs ++ [v] } = f)) ∧
  ∀ (p : Part) (l : Fin 6) (i k : Nat) (c : Clip) (vs : List Nat) (x : OffloadCtx), (p.reader l).offload = some x →
    let q := p.takeUp l i k c vs
    (q.reader l).offload.bind (·.current) =
        some { clip := i, pos := k, reread := c.ingestDigest.isSome, fanOut := vs, barred := vs.isEmpty,
               digest := digestStart, next := c.firstBlock } ∧
      (c.ingestDigest = none → (q.reader l).analyzer = Analyzer.cleared) ∧ q.clips = p.clips ∧ q.cards = p.cards

/-- Stop Offload: its refusals; AT_CLIP marks the offload to stop at the next clip, ABORT ends it at once with the
class ABNORMAL and the cause STOPPED. Clear Trip: its refusals; the trip counters of the card's lane go to 0, the card
enters HELD and is evaluated. The drain (R62): with the reading done and no slot held, the offload ends NORMAL,
COMPLETE or STOPPED_AT_CLIP, and not before. How an offload ends (3.6): its request abandoned, its lane out of the slot
queue and in the state given, the termination with the card and its four progress counts, the card HELD and evaluated.
One that is stopped first abandons its current clip (R60): the analyzer cleared, the clip's WRITING entries of origin
OFFLOAD removed, its WAITING writes in the lane's slots cancelled, with every slot that they leave empty. The slots
(R53): a lane with no slot AWAITED wants one for the next block of its current clip with a fan-out, or of a recopy that
it serves in BOUND; those that want one join the tail of the queue, in the order of their numbers (the model's choice,
log 5), none twice. A free slot (which is the model's choice, log 34) goes to the first lane in the queue that holds
fewer than 16, which leaves the queue: AWAITED, for the clip and the block, with one WAITING write for each volume of
the fan-out, or for the recopy's target. After that no slot is free, or no lane that waits holds fewer than 16. -/
def Obligations.OffloadStopped : Prop :=
  (∀ (s : State) (d : Dispatch) (i option : Nat), Dispatched s d (.stopOffload i option) →
     (31 < i ∨ 1 < option → Declines s d (.stopOffload i option) .range) ∧
     (i ≤ 31 → option ≤ 1 → s.part.card i = none → Declines s d (.stopOffload i option) .notFound) ∧
     ∀ card, i ≤ 31 → s.part.card i = some card →
       (option ≤ 1 → card.state ≠ .offloading → Declines s d (.stopOffload i option) .wrongState) ∧
       ∀ l x, card.state = .offloading → s.part.offloadLane i = some l → (s.part.reader l).offload = some x →
         (option = 0 →
           exec (.stopOffload i option) s =
             .next (s.taken d (.bare .ok)
               (s.part.quiet.modReader l fun r =>
                 { r with offload := some (if x.done = none then { x with stop := true } else x) }))) ∧
         (option = 1 →
           exec (.stopOffload i option) s =
             .next (s.taken d (.bare .ok) (s.part.quiet.stopOffload l .bound .abnormal .stopped .none)))) ∧
  (∀ (s : State) (d : Dispatch) (i : Nat), Dispatched s d (.clearTrip i) →
     (31 < i → Declines s d (.clearTrip i) .range) ∧
     (i ≤ 31 → s.part.card i = none → Declines s d (.clearTrip i) .notFound) ∧
     ∀ card, i ≤ 31 → s.part.card i = some card →
       (card.state ≠ .tripped → Declines s d (.clearTrip i) .wrongState) ∧
       (card.state = .tripped → card.lane = none →
         exec (.clearTrip i) s =
           .next (s.taken d (.bare .ok)
             ((s.part.quiet.modCard i fun c => { c with state := .held }).evaluate i))) ∧
       ∀ l, card.state = .tripped → card.lane = some l →
         exec (.clearTrip i) s =
           .next (s.taken d (.bare .ok)
             (((s.part.quiet.modReader l fun r => { r with trips := List.replicate 8 0 }).modCard i fun c =>
               { c with state := .held }).evaluate i))) ∧
  (∀ (p : Part) (l : Fin 6) (x : OffloadCtx), (p.reader l).offload = some x →
     (x.done = none ∨ p.slotsOf l ≠ [] → p.drainEnd l = p) ∧
     ∀ atClip, x.done = some atClip → p.slotsOf l = [] →
       p.drainEnd l = p.endOffload l .bound .normal (if atClip then .stoppedAtClip else .complete) .none) ∧
  (∀ (p : Part) (l : Fin 6) (dst : ReaderState) (cls : TermClass) (cause : Cause) (detail : Detail),
     let freed (r : ReaderLane) : ReaderLane :=
       if r.out.any fun o => o.owner == .offload then { r with out := none, retries := 0 } else r
     p.stopOffload l dst cls cause detail = ((p.modReader l freed).abandonClip l).endOffload l dst cls cause detail ∧
       ∀ x card, (p.reader l).offload = some x → p.card x.card = some card →
         let unqueued : Part := { p with pool := { p.pool with queue := p.pool.queue.filter fun k => k != l } }
         let term : Termination :=
           { cls := cls, op := .offload, cause := cause, ref := .card x.card,
             counts := [card.nextPos, card.copied, card.failed, card.skipped], detail := detail }
         p.endOffload l dst cls cause detail =
           ((unqueued.modReader l fun r =>
             { freed r with state := dst, offload := none, term := { record := some term, unsensed := true } }).modCard
             x.card fun c => { c with state := .held }).evaluate x.card) ∧
  (∀ (p : Part) (l : Fin 6) (x : OffloadCtx), (p.reader l).offload = some x →
     (x.current = none → p.abandonClip l = p) ∧
     ∀ cur c, x.current = some cur → p.clip cur.clip = some c →
       let cleared := p.modReader l fun r => { r with analyzer := Analyzer.cleared }
       let q := ((c.copies.map (·.vol)).filter c.offloadWriting).foldl (fun q v => q.removeWriting cur.clip v) cleared
       let kept : List Slot := q.pool.slots.map fun s =>
         { s with
           writes := s.writes.filter fun w => !(s.lane == l && s.clip == cur.clip && !s.recopy && !w.started) }
       let pool : Pool :=
         { slots := kept.filter fun s => !s.writes.isEmpty, queue := q.pool.queue.filter fun k => k != l }
       p.abandonClip l =
         ({ q with pool := pool } : Part).modReader l fun r =>
           { r with offload := r.offload.map fun y => { y with current := none } }) ∧
  (∀ (p : Part) (l : Fin 6),
     p.wantsSlot l = true ↔
       (∀ s ∈ p.pool.slots, s.lane = l → s.data ≠ none) ∧
         (((p.reader l).state = .offloading ∧
             ∃ x cur, (p.reader l).offload = some x ∧ x.current = some cur ∧ cur.fanOut ≠ []) ∨
           ((p.reader l).state = .bound ∧
             ∃ d x c, (p.reader l).serves = some d ∧ p.recopyOf d = some x ∧ p.clip x.clip = some c ∧
               x.next < c.blockCount))) ∧
  (∀ p : Part,
     p.joinQueue =
       { p with
         pool := { p.pool with
           queue := p.pool.queue ++
             ([0, 1, 2, 3, 4, 5] : List (Fin 6)).filter fun l => p.wantsSlot l && !p.pool.queue.contains l } }) ∧
  (∀ (p : Part) (l : Fin 6) (id : Nat),
     let held (i : Nat) (c : Clip) (block index : Nat) (recopy : Bool) (vs : List Nat) : Slot :=
       { id := id, lane := l, clip := i, key := c.key false, block := block, index := index, recopy := recopy,
         data := none, writes := vs.map fun v => { vol := v, started := false, orphan := false } }
     (∀ x cur c, (p.reader l).state = .offloading → (p.reader l).offload = some x → x.current = some cur →
       p.clip cur.clip = some c →
         p.newSlot l id = some (held cur.clip c cur.next (cur.next - c.firstBlock) false cur.fanOut)) ∧
     ∀ d x c, (p.reader l).state = .bound → (p.reader l).serves = some d → p.recopyOf d = some x →
       p.clip x.clip = some c →
         p.newSlot l id = some (held x.clip c (c.firstBlock + x.next) x.next true [x.target])) ∧
  (∀ (p : Part) (n : Nat),
     let waits := p.pool.queue.find? fun l => decide ((p.slotsOf l).length < 16)
     let left (l : Fin 6) : Part :=
       { p with pool := { p.pool with queue := p.pool.queue.filter fun k => k != l } }
     Part.grantSlots 0 p = p ∧
       (waits = none ∨ p.freeSlotId = none → Part.grantSlots n p = p) ∧
       ∀ l id, waits = some l → p.freeSlotId = some id →
         (p.newSlot l id = none → Part.grantSlots (n + 1) p = Part.grantSlots n (left l)) ∧
         ∀ s, p.newSlot l id = some s →
           Part.grantSlots (n + 1) p =
             Part.grantSlots n
               { p with pool := { slots := p.pool.slots ++ [s], queue := (left l).pool.queue } }) ∧
  (∀ (p : Part) (id : Nat),
     (p.freeSlotId = some id → id < 48 ∧ ∀ s ∈ p.pool.slots, s.id ≠ id) ∧
       (p.freeSlotId = none → ∀ n, n < 48 → ∃ s ∈ p.pool.slots, s.id = n)) ∧
  ∀ p : Part, p.pool.queue.length ≤ 54 →
    let q := Part.grantSlots 54 p
    q.freeSlotId = none ∨ ∀ l ∈ q.pool.queue, 16 ≤ (q.slotsOf l).length

/-- Release Card: refused but in SECURED; else the card is RELEASED with both erase flags clear, CUSTODY is raised, and
the channels that read the card lose their source. Retire Card: its refusals in order; its clips are retired in turn,
its record is freed, the answer carries how many clips it had. What keeps a card from being retired (R21): a lane it is
in, a channel bound to one of its clips, a render entry of one, a copy of one in WRITING or VERIFYING. What the
retirement of one clip leaves (R21): the clip in no verify list, the order of the others kept, its reference to its
look released, its record free, with its copies and faults; every other clip as it was. -/
def Obligations.CardReleasedAndRetired : Prop :=
  (∀ (s : State) (d : Dispatch) (i : Nat), Dispatched s d (.releaseCard i) →
     (s.part.card i = none → Declines s d (.releaseCard i) .notFound) ∧
     ∀ card, s.part.card i = some card →
       (card.state ≠ .secured → Declines s d (.releaseCard i) .wrongState) ∧
       (card.state = .secured →
         exec (.releaseCard i) s =
           .next (s.taken d (.bare .ok)
             (Part.loseAll
               { s.part.quiet with
                 cards := tmod s.part.cards i fun c =>
                   { c with state := .released, erased := false, eraseIncomplete := false }
                 attention := { s.part.attention with custody := true } }
               (.card i))))) ∧
  (∀ (s : State) (d : Dispatch) (i : Nat), Dispatched s d (.retireCard i) →
     (s.part.card i = none → Declines s d (.retireCard i) .notFound) ∧
     ∀ card, s.part.card i = some card →
       (card.state ≠ .released → Declines s d (.retireCard i) .wrongState) ∧
       (card.state = .released → s.part.cardInUse card = true → Declines s d (.retireCard i) .inUse) ∧
       (card.state = .released → s.part.cardInUse card = false →
         exec (.retireCard i) s =
           .next (s.taken d (.withPayload [BitVec.ofNat 8 card.clips.length])
             (let q := card.clips.foldl Part.retireClip s.part.quiet
              { q with cards := q.cards.filter fun e => e.1 != i })))) ∧
  (∀ (p : Part) (card : Card),
     p.cardInUse card = true ↔
       card.lane ≠ none ∨ (∃ c k, (p.channel c).clip = some k ∧ k ∈ card.clips) ∨
         (∃ e ∈ p.render.queue, e.clip ∈ card.clips) ∨
         ∃ k ∈ card.clips, ∃ c e, p.clip k = some c ∧ e ∈ c.copies ∧ (e.state = .writing ∨ e.state = .verifying)) ∧
  ∀ (p : Part) (i : Nat) (c : Clip), p.clip i = some c →
    let unlisted : Part :=
      { p with
        volumes := p.volumes.map fun e => (e.1, { e.2 with verifyList := e.2.verifyList.filter fun k => k != i }) }
    let q := unlisted.refRelease .clips c.look
    p.retireClip i = { q with clips := q.clips.filter fun e => e.1 != i } ∧ (p.retireClip i).clip i = none ∧
      (∀ k, k ≠ i → (p.retireClip i).clip k = p.clip k) ∧
      (c.look = none → q = unlisted) ∧
      ∀ l k, c.look = some l → p.look l = some k → q.look l = some { k with refClips := k.refClips - 1 }

/-- Erase Card: its refusals in order; the card and its lane enter ERASING, and block 1 alone is to be erased first.
Remount: its refusals in order; the lane enters MOUNTING to read block 0. At both the code of the last Fault Answer is
forgotten (the model's inference, log 19); a Remount ends the model's own mark of a restart to come (log 12), and is
ACCEPTED in EMPTY with a mount pending and the termination sensed by the model's choice (log 49). -/
def Obligations.EraseAndRemountStarted : Prop :=
  (∀ (s : State) (d : Dispatch) (i : Nat), Dispatched s d (.eraseCard i) →
     (31 < i → Declines s d (.eraseCard i) .range) ∧
     (i ≤ 31 → s.part.card i = none → Declines s d (.eraseCard i) .notFound) ∧
     ∀ card, i ≤ 31 → s.part.card i = some card →
       (card.state ≠ .released ∨ card.erased = true → Declines s d (.eraseCard i) .wrongState) ∧
       (card.state = .released → card.erased = false →
         (card.lane = none → Declines s d (.eraseCard i) .notPresent) ∧
         ∀ l, card.lane = some l →
           ((s.part.reader l).state ≠ .bound ∨ (s.part.reader l).serves ≠ none →
             Declines s d (.eraseCard i) .busy) ∧
           ((s.part.reader l).state = .bound → (s.part.reader l).serves = none →
             ((s.part.reader l).term.unsensed = true → Declines s d (.eraseCard i) .unsensed) ∧
             ((s.part.reader l).term.unsensed = false →
               (card.writeProtected = true → Declines s d (.eraseCard i) .isProtected) ∧
               (card.writeProtected = false →
                 exec (.eraseCard i) s =
                   .next (s.taken d (.bare .accepted)
                     ((s.part.quiet.modCard i fun c => { c with state := .erasing }).modReader l fun r =>
                       { r with state := .erasing, lastFault := none,
                                erase := some { card := i, form := .run 1 1, erased := 0 } }))))))) ∧
  (∀ (s : State) (d : Dispatch) (n : Nat), Dispatched s d (.remount n) →
     (5 < n → Declines s d (.remount n) .range) ∧
     ∀ l : Fin 6, l.val = n →
       let r := s.part.reader l
       (r.state = .noReader ∨ (r.state = .empty ∧ r.mountPending = false) → Declines s d (.remount n) .notPresent) ∧
       (r.state = .mounting ∨ r.state = .offloading ∨ r.state = .erasing ∨ r.state = .equipment →
         Declines s d (.remount n) .busy) ∧
       (r.state = .blank ∨ r.state = .refused ∨ r.state = .bound ∨ (r.state = .empty ∧ r.mountPending = true) →
         (r.serves ≠ none → Declines s d (.remount n) .busy) ∧
         (r.serves = none → r.term.unsensed = true → Declines s d (.remount n) .unsensed) ∧
         (r.serves = none → r.term.unsensed = false →
           exec (.remount n) s =
             .next (s.taken d (.bare .accepted)
               (s.part.quiet.modReader l fun r =>
                 { r with state := .mounting, mount := some none, mountPending := false, remountOwed := false,
                          lastFault := none })))))

/-! ### Clips and cameras (01) -/

/-- Waive Clip and Unwaive Clip: their refusals; the custody of the clip, and its card evaluated. -/
def Obligations.WaiversSet : Prop :=
  ∀ (s : State) (d : Dispatch) (i : Nat),
    (Dispatched s d (.waiveClip i) →
      (s.part.clip i = none → Declines s d (.waiveClip i) .notFound) ∧
      ∀ c, s.part.clip i = some c →
        (s.part.cardDecided c = true → Declines s d (.waiveClip i) .wrongState) ∧
        (s.part.cardDecided c = false →
          exec (.waiveClip i) s =
            .next (s.taken d (.bare .ok)
              ((s.part.quiet.modClip i fun x => { x with custody := .waived .host }).evaluate c.card)))) ∧
    (Dispatched s d (.unwaiveClip i) →
      (s.part.clip i = none → Declines s d (.unwaiveClip i) .notFound) ∧
      ∀ c, s.part.clip i = some c →
        (s.part.cardDecided c = true ∨ c.custody = .normal → Declines s d (.unwaiveClip i) .wrongState) ∧
        (s.part.cardDecided c = false → c.custody ≠ .normal →
          exec (.unwaiveClip i) s =
            .next (s.taken d (.bare .ok)
              ((s.part.quiet.modClip i fun x => { x with custody := .normal }).evaluate c.card))))

/-- Assign Look, Set Camera Default and Retire Camera: their refusals, the naming they change, and the references they
move. References move one count of one kind: a release lowers the old look's and stops at 0, a take raises the new
look's, the same look twice moves nothing. -/
def Obligations.LookNamingsMoved : Prop :=
  (∀ (s : State) (d : Dispatch) (look : Option Nat),
     (∀ i, Dispatched s d (.assignLook i look) →
       ((∃ l, look = some l ∧ 63 < l) → Declines s d (.assignLook i look) .range) ∧
       ((∀ l, look = some l → l ≤ 63) →
         (s.part.clip i = none ∨ (∃ l, look = some l ∧ s.part.look l = none) →
           Declines s d (.assignLook i look) .notFound) ∧
         ∀ c, s.part.clip i = some c → (∀ l, look = some l → s.part.look l ≠ none) →
           exec (.assignLook i look) s =
             .next (s.taken d (.bare .ok)
               ((s.part.quiet.modClip i fun x => { x with look := look }).refMove .clips c.look look)))) ∧
     (∀ n, Dispatched s d (.setCameraDefault n look) →
       (¬ (65 ≤ n ∧ n ≤ 90) ∨ (∃ l, look = some l ∧ 63 < l) → Declines s d (.setCameraDefault n look) .range) ∧
       (65 ≤ n → n ≤ 90 → (∀ l, look = some l → l ≤ 63) →
         (s.part.cameraOf n = none ∨ (∃ l, look = some l ∧ s.part.look l = none) →
           Declines s d (.setCameraDefault n look) .notFound) ∧
         ∀ i cam, s.part.cameraOf n = some (i, cam) → (∀ l, look = some l → s.part.look l ≠ none) →
           exec (.setCameraDefault n look) s =
             .next (s.taken d (.bare .ok)
               (Part.refMove
                 { s.part.quiet with cameras := tmod s.part.cameras i fun c => { c with defaultLook := look } }
                 .cameras cam.defaultLook look)))) ∧
     (∀ n, Dispatched s d (.retireCamera n) →
       (s.part.cameraOf n = none → Declines s d (.retireCamera n) .notFound) ∧
       ∀ i cam, s.part.cameraOf n = some (i, cam) →
         ((∃ e ∈ s.part.cards, e.2.id.letter = n) → Declines s d (.retireCamera n) .inUse) ∧
         ((∀ e ∈ s.part.cards, e.2.id.letter ≠ n) →
           exec (.retireCamera n) s =
             .next (s.taken d (.bare .ok)
               (Part.refRelease { s.part.quiet with cameras := s.part.cameras.filter fun e => e.1 != i } .cameras
                 cam.defaultLook))))) ∧
  (∀ (p : Part) (kind : RefKind) (old new : Option Nat),
     (old = new → p.refMove kind old new = p) ∧
     (∀ a b ka kb, old = some a → new = some b → a ≠ b → p.look a = some ka → p.look b = some kb →
       (p.refMove kind old new).look a = some (ka.moveRef kind fun n => n - 1) ∧
       (p.refMove kind old new).look b = some (kb.moveRef kind fun n => n + 1) ∧
       (∀ l, l ≠ a → l ≠ b → (p.refMove kind old new).look l = p.look l)) ∧
     (∀ b kb, old = none → new = some b → p.look b = some kb →
       (p.refMove kind old new).look b = some (kb.moveRef kind fun n => n + 1)) ∧
     (∀ a ka, old = some a → new = none → p.look a = some ka →
       (p.refMove kind old new).look a = some (ka.moveRef kind fun n => n - 1)))

/-! ### Faults and the known-defect map (06) -/

/-- Acknowledge Fault: its refusals; an OPEN entry becomes ACKNOWLEDGED and its card is evaluated, an entry already
ACKNOWLEDGED stays; the answer carries its count and saturated flag. A merge into a fault set: a raise with no entry of
its key becomes an OPEN entry in key order; a raise with one adds to its count, stopping at 127 with the saturated flag
set, opens it, keeps its first frame and first site, and takes the raise's detail when it has one; the entries of other
keys stay. A raise for a clip that is free, or a COPY_MISMATCH raise for a volume that is free, is discarded. A merge
that opens an entry raises the open-fault counter by 1, raises FAULTS and evaluates the clip's card; one that does not
opens nothing. A fifth COPY_MISMATCH key first displaces one entry, of those whose volume holds no copy of the clip:
the lowest ACKNOWLEDGED one, else the lowest OPEN one; with none to displace, or for any other raise, nothing is
displaced. -/
def Obligations.FaultAcknowledged : Prop :=
  (∀ (s : State) (d : Dispatch) (i n v : Nat), Dispatched s d (.acknowledgeFault i n v) →
     (n = 0 ∨ 8 < n ∨ 1023 < i ∨ (n = 6 ∧ 7 < v) → Declines s d (.acknowledgeFault i n v) .range) ∧
     ∀ k, faultKindOf n = some k → i ≤ 1023 → (k = .copyMismatch → v ≤ 7) →
       let key := if k = .copyMismatch then v else 0
       (s.part.clip i = none → Declines s d (.acknowledgeFault i n v) .notFound) ∧
       ∀ c, s.part.clip i = some c →
         (c.faultWith k key = none → Declines s d (.acknowledgeFault i n v) .notFound) ∧
         ∀ f, c.faultWith k key = some f →
           (f.state = .acknowledged →
             exec (.acknowledgeFault i n v) s =
               .next (s.taken d (.withPayload (countByte f.count f.saturated)) s.part.quiet)) ∧
           (f.state = .opened →
             exec (.acknowledgeFault i n v) s =
               .next (s.taken d (.withPayload (countByte f.count f.saturated))
                 ((s.part.quiet.modClip i fun c =>
                   { c with
                     faults := c.faults.map fun g =>
                       if g.kind == k && g.vol == key then { g with state := .acknowledged } else g }).evaluate c.card)))) ∧
  (∀ (c : Clip) (r : Raise),
     (c.faultWith r.kind r.vol = none →
       (c.merged r).faults = insertFault c.faults r.entry ∧ r.entry.state = .opened ∧ c.opens r = true) ∧
     ∀ f, c.faultWith r.kind r.vol = some f →
       (∃ g, (c.merged r).faultWith r.kind r.vol = some g ∧ g.state = .opened ∧
         g.count = min (f.count + r.count) 127 ∧
         (g.saturated = true ↔ f.saturated = true ∨ r.saturated = true ∨ 127 < f.count + r.count) ∧
         g.firstFrame = f.firstFrame ∧ g.firstSite = f.firstSite ∧
         g.detail = (if r.detail = none then f.detail else r.detail)) ∧
       (c.opens r = true ↔ f.state = .acknowledged) ∧
       (c.merged r).faults.length = c.faults.length) ∧
  (∀ (c : Clip) (r : Raise) (k : FaultKind) (v : Nat), ¬ (k = r.kind ∧ v = r.vol) →
     (c.merged r).faultWith k v = c.faultWith k v) ∧
  (∀ (p : Part) (i : Nat) (r : Raise),
     (p.clip i = none ∨ (r.kind = .copyMismatch ∧ p.volume r.vol = none) → p.mergeFault i r = p) ∧
     ∀ c, p.clip i = some c → (r.kind = .copyMismatch → p.volume r.vol ≠ none) →
       let crowded : Prop :=
         r.kind = .copyMismatch ∧ c.faultWith .copyMismatch r.vol = none ∧
           4 ≤ (c.faults.filter fun f => f.kind == .copyMismatch).length
       let withEntry (q : Part) : Part := q.modClip i fun x => x.merged r
       let opened (q : Part) : Part :=
         Part.evaluate
           { q with
             fault := { q.fault with opened := q.fault.opened + 1 }
             attention := { q.attention with faults := true } }
           c.card
       (¬ crowded → c.opens r = true → p.mergeFault i r = opened (withEntry p)) ∧
       (¬ crowded → c.opens r = false → p.mergeFault i r = withEntry p) ∧
       (crowded → c.displaced = none → p.mergeFault i r = opened (withEntry p)) ∧
       ∀ v, crowded → c.displaced = some v →
         p.mergeFault i r =
           opened (withEntry
             ((p.modClip i fun x =>
               { x with faults := x.faults.filter fun f => !(f.kind == .copyMismatch && f.vol == v) }).evaluate c.card))) ∧
  (∀ (c : Clip) (v : Nat),
     c.faults.Pairwise (fun f g => keyBefore f.kind f.vol g.kind g.vol = true) → c.displaced = some v →
       let free (f : FaultEntry) : Prop := f ∈ c.faults ∧ f.kind = .copyMismatch ∧ c.copyOn f.vol = none
       ∃ f, free f ∧ f.vol = v ∧
         ((f.state = .acknowledged ∧ ∀ g, free g → g.state = .acknowledged → v ≤ g.vol) ∨
           (f.state = .opened ∧ ∀ g, free g → g.state = .opened ∧ v ≤ g.vol))) ∧
  ∀ c : Clip, (c.displaced = none ↔ ∀ f ∈ c.faults, f.kind = .copyMismatch → c.copyOn f.vol ≠ none)

/-- Set Policy: the ranges of the entry's fields by kind, what is stored, and the evaluation of every card when
holds_release changes. -/
def Obligations.PolicySet : Prop :=
  ∀ (s : State) (d : Dispatch) (n : Nat) (e h : Bool) (t a b : Nat), Dispatched s d (.setPolicy n e h t a b) →
    (n = 0 ∨ 8 < n ∨ 15 < t → Declines s d (.setPolicy n e h t a b) .range) ∧
    (n = 1 → (a < 8 ∨ 255 < a ∨ 1023 < b) → Declines s d (.setPolicy n e h t a b) .range) ∧
    (n = 2 → (a < 1 ∨ 1000 < a ∨ b < 1 ∨ 255 < b) → Declines s d (.setPolicy n e h t a b) .range) ∧
    (n = 3 → (1023 < a ∨ b < 1 ∨ 255 < b) → Declines s d (.setPolicy n e h t a b) .range) ∧
    (5 ≤ n → n ≤ 8 → (e = false ∨ h = false) → Declines s d (.setPolicy n e h t a b) .range) ∧
    (n = 6 → t ≠ 0 → Declines s d (.setPolicy n e h t a b) .range) ∧
    ∀ k, faultKindOf n = some k → t ≤ 15 →
      (n = 1 → 8 ≤ a ∧ a ≤ 255 ∧ b ≤ 1023) →
      (n = 2 → 1 ≤ a ∧ a ≤ 1000 ∧ 1 ≤ b ∧ b ≤ 255) →
      (n = 3 → a ≤ 1023 ∧ 1 ≤ b ∧ b ≤ 255) →
      (5 ≤ n → e = true ∧ h = true) → (n = 6 → t = 0) →
        let stored : Policy :=
          { enabled := e, holds := h, trip := t, first := if n ≤ 3 then a else 0, second := if n ≤ 3 then b else 0 }
        let q : Part :=
          { s.part.quiet with fault := { s.part.fault with policy := s.part.fault.policy.set (n - 1) stored } }
        exec (.setPolicy n e h t a b) s =
          .next (s.taken d (.bare .ok) (if (s.part.policy k).holds = h then q else q.evaluateAll))

/-- Add Defect, Remove Defect and Adopt Defect: their refusals in order and their effect on the known-defect map. The
one byte of the index that Add Defect and Adopt Defect answer is the model's choice (log 10). The frame analyzer that
uses the map, for a clip of a lane's offload. A block joins the frame in progress, the first one giving the timecode;
the frame closes at a block with the frame-end mark, at its 16th block or at the clip's last (R117). A closed frame
takes the next number, and is evaluated in this order, a trip ending the evaluation (R129): trackers, CLIP_HIGH,
BLACK_FRAME, timecode. A frame of exactly width times height sites is whole (also one closed at its 16th block without
the mark or cut off by the clip's last block, which is the model's choice, log 56); a short one frees every tracker and
meets no condition of a detector. The extreme sites (R118), in row order. The trackers of a whole frame (R120): a tracker
whose site is extreme at its code raises its run, stopping at 255, any other becomes FREE; each TRACKING one at the
stuck run threshold becomes SUSPECT and is checked (R121), in the order of their numbers (the model's choice, log 47),
the lowest entry of the map that covers its site raising its hits, stopping at 255, or else STUCK_SITE raised with its
site and its first frame; each extreme site not held is taken by the lowest FREE tracker, or sets tracker_overflow. The
two detectors (R126, R127): the run of frames that meet the condition, stopping at 255, and one raise at the threshold
while armed and enabled, which disarms; a disabled kind stays armed while it runs on (the model's inference, log 44);
any other frame arms. The timecode (R128): the frame base of the rate, what is valid, the one frame on, and FRAME_GAP
for one that is invalid or not the expected one. A raise (R129) of a disabled kind is dropped; else it joins the
buffer's entry of its kind, stopping at 127 with saturated set, or is added in the order of the kinds, and counts
toward the trip. -/
def Obligations.DefectsMapped : Prop :=
  (∀ (s : State) (d : Dispatch),
    let map := s.part.fault.defects
    let same (x : Defect) : Prop :=
      ∃ e ∈ map, e.2.letter = x.letter ∧ e.2.x = x.x ∧ e.2.y = x.y ∧ e.2.xmask = x.xmask ∧ e.2.ymask = x.ymask
    let full : Prop := ∀ m, m < 128 → tget map m ≠ none
    let lowest (i : Nat) : Prop := i < 128 ∧ tget map i = none ∧ ∀ m, m < i → tget map m ≠ none
    (∀ n x y mx my, Dispatched s d (.addDefect n x y mx my) →
      let new : Defect := { letter := n, x := x &&& mx, y := y &&& my, xmask := mx, ymask := my, hits := 0 }
      (¬ (65 ≤ n ∧ n ≤ 90 ∧ x ≤ 8191 ∧ y ≤ 8191 ∧ mx ≤ 8191 ∧ my ≤ 8191) →
        Declines s d (.addDefect n x y mx my) .range) ∧
      (65 ≤ n → n ≤ 90 → x ≤ 8191 → y ≤ 8191 → mx ≤ 8191 → my ≤ 8191 →
        (same new → Declines s d (.addDefect n x y mx my) .duplicate) ∧
        (¬ same new → full → Declines s d (.addDefect n x y mx my) .tableFull) ∧
        ∀ i, ¬ same new → lowest i →
          exec (.addDefect n x y mx my) s =
            .next (s.taken d (.withPayload [BitVec.ofNat 8 i])
              { s.part.quiet with
                fault := { s.part.fault with defects := tset map i new } }))) ∧
    (∀ i, Dispatched s d (.removeDefect i) →
      (127 < i → Declines s d (.removeDefect i) .range) ∧
      (i ≤ 127 → tget map i = none → Declines s d (.removeDefect i) .notFound) ∧
      (i ≤ 127 → tget map i ≠ none →
        exec (.removeDefect i) s =
          .next (s.taken d (.bare .ok)
            { s.part.quiet with
              fault := { s.part.fault with defects := map.filter fun e => e.1 != i } }))) ∧
    (∀ i, Dispatched s d (.adoptDefect i) →
      (1023 < i → Declines s d (.adoptDefect i) .range) ∧
      (i ≤ 1023 → s.part.clip i = none → Declines s d (.adoptDefect i) .notFound) ∧
      ∀ c, i ≤ 1023 → s.part.clip i = some c →
        ((c.faultWith .stuckSite 0).bind (·.firstSite) = none → Declines s d (.adoptDefect i) .notFound) ∧
        ∀ x y, (c.faultWith .stuckSite 0).bind (·.firstSite) = some (x, y) →
          let new : Defect := newDefect c.ident.letter x y 8191 8191
          (same new → Declines s d (.adoptDefect i) .duplicate) ∧
          (¬ same new → full → Declines s d (.adoptDefect i) .tableFull) ∧
          ∀ k, ¬ same new → lowest k →
            exec (.adoptDefect i) s =
              .next (s.taken d (.withPayload [BitVec.ofNat 8 k])
                (Part.acknowledge
                  { s.part.quiet with fault := { s.part.fault with defects := tset map k new } }
                  i .stuckSite 0)))) ∧
  (∀ (p : Part) (l : Fin 6) (i : Nat) (c : Clip) (b : Block) (last : Bool),
     let a := (p.reader l).analyzer
     let gathered : FrameAcc :=
       if a.acc.blocks = 0 then
         { blocks := 1, data := b.frameData, timecode := b.headTimecode, width := b.headWidth, height := b.headHeight }
       else { a.acc with blocks := a.acc.blocks + 1, data := a.acc.data ++ b.frameData }
     let q := p.modReader l fun r => { r with analyzer := { r.analyzer with acc := gathered } }
     (b.frameEnd = true ∨ 16 ≤ gathered.blocks ∨ last = true →
       p.analyze l i c b last = q.evaluateFrame l i c gathered) ∧
     (b.frameEnd = false → gathered.blocks < 16 → last = false → p.analyze l i c b last = (q, none))) ∧
  (∀ (p : Part) (l : Fin 6) (i : Nat) (c : Clip) (acc : FrameAcc),
     let r := p.reader l
     let number := r.analyzer.closed
     let sites := sitesOf acc.data
     let whole : Bool := sites.length == r.width * r.height
     let clipped := (sites.filter fun x => x == 1023).length * 1000 / sites.length
     let mean := sites.sum / sites.length
     let q := p.modReader l fun r =>
       { r with analyzer := { r.analyzer with acc := FrameAcc.start, closed := r.analyzer.closed + 1 } }
     let onward (x : Part × Option Trip) (f : Part → Part × Option Trip) : Part × Option Trip :=
       match x.2 with
       | some _ => x
       | none => f x.1
     let tracked :=
       if whole then
         q.updateTrackers l i c.ident.letter number
           (extremeSites (rowsOf r.width r.height sites) r.width r.height (p.policy .stuckSite).second)
       else
         (q.modReader l fun r =>
           { r with analyzer := { r.analyzer with trackers := r.analyzer.trackers.map fun _ => none } }, none)
     p.evaluateFrame l i c acc =
       onward
         (onward
           (onward tracked fun q =>
             q.detectClipped l number (whole && decide ((q.policy .clipHigh).first ≤ clipped)))
           fun q => q.detectBlack l number (whole && decide (mean ≤ (q.policy .blackFrame).first)))
         fun q => q.checkTimecode l c number acc.timecode) ∧
  (∀ (w h : Nat) (sites : List Nat) (x y : Nat), x < w → y < h →
     siteAt (rowsOf w h sites) x y = sites.getD (w * y + x) 0) ∧
  (∀ (rows : List (List Nat)) (w h limit : Nat),
     (extremeSites rows w h limit).Pairwise (fun e f => e.2.1 < f.2.1 ∨ (e.2.1 = f.2.1 ∧ e.1 < f.1)) ∧
       ∀ x y code, (x, y, code) ∈ extremeSites rows w h limit ↔
         2 ≤ x ∧ x + 2 < w ∧ 2 ≤ y ∧ y + 2 < h ∧ code = siteAt rows x y ∧ (code = 0 ∨ code = 1023) ∧
           ∀ n ∈ [siteAt rows (x - 2) y, siteAt rows (x + 2) y, siteAt rows x (y - 2), siteAt rows x (y + 2)],
             limit < (code - n) + (n - code)) ∧
  (∀ (p : Part) (l : Fin 6) (i letter frame : Nat) (extremes : List (Nat × Nat × Nat)),
     let place (q : Part) (ts : List (Option Tracker)) : Part :=
       q.modReader l fun r => { r with analyzer := { r.analyzer with trackers := ts } }
     let kept := (p.reader l).analyzer.trackers.map fun t => t.bind fun t =>
       if (t.x, t.y, t.code) ∈ extremes then some { t with run := min (t.run + 1) 255 } else none
     let checked := Part.suspects l letter (p.policy .stuckSite).first kept 0 (place p kept)
     let taken := extremes.foldl (takeSite frame) ((checked.1.reader l).analyzer.trackers, false)
     (∀ trip, checked.2 = some trip → p.updateTrackers l i letter frame extremes = checked) ∧
       (checked.2 = none → taken.2 = false →
         p.updateTrackers l i letter frame extremes = (place checked.1 taken.1, none)) ∧
       (checked.2 = none → taken.2 = true →
         p.updateTrackers l i letter frame extremes =
           ((place checked.1 taken.1).modClip i fun c => { c with trackerOverflow := true }, none))) ∧
  (∀ (l : Fin 6) (letter limit : Nat) (ts : List (Option Tracker)) (n : Nat) (p : Part),
     let rest (q : Part) : Part × Option Trip := Part.suspects l letter limit ts (n + 1) q
     Part.suspects l letter limit [] n p = (p, none) ∧
       Part.suspects l letter limit (none :: ts) n p = rest p ∧
       ∀ t : Tracker,
         (t.suspect = true ∨ t.run < limit → Part.suspects l letter limit (some t :: ts) n p = rest p) ∧
         (t.suspect = false → limit ≤ t.run →
           let q := p.modReader l fun r =>
             { r with analyzer := { r.analyzer with
                        trackers := r.analyzer.trackers.set n (some { t with suspect := true }) } }
           let found := p.fault.defects.find? fun e =>
             e.2.letter == letter && (t.x &&& e.2.xmask) == e.2.x && (t.y &&& e.2.ymask) == e.2.y
           let raised := q.imageRaise l .stuckSite t.first (some (t.x, t.y))
           (∀ k d, found = some (k, d) →
             Part.suspects l letter limit (some t :: ts) n p =
               rest { q with
                 fault := { q.fault with
                   defects := tmod q.fault.defects k fun d => { d with hits := min (d.hits + 1) 255 } } }) ∧
           (found = none → raised.2 = none → Part.suspects l letter limit (some t :: ts) n p = rest raised.1) ∧
           ∀ trip, found = none → raised.2 = some trip →
             Part.suspects l letter limit (some t :: ts) n p = raised)) ∧
  (∀ (frame x y code : Nat) (ts : List (Option Tracker)) (ignored : Bool),
     ((∃ t, some t ∈ ts ∧ t.x = x ∧ t.y = y) → takeSite frame (ts, ignored) (x, y, code) = (ts, ignored)) ∧
     ((∀ t, some t ∈ ts → t.x ≠ x ∨ t.y ≠ y) →
       (none ∉ ts → takeSite frame (ts, ignored) (x, y, code) = (ts, true)) ∧
       ∀ front back, ts = front ++ none :: back → none ∉ front →
         takeSite frame (ts, ignored) (x, y, code) =
           (front ++ some { x := x, y := y, code := code, run := 1, first := frame, suspect := false } :: back,
             ignored))) ∧
  (∀ (p : Part) (l : Fin 6) (frame : Nat) (met : Bool),
     let a := (p.reader l).analyzer
     (let run := if met then min (a.clipRun + 1) 255 else 0
      let limit := (p.policy .clipHigh).second
      let next (armed : Bool) : Part := p.modReader l fun r =>
        { r with analyzer := { r.analyzer with clipRun := run, clipArmed := armed } }
      (met = true → limit ≤ run → a.clipArmed = true → (p.policy .clipHigh).enabled = true →
        p.detectClipped l frame met = (next false).imageRaise l .clipHigh frame none) ∧
      (met = true → run < limit ∨ a.clipArmed = false ∨ (p.policy .clipHigh).enabled = false →
        p.detectClipped l frame met = (next a.clipArmed, none)) ∧
      (met = false → p.detectClipped l frame met = (next true, none))) ∧
     (let run := if met then min (a.blackRun + 1) 255 else 0
      let limit := (p.policy .blackFrame).second
      let next (armed : Bool) : Part := p.modReader l fun r =>
        { r with analyzer := { r.analyzer with blackRun := run, blackArmed := armed } }
      (met = true → limit ≤ run → a.blackArmed = true → (p.policy .blackFrame).enabled = true →
        p.detectBlack l frame met = (next false).imageRaise l .blackFrame frame none) ∧
      (met = true → run < limit ∨ a.blackArmed = false ∨ (p.policy .blackFrame).enabled = false →
        p.detectBlack l frame met = (next a.blackArmed, none)) ∧
      (met = false → p.detectBlack l frame met = (next true, none)))) ∧
  ((List.range 7).map frameBase = [none, some 24, some 25, some 30, some 48, some 50, some 60] ∧
     ∀ n, 6 < n → frameBase n = none) ∧
  (∀ (t : Timecode) (n base : Nat), frameBase n = some base →
     (t.valid base = true ↔ t.hours < 24 ∧ t.minutes < 60 ∧ t.seconds < 60 ∧ t.frames < base) ∧
     (t.valid base = true →
       let count (u : Timecode) : Nat := ((u.hours * 60 + u.minutes) * 60 + u.seconds) * base + u.frames
       (t.oneOn base).valid base = true ∧ count (t.oneOn base) = (count t + 1) % (86400 * base))) ∧
  (∀ (p : Part) (l : Fin 6) (c : Clip) (frame : Nat) (t : Timecode),
     let place (x : Option Timecode) : Part :=
       p.modReader l fun r => { r with analyzer := { r.analyzer with reference := x } }
     (frameBase c.rate = none → p.checkTimecode l c frame t = (p, none)) ∧
     ∀ base, frameBase c.rate = some base →
       let expected : Option Timecode :=
         if frame = 0 then (if c.start.valid base then some c.start else none)
         else (p.reader l).analyzer.reference.map fun u => u.oneOn base
       (t.valid base = false → p.checkTimecode l c frame t = (place none).imageRaise l .frameGap frame none) ∧
       (t.valid base = true → expected = none ∨ expected = some t →
         p.checkTimecode l c frame t = (place (some t), none)) ∧
       ∀ u, t.valid base = true → expected = some u → u ≠ t →
         p.checkTimecode l c frame t = (place (some t)).imageRaise l .frameGap frame none) ∧
  (∀ (p : Part) (l : Fin 6) (k : FaultKind) (frame : Nat) (site : Option (Nat × Nat)),
     ((p.policy k).enabled = false → p.imageRaise l k frame site = (p, none)) ∧
     ((p.policy k).enabled = true →
       p.imageRaise l k frame site =
         (p.modReader l fun r =>
           { r with analyzer := { r.analyzer with
                      buffer := bufferRaise r.analyzer.buffer k frame site } }).countRaise l k)) ∧
  ∀ (buffer : List PendingFault) (k : FaultKind) (frame : Nat) (site : Option (Nat × Nat)),
    let new : PendingFault := { kind := k, count := 1, saturated := false, firstFrame := frame, firstSite := site }
    ((∃ f ∈ buffer, f.kind = k) →
      bufferRaise buffer k frame site =
        buffer.map fun f =>
          if f.kind = k then
            { f with count := min (f.count + 1) 127, saturated := f.saturated || decide (127 < f.count + 1) }
          else f) ∧
    ((∀ f ∈ buffer, f.kind ≠ k) →
      ∃ front back, buffer = front ++ back ∧ bufferRaise buffer k frame site = front ++ new :: back ∧
        (∀ f ∈ front, f.kind.index ≤ k.index) ∧ ∀ f rest, back = f :: rest → k.index < f.kind.index)

/-! ### Copies and volumes (04, 05) -/

/-- Verify Copy: its refusals in order; a WRITTEN copy leaves the verify list, and the verify starts with the copy
VERIFYING and its first read queued. The sweep starts the same way with the head of the verify list of a volume bound
and in AUTO, when no sweep is in flight. -/
def Obligations.VerifyStarted : Prop :=
  (∀ (s : State) (d : Dispatch) (i v : Nat), Dispatched s d (.verifyCopy i v) →
    (1023 < i ∨ 7 < v → Declines s d (.verifyCopy i v) .range) ∧
    (i ≤ 1023 → v ≤ 7 →
      (s.part.clip i = none ∨ s.part.volume v = none ∨ s.part.copyState i v = none →
        Declines s d (.verifyCopy i v) .notFound) ∧
      ∀ r st, s.part.clip i ≠ none → s.part.volume v = some r → s.part.copyState i v = some st →
        (r.attach = .detached ∨ r.lane = none → Declines s d (.verifyCopy i v) .notPresent) ∧
        ∀ l, r.attach ≠ .detached → r.lane = some l →
          ((s.part.dest l).explicit ≠ none ∨ st = .writing ∨ st = .verifying →
            Declines s d (.verifyCopy i v) .busy) ∧
          ((s.part.dest l).explicit = none → st ≠ .writing → st ≠ .verifying →
            ((s.part.dest l).term.unsensed = true → Declines s d (.verifyCopy i v) .unsensed) ∧
            ((s.part.dest l).term.unsensed = false →
              exec (.verifyCopy i v) s =
                .next (s.taken d (.bare .accepted)
                  (let x : VerifyCtx :=
                    { clip := i, vol := v, prior := st, next := 0, digest := digestStart, read := 0 }
                   let p :=
                    if st = .written then
                      s.part.quiet.modVolume v fun r =>
                        { r with verifyList := r.verifyList.filter fun k => k != i }
                    else s.part.quiet
                   (((p.modDest l fun r => { r with explicit := some (.verify x) }).queueVerify l true i 0).copyTo i v
                     .verifying))))))) ∧
  ∀ (p : Part) (d : Fin 4) (v : Nat) (r : Volume), p.boundVolume d = some v → p.volume v = some r →
    let free : Prop := r.attach ≠ .detached ∧ r.mode = .auto ∧ (p.dest d).sweep = none
    (r.verifyList = [] → p.takeSweep d = p) ∧
    ∀ i rest, r.verifyList = i :: rest →
      (¬ free → p.takeSweep d = p) ∧
      (free →
        let x : VerifyCtx := { clip := i, vol := v, prior := .written, next := 0, digest := digestStart, read := 0 }
        p.takeSweep d =
          ((((p.modVolume v fun r => { r with verifyList := rest }).modDest d fun r =>
            { r with sweep := some x }).queueVerify d false i 0).copyTo i v .verifying))

/-- Recopy: its refusals in order; it starts with the source that R103 gives: the lowest-index attached volume other
than the target on which the clip's entry is VERIFIED, else the clip's card in a BOUND lane that serves no recopy, not
RELEASED, ERASING or erased, else none. What the start of a recopy does: the clip's entry on the target is WRITING of
origin RECOPY, in its old place or at the end, and the target's lane holds the recopy with its clip, its target and its
source, nothing read and nothing written. From a card, the card's reader lane serves the recopy; from a volume, its
first read joins the recopy reads of the source's lane. -/
def Obligations.RecopyStarted : Prop :=
  (∀ (s : State) (d : Dispatch) (i v : Nat), Dispatched s d (.recopy i v) →
     (1023 < i ∨ 7 < v → Declines s d (.recopy i v) .range) ∧
     (i ≤ 1023 → v ≤ 7 →
       (s.part.clip i = none ∨ s.part.volume v = none → Declines s d (.recopy i v) .notFound) ∧
       ∀ c r, s.part.clip i = some c → s.part.volume v = some r →
         (r.attach = .detached ∨ r.lane = none → Declines s d (.recopy i v) .notPresent) ∧
         ∀ l, r.attach ≠ .detached → r.lane = some l →
           (r.role = .proxy ∨ r.attach = .onlineReadonly → Declines s d (.recopy i v) .readonly) ∧
           (r.role = .archive → r.attach = .online →
             ((s.part.dest l).explicit ≠ none → Declines s d (.recopy i v) .busy) ∧
             ((s.part.dest l).explicit = none → (s.part.dest l).term.unsensed = true →
               Declines s d (.recopy i v) .unsensed) ∧
             ((s.part.dest l).explicit = none → (s.part.dest l).term.unsensed = false →
               let free := c.ingestDigest ≠ none ∧ (∀ e, c.copyOn v = some e → e.state.isFailed = true) ∧
                 (s.part.dest l).state ≠ .full
               (¬ free → Declines s d (.recopy i v) .wrongState) ∧
               (free → c.copyOn v = none → 4 ≤ c.copies.length → Declines s d (.recopy i v) .copyListFull) ∧
               (free → (c.copyOn v ≠ none ∨ c.copies.length < 4) →
                 (s.part.recopySource i v = none → Declines s d (.recopy i v) .noSource) ∧
                 ∀ src, s.part.recopySource i v = some src →
                   exec (.recopy i v) s =
                     .next (s.taken d (.bare .accepted) (s.part.quiet.startRecopy l i v src))))))) ∧
  (∀ (p : Part) (i v : Nat),
     let proves (w : Nat) : Prop :=
       w ≤ 7 ∧ w ≠ v ∧ (∃ r, p.volume w = some r ∧ r.attach ≠ .detached) ∧
         ∃ c e, p.clip i = some c ∧ c.copyOn w = some e ∧ e.state = .verified
     let serves (l : Fin 6) (k : Nat) : Prop :=
       ∃ c card, p.clip i = some c ∧ c.card = k ∧ p.card k = some card ∧ card.lane = some l ∧
         (p.reader l).state = .bound ∧ (p.reader l).serves = none ∧ card.state ≠ .released ∧ card.state ≠ .erasing ∧
         card.erased = false
     (∀ w, p.recopySource i v = some (.volume w) ↔ proves w ∧ ∀ u, u < w → ¬ proves u) ∧
       (∀ l k, p.recopySource i v = some (.card l k) ↔ (∀ w, ¬ proves w) ∧ serves l k) ∧
       (p.recopySource i v = none ↔ (∀ w, ¬ proves w) ∧ ∀ l k, ¬ serves l k)) ∧
  (∀ (c : Clip) (v : Nat),
     (c.copyOn v = none →
       (c.claimWrite v .recopy).copies = c.copies ++ [{ vol := v, state := .writing, origin := .recopy }]) ∧
     (∀ e, c.copyOn v = some e →
       (c.claimWrite v .recopy).copyOn v = some { vol := v, state := .writing, origin := .recopy } ∧
       (c.claimWrite v .recopy).copies.map (·.vol) = c.copies.map (·.vol) ∧
       ∀ w, w ≠ v → (c.claimWrite v .recopy).copyOn w = c.copyOn w) ∧
     (c.writeClaimTaken v = true ↔
       (c.copyOn v = none ∧ c.copies.length < 4) ∨ ∃ e m, c.copyOn v = some e ∧ e.state = .failed m)) ∧
  (∀ (p : Part) (l : Fin 4) (i v : Nat) (src : RecopySource) (c : Clip), p.clip i = some c →
     let q := p.startRecopy l i v src
     (q.dest l).explicit =
         some (.recopy { clip := i, target := v, source := src, next := 0, digest := digestStart, written := 0 }) ∧
       q.clip i = some (c.claimWrite v .recopy) ∧
       (∀ j, j ≠ i → q.clip j = p.clip j) ∧
       (∀ r k, src = .card r k → (q.reader r).serves = some l ∧ ∀ m, m ≠ l → q.dest m = p.dest m) ∧
       ∀ w, src = .volume w →
         (∀ r, q.reader r = p.reader r) ∧
         ∀ e, p.volumeLane w = some e →
           (q.dest e).recopies = (p.dest e).recopies ++ [.read l (c.key false) 0])

/-- Set Verify Mode and Set Role: their refusals in order and their effect. The mode already held changes nothing; a
change to AUTO starts the sweep of a bound volume at once, also while the lane awaits the Identify Answer after a reset
(the model's inference, log 39). A volume that turns PROXY is lost to the offloads that have it in their plan; the
render queue is examined. -/
def Obligations.VolumeSettings : Prop :=
  ∀ (s : State) (d : Dispatch) (v n : Nat),
    (Dispatched s d (.setVerifyMode v n) →
      (1 < n ∨ 7 < v → Declines s d (.setVerifyMode v n) .range) ∧
      (n ≤ 1 → v ≤ 7 → s.part.volume v = none → Declines s d (.setVerifyMode v n) .notFound) ∧
      ∀ r, n ≤ 1 → v ≤ 7 → s.part.volume v = some r →
        let mode : VerifyMode := if n = 0 then .auto else .paused
        let q := s.part.quiet.modVolume v fun r => { r with mode := mode }
        (r.mode = mode → exec (.setVerifyMode v n) s = .next (s.taken d (.bare .ok) s.part.quiet)) ∧
        (r.mode ≠ mode → n = 1 ∨ r.lane = none → exec (.setVerifyMode v n) s = .next (s.taken d (.bare .ok) q)) ∧
        ∀ l, r.mode ≠ mode → n = 0 → r.lane = some l →
          exec (.setVerifyMode v n) s = .next (s.taken d (.bare .ok) (q.takeSweep l))) ∧
    (Dispatched s d (.setRole v n) →
      (1 < n ∨ 7 < v → Declines s d (.setRole v n) .range) ∧
      (n ≤ 1 → v ≤ 7 → s.part.volume v = none → Declines s d (.setRole v n) .notFound) ∧
      ∀ r, n ≤ 1 → v ≤ 7 → s.part.volume v = some r →
        (s.part.entriesOn v ≠ [] ∨ 0 < s.part.proxiesOn v ∨ s.part.targeted v = true →
          Declines s d (.setRole v n) .inUse) ∧
        (s.part.entriesOn v = [] → s.part.proxiesOn v = 0 → s.part.targeted v = false →
          (r.role = (if n = 0 then .archive else .proxy) →
            exec (.setRole v n) s = .next (s.taken d (.bare .ok) s.part.quiet)) ∧
          (r.role = .archive → n = 1 →
            exec (.setRole v n) s =
              .next (s.taken d (.bare .ok)
                (((s.part.quiet.modVolume v fun x => { x with role := .proxy }).losePlanVolumeAll v).examine))) ∧
          (r.role = .proxy → n = 0 →
            exec (.setRole v n) s =
              .next (s.taken d (.bare .ok)
                ((s.part.quiet.modVolume v fun x => { x with role := .archive }).examine)))))

/-- Eject and Retire Volume: their refusals in order; an Eject detaches the volume and owes the Eject Request; a
retirement frees the record after the claims of R12, and answers how many entries and proxies it dropped. The claims of
R12: the volume leaves the standing plan and every card's plan, which keep their order and their required copies; its
copy entries, the proxies on it and the COPY_MISMATCH entries keyed to it leave every clip; and the card of each clip
that changed is evaluated. -/
def Obligations.VolumesLeave : Prop :=
  (∀ (p : Part) (v : Nat),
    let bare (x : Plan) : Plan := { x with volumes := x.volumes.filter fun w => w != v }
    let left (c : Clip) : Clip :=
      { c with
        copies := c.copies.filter fun e => e.vol != v
        proxy := if c.proxy.map (·.vol) = some v then none else c.proxy
        faults := c.faults.filter fun f => !(f.kind == .copyMismatch && f.vol == v) }
    p.forgetVolume v =
      ((p.clips.filter fun e => left e.2 != e.2).map fun e => e.2.card).foldl Part.evaluate
        { p with
          standing := bare p.standing
          cards := p.cards.map fun e => (e.1, { e.2 with plan := bare e.2.plan })
          clips := p.clips.map fun e => (e.1, left e.2) }) ∧
  ∀ (s : State) (d : Dispatch) (v : Nat),
    (Dispatched s d (.eject v) →
      (7 < v → Declines s d (.eject v) .range) ∧
      (v ≤ 7 → s.part.volume v = none → Declines s d (.eject v) .notFound) ∧
      ∀ r, v ≤ 7 → s.part.volume v = some r →
        (r.attach = .detached ∨ r.lane = none → Declines s d (.eject v) .wrongState) ∧
        ∀ l, r.attach ≠ .detached → r.lane = some l →
          (s.part.ejectHeld l v = true → Declines s d (.eject v) .inUse) ∧
          (s.part.ejectHeld l v = false →
            exec (.eject v) s =
              .next (s.taken d (.bare .ok)
                ((s.part.quiet.detach l v).modDest l fun x => { x with ejectOwed := true })))) ∧
    (Dispatched s d (.retireVolume v) →
      (7 < v → Declines s d (.retireVolume v) .range) ∧
      (v ≤ 7 → s.part.volume v = none → Declines s d (.retireVolume v) .notFound) ∧
      ∀ r, v ≤ 7 → s.part.volume v = some r →
        (r.lane ≠ none ∨ 0 < s.part.cardsOn v ∨ s.part.targeted v = true → Declines s d (.retireVolume v) .inUse) ∧
        (r.lane = none → s.part.cardsOn v = 0 → s.part.targeted v = false →
          exec (.retireVolume v) s =
            .next (s.taken d (.withPayload (leBytes 2 ((s.part.entriesOn v).length + s.part.proxiesOn v)))
              (let q := s.part.quiet.forgetVolume v
               { q with volumes := q.volumes.filter fun e => e.1 != v }))))

/-! ### Lanes and units (02, 04, 08, 10) -/

/-- Set Lane Mode and both forms of Set Lane Timing: RANGE, or the setting replaced and nothing else of the lane. A
read in its retry procedure keeps the retry limit it began with, unless its retries used already reach the new one,
which it then takes. -/
def Obligations.LaneSettings : Prop :=
  ∀ (s : State) (d : Dispatch) (n : Nat),
    (∀ m, Dispatched s d (.setLaneMode n m) →
      (5 < n ∨ 1 < m → Declines s d (.setLaneMode n m) .range) ∧
      ∀ l : Fin 6, l.val = n → m ≤ 1 →
        exec (.setLaneMode n m) s =
          .next (s.taken d (.bare .ok)
            (s.part.quiet.modReader l fun r => { r with mode := if m = 0 then .manual else .auto }))) ∧
    (∀ c e r, Dispatched s d (.setLaneTimingReader n c e r) →
      (5 < n ∨ 255 < c ∨ 7 < e ∨ 7 < r → Declines s d (.setLaneTimingReader n c e r) .range) ∧
      ∀ l : Fin 6, l.val = n → c ≤ 255 → e ≤ 7 → r ≤ 7 →
        exec (.setLaneTimingReader n c e r) s =
          .next (s.taken d (.bare .ok)
            (s.part.quiet.modReader l fun x =>
              { x with stallCount := c, stallExp := e, retryLimit := r,
                       readLimit := if r ≤ x.retries then r else x.readLimit }))) ∧
    (∀ c e, Dispatched s d (.setLaneTimingDestination n c e) →
      (3 < n ∨ 255 < c ∨ 7 < e → Declines s d (.setLaneTimingDestination n c e) .range) ∧
      ∀ l : Fin 4, l.val = n → c ≤ 255 → e ≤ 7 →
        exec (.setLaneTimingDestination n c e) s =
          .next (s.taken d (.bare .ok)
            (s.part.quiet.modDest l fun x => { x with stallCount := c, stallExp := e })))

/-- Reset Unit: RANGE for 10, 11 and above 14; else the unit named takes its own reset, in every state, and the answer
is its report. What a unit reset leaves of a reader lane and of a channel: the termination gone with its unsensed flag;
of the lane, the condition-changed flag clear, no request outstanding, no recopy served; the channel IDLE, and the
attention state as it was. Of an offload in flight (R73): its card HELD, or SECURED at once, with no WRITING entry of
origin OFFLOAD on any of its clips; the analyzer cleared, the trip counters kept, the lane out of the slot queue with
no slot; no such entry on a volume to which a freed slot held a write for its clip, whatever its card. Of a destination
lane, beside what the abort of its traffic (`clearBound`, with a volume bound) leaves, which is no write to the volume
in any slot, no explicit operation and no sweep verify: no termination, no condition-changed and no identify pending
flag, the arbiter's queues empty, the guard count 0, the search at RL0, the release list and the stall setting kept;
with a volume bound the lane stays in its state, owes its identification and sends nothing yet; with none it sends an
Identify Request and is IDENTIFYING, or is EMPTY when no volume is present. Of the render engine: the entry under work
gone, the others kept in order with the next tag, no termination, and the oldest eligible entry started. -/
def Obligations.UnitsReset : Prop :=
  (∀ (s : State) (d : Dispatch) (n : Nat), Dispatched s d (.resetUnit n) →
     (n = 10 ∨ n = 11 ∨ 14 < n → Declines s d (.resetUnit n) .range) ∧
     (∀ l : Fin 4, n = l.val →
       exec (.resetUnit n) s =
         .next (s.taken d (.withPayload (s.part.resetDestReport l)) (s.part.quiet.resetDest l))) ∧
     (∀ l : Fin 6, n = 4 + l.val →
       exec (.resetUnit n) s =
         .next (s.taken d (.withPayload (s.part.resetReaderReport l)) (s.part.quiet.resetReader l))) ∧
     (n = 12 →
       exec (.resetUnit n) s = .next (s.taken d (.withPayload s.part.resetRenderReport) s.part.quiet.resetRender)) ∧
     (∀ c : Fin 2, n = 13 + c.val →
       exec (.resetUnit n) s =
         .next (s.taken d (.withPayload (s.part.resetChannelReport c)) (s.part.quiet.resetChannel c)))) ∧
  (∀ p : Part,
     (∀ l, ((p.resetReader l).reader l).term = TermSlot.none ∧ ((p.resetReader l).reader l).changed = false ∧
       ((p.resetReader l).reader l).out = none ∧ ((p.resetReader l).reader l).serves = none) ∧
     (∀ c, ((p.resetChannel c).channel c).term = TermSlot.none ∧ ((p.resetChannel c).channel c).state = .idle ∧
       ((p.resetChannel c).channel c).clip = (if (p.channel c).state = .idle then (p.channel c).clip else none) ∧
       (p.resetChannel c).attention = p.attention)) ∧
  (∀ (p : Part) (l : Fin 6),
     let q := p.resetReader l
     let unwritten (i v : Nat) : Prop := ∀ c, q.clip i = some c → c.offloadWriting v = false
     (q.reader l).offload = none ∧ (q.reader l).analyzer = Analyzer.cleared ∧
       (q.reader l).trips = (p.reader l).trips ∧ l ∉ q.pool.queue ∧ q.slotsOf l = [] ∧
       (∀ s w, s ∈ p.slotsOf l → s.recopy = false → w ∈ s.writes → unwritten s.clip w.vol) ∧
       ∀ x card, (p.reader l).offload = some x → p.card x.card = some card → (p.reader l).erase = none →
         (∀ i v, i ∈ card.clips → unwritten i v) ∧
           ∀ c, q.card x.card = some c → c.state = .held ∨ c.state = .secured) ∧
  (∀ (p : Part) (d : Fin 4) (v : Nat),
     let q := p.clearBound d v
     (∀ s w, s ∈ q.pool.slots → w ∈ s.writes → w.vol ≠ v) ∧ (q.dest d).explicit = none ∧ (q.dest d).sweep = none) ∧
  (∀ (p : Part) (d : Fin 4),
     let q := match p.boundVolume d with
       | some v => p.clearBound d v
       | none => p
     let b := q.dest d
     let r := (p.resetDest d).dest d
     r.term = TermSlot.none ∧ r.changed = false ∧ r.identifyPending = false ∧ r.ejectOwed = false ∧
       r.previews = [] ∧ r.recopies = [] ∧ r.verifies = [] ∧ r.renders = [] ∧ r.progress = [] ∧ r.guard = 0 ∧
       r.robin = 0 ∧ r.release = b.release ∧ r.stallCount = b.stallCount ∧ r.stallExp = b.stallExp ∧
       r.present = b.present ∧
       (q.boundVolume d ≠ none →
         r.reidentify = true ∧ r.state = b.state ∧ r.out = none ∧ r.nextTag = b.nextTag) ∧
       (q.boundVolume d = none →
         r.reidentify = false ∧
         (b.state = .empty → b.present = false → r.state = .empty ∧ r.out = none ∧ r.nextTag = b.nextTag) ∧
         (b.state ≠ .empty ∨ b.present = true →
           r.state = .identifying ∧
             r.out = some { tag := b.nextTag, request := .identify, timer := stallTime b.stallCount b.stallExp } ∧
             r.nextTag = b.nextTag + 1))) ∧
  (∀ p : Part,
     let q : Part := { p.dropRender with render := { p.dropRender.render with term := TermSlot.none } }
     (p.render.active = none → q.render.queue = p.render.queue) ∧
     (∀ x, p.render.active = some x → q.render.queue = p.render.queue.filter fun e => e.tag != x.tag) ∧
     q.render.active = none ∧ q.render.nextTag = p.render.nextTag ∧
     (p.resetRender).render.queue = q.render.queue ∧ (p.resetRender).render.nextTag = p.render.nextTag ∧
     (p.resetRender).render.term = TermSlot.none ∧
     (q.render.queue.find? q.eligible = none → p.resetRender = q) ∧
     ∀ e, q.render.queue.find? q.eligible = some e → p.resetRender = q.startRender e)

/-- Sense Unit: RANGE for 10, 11 and above 14; else the record and the condition-changed flag as they stood, both flags
cleared with the record kept, the work held back released, and the unit's condition after that (the order of a reader
lane's trip counters in it is the model's choice, log 59). The condition-changed
byte 0 of a unit that holds no such flag is the model's choice (log 10); a mount that this starts forgets the code of
the last Fault Answer (log 19) and ends the model's own mark of a restart to come (log 12). -/
def Obligations.UnitsSensed : Prop :=
  ∀ (s : State) (d : Dispatch) (n : Nat), Dispatched s d (.senseUnit n) →
    (n = 10 ∨ n = 11 ∨ 14 < n → Declines s d (.senseUnit n) .range) ∧
    (∀ l : Fin 4, n = l.val →
      let p := s.part.quiet.modDest l fun r =>
        { r with term := { r.term with unsensed := false }, changed := false }
      let q :=
        if (s.part.dest l).state = .empty ∧ (s.part.dest l).identifyPending = true ∧ (s.part.dest l).out = none then
          (p.modDest l fun r => { r with state := .identifying, identifyPending := false }).sendVolume l .identify
        else p
      exec (.senseUnit n) s =
        .next (s.taken d
          (.withPayload
            ((s.part.dest l).term.bytes ++ [if (s.part.dest l).changed then 1 else 0] ++ q.destCondition l)) q)) ∧
    (∀ l : Fin 6, n = 4 + l.val →
      let p := s.part.quiet.modReader l fun r =>
        { r with term := { r.term with unsensed := false }, changed := false }
      let q :=
        if (s.part.reader l).state = .empty ∧ (s.part.reader l).mountPending = true then
          p.modReader l fun r =>
            { r with state := .mounting, mount := some none, mountPending := false, remountOwed := false,
                     lastFault := none }
        else p
      exec (.senseUnit n) s =
        .next (s.taken d
          (.withPayload
            ((s.part.reader l).term.bytes ++ [if (s.part.reader l).changed then 1 else 0] ++ q.readerCondition l)) q)) ∧
    (n = 12 →
      let q := ({ s.part.quiet with
        render := { s.part.render with term := { s.part.render.term with unsensed := false } } } : Part).examine
      exec (.senseUnit n) s =
        .next (s.taken d (.withPayload (s.part.render.term.bytes ++ [0] ++ q.renderCondition)) q)) ∧
    (∀ c : Fin 2, n = 13 + c.val →
      let q := s.part.quiet.modChannel c fun ch => { ch with term := { ch.term with unsensed := false } }
      exec (.senseUnit n) s =
        .next (s.taken d (.withPayload ((s.part.channel c).term.bytes ++ [0] ++ q.channelCondition c)) q))

/-! ### Looks (07) -/

/-- Create Look and Retire Look: their refusals in order; a look created is ACTIVE with the identity parameters,
version 1, no pin, the full commit mask and no reference; a look retired is FREE. -/
def Obligations.LooksCreatedAndRetired : Prop :=
  ∀ (s : State) (d : Dispatch),
    (∀ tag look, Dispatched s d (.createLook tag look) →
      let fresh : Look :=
        { tag := tag, staging := [1024, 1024, 1024, 0, 0, 0, 1024, 1024, 1024, 1024, 0, 0], mask := 0xFFF,
          live := { values := [1024, 1024, 1024, 0, 0, 0, 1024, 1024, 1024, 1024, 0, 0], version := 1, pins := 0 },
          held := none, refClips := 0, refCameras := 0, refRenders := 0, refChannels := 0 }
      ((∃ l, look = some l ∧ 63 < l) ∨ (∃ b ∈ tag, ¬ (0x20 ≤ b.toNat ∧ b.toNat ≤ 0x7E)) →
        Declines s d (.createLook tag look) .range) ∧
      ((∀ l, look = some l → l ≤ 63) → (∀ b ∈ tag, 0x20 ≤ b.toNat ∧ b.toNat ≤ 0x7E) →
        ((∃ l, look = some l ∧ s.part.look l ≠ none) → Declines s d (.createLook tag look) .inUse) ∧
        (look = none → (∀ m, m ≤ 63 → s.part.look m ≠ none) → Declines s d (.createLook tag look) .tableFull) ∧
        ∀ l, s.part.look l = none → l ≤ 63 → (look = some l ∨ (look = none ∧ ∀ m, m < l → s.part.look m ≠ none)) →
          exec (.createLook tag look) s =
            .next (s.taken d (.withPayload [BitVec.ofNat 8 l])
              { s.part.quiet with looks := tset s.part.looks l fresh }))) ∧
    (∀ l, Dispatched s d (.retireLook l) →
      (63 < l → Declines s d (.retireLook l) .range) ∧
      (l ≤ 63 → s.part.look l = none → Declines s d (.retireLook l) .notFound) ∧
      ∀ k, l ≤ 63 → s.part.look l = some k →
        (0 < k.refClips + k.refCameras + k.refRenders + k.refChannels ∨ k.pinned = true →
          Declines s d (.retireLook l) .inUse) ∧
        (k.refClips + k.refCameras + k.refRenders + k.refChannels = 0 → k.pinned = false →
          exec (.retireLook l) s =
            .next (s.taken d (.bare .ok)
              { s.part.quiet with looks := s.part.looks.filter fun e => e.1 != l })))

/-- Stage Parameter: its refusals in order, and its three answers. The cases of a commit attempt (R143) and the next
version (R145). -/
def Obligations.ParameterStaged : Prop :=
  (∀ (s : State) (d : Dispatch) (l n : Nat) (v : Int), Dispatched s d (.stageParameter l n v) →
     (63 < l ∨ 11 < n ∨ paramInRange n v = false → Declines s d (.stageParameter l n v) .range) ∧
     (l ≤ 63 → n ≤ 11 → paramInRange n v = true →
       (s.part.look l = none → Declines s d (.stageParameter l n v) .notFound) ∧
       ∀ k, s.part.look l = some k →
         let staged : Look := { k with staging := k.staging.set n v }
         (k.mask.getLsbD n = false →
           exec (.stageParameter l n v) s =
             .next (s.taken d (.bare .staged) (s.part.quiet.modLook l fun _ => staged))) ∧
         (k.mask.getLsbD n = true → staged.commit = none →
           exec (.stageParameter l n v) s =
             .next (s.taken d (.bare .stagedHeld) (s.part.quiet.modLook l fun _ => staged))) ∧
         ∀ after, k.mask.getLsbD n = true → staged.commit = some after →
           exec (.stageParameter l n v) s =
             .next (s.taken d { status := .committed, payload := leBytes 2 after.live.version }
               (s.part.quiet.modLook l fun _ => after))) ∧
     (paramInRange n v = true ↔
       (n ≤ 2 ∧ 0 ≤ v ∧ v ≤ 4096) ∨ (3 ≤ n ∧ n ≤ 5 ∧ -1024 ≤ v ∧ v ≤ 1024) ∨ (6 ≤ n ∧ n ≤ 8 ∧ 256 ≤ v ∧ v ≤ 4096) ∨
         (n = 9 ∧ 0 ≤ v ∧ v ≤ 4096) ∨ (n = 10 ∧ -128 ≤ v ∧ v ≤ 128) ∨ (n = 11 ∧ 0 ≤ v ∧ v ≤ 3))) ∧
  (∀ k : Look,
     (k.staging = k.live.values → k.commit = some k) ∧
     (k.staging ≠ k.live.values → k.held ≠ none → k.commit = none) ∧
     (k.staging ≠ k.live.values → k.held = none → k.live.pins = 0 →
       k.commit = some { k with live := { values := k.staging, version := nextVersion k.live.version, pins := 0 } }) ∧
     (k.staging ≠ k.live.values → k.held = none → 0 < k.live.pins →
       k.commit =
         some { k with
           live := { values := k.staging, version := nextVersion k.live.version, pins := 0 }
           held := some k.live }) ∧
     (∀ v, v < 65535 → nextVersion v = v + 1) ∧ nextVersion 65535 = 1 ∧
     (∀ after, k.commit = some after → after.staging = after.live.values ∧ after.staging = k.staging ∧
       after.mask = k.mask ∧ after.refs = k.refs))

/-- Set Commit Mask (R141): the mask alone is replaced, with no commit; a staged value that differs from LIVE goes live
at the next commit made, whatever the mask. -/
def Obligations.CommitMaskSet : Prop :=
  ∀ (s : State) (d : Dispatch) (l : Nat) (m : BitVec 16), Dispatched s d (.setCommitMask l m) →
    (63 < l ∨ (∃ n, 11 < n ∧ m.getLsbD n = true) → Declines s d (.setCommitMask l m) .range) ∧
    (l ≤ 63 → (∀ n, 11 < n → m.getLsbD n = false) →
      (s.part.look l = none → Declines s d (.setCommitMask l m) .notFound) ∧
      ∀ k, s.part.look l = some k →
        exec (.setCommitMask l m) s =
          .next (s.taken d (.bare .ok) (s.part.quiet.modLook l fun k => { k with mask := m.setWidth 12 })) ∧
        ∀ after, ({ k with mask := m.setWidth 12 } : Look).commit = some after → after.live.values = k.staging)

/-- Commit Look (R144): a commit is attempted whatever the mask; made, it answers COMMITTED with the LIVE version that
results; refused, it answers LOOK_HELD and the look stays as it is; with the staging equal to LIVE it is made with the
present version even while HELD is occupied. -/
def Obligations.LookCommitted : Prop :=
  ∀ (s : State) (d : Dispatch) (l : Nat), Dispatched s d (.commitLook l) →
    (63 < l → Declines s d (.commitLook l) .range) ∧
    (l ≤ 63 → s.part.look l = none → Declines s d (.commitLook l) .notFound) ∧
    ∀ k, l ≤ 63 → s.part.look l = some k →
      (k.staging = k.live.values →
        exec (.commitLook l) s =
          .next (s.taken d { status := .committed, payload := leBytes 2 k.live.version }
            (s.part.quiet.modLook l fun _ => k))) ∧
      (k.staging ≠ k.live.values →
        (k.held ≠ none → Declines s d (.commitLook l) .lookHeld) ∧
        (k.held = none → k.live.pins = 0 →
          exec (.commitLook l) s =
            .next (s.taken d { status := .committed, payload := leBytes 2 (nextVersion k.live.version) }
              (s.part.quiet.modLook l fun _ =>
                { k with live := { values := k.staging, version := nextVersion k.live.version, pins := 0 } }))) ∧
        (k.held = none → 0 < k.live.pins →
          exec (.commitLook l) s =
            .next (s.taken d { status := .committed, payload := leBytes 2 (nextVersion k.live.version) }
              (s.part.quiet.modLook l fun _ =>
                { k with
                  live := { values := k.staging, version := nextVersion k.live.version, pins := 0 }
                  held := some k.live }))))

/-- Discard Staging (R142): the staging set takes LIVE's values and nothing else of the look changes, HELD occupied or
not; a commit attempt after it changes nothing. -/
def Obligations.StagingDiscarded : Prop :=
  ∀ (s : State) (d : Dispatch) (l : Nat), Dispatched s d (.discardStaging l) →
    (63 < l → Declines s d (.discardStaging l) .range) ∧
    (l ≤ 63 → s.part.look l = none → Declines s d (.discardStaging l) .notFound) ∧
    ∀ k, l ≤ 63 → s.part.look l = some k →
      exec (.discardStaging l) s =
        .next (s.taken d (.bare .ok) (s.part.quiet.modLook l fun k => { k with staging := k.live.values })) ∧
      ({ k with staging := k.live.values } : Look).commit = some { k with staging := k.live.values }

/-- The identity parameters leave every element of codes 0 to 1023 as it is (R137). -/
def Obligations.IdentityLook : Prop :=
  ∀ r g b : Nat, r ≤ 1023 → g ≤ 1023 → b ≤ 1023 → applyLook identityValues (r, g, b) = (r, g, b)

/-! ### Rendering and preview (08) -/

/-- Enqueue Render and Cancel Render: their refusals in order; an entry joins the tail under the first free tag from
the counter on, takes its reference, and the queue is examined; a cancelled entry leaves, and one RENDERING is aborted
CANCELLED. The tag of a new entry is held by no entry of the queue, and each value from the counter up to it is held by
one (R155). The source is the lowest-index attached volume on which the clip's entry is VERIFIED. What a start leaves
(R160): the look used pinned, the explicit one or else the clip's; an old proxy on the target gone with a release
claim; the context with every count at 0; the first source read queued. The work (R162): a source block joins the
frame, one unreadable or with a differing block check loses the source; a closed frame is graded and its first proxy
block queued; each DONE moves on to the next proxy block, to the next source read, or to completion. What a completion
leaves (R163): a proxy elsewhere claimed for release, the clip's proxy, the pin released, the entry gone, the engine
IDLE with NORMAL COMPLETE. What an abort leaves (R164): every request of the render withdrawn, a read sent to be
discarded and a write sent to be released at its answer; a release claim, but with no proxy block written none (the
model's inference, log 33); the pin released, the entry gone, the engine IDLE with its termination, the clip's proxy as
it stands. A release claim joins the release list, once, of a volume whose lane is ONLINE or FULL. A pin release lowers
the count of its version, and one that takes a HELD version's last pin empties HELD. -/
def Obligations.RendersQueued : Prop :=
  (∀ (s : State) (d : Dispatch),
     (∀ i look v, Dispatched s d (.enqueueRender i look v) →
       (1023 < i ∨ 7 < v ∨ (∃ l, look = some l ∧ 63 < l) → Declines s d (.enqueueRender i look v) .range) ∧
       (i ≤ 1023 → v ≤ 7 → (∀ l, look = some l → l ≤ 63) →
         (s.part.clip i = none ∨ s.part.volume v = none ∨ (∃ l, look = some l ∧ s.part.look l = none) →
           Declines s d (.enqueueRender i look v) .notFound) ∧
         ∀ r, s.part.clip i ≠ none → s.part.volume v = some r → (∀ l, look = some l → s.part.look l ≠ none) →
           (r.role = .archive → Declines s d (.enqueueRender i look v) .wrongRole) ∧
           (r.role = .proxy → 16 ≤ s.part.render.queue.length → Declines s d (.enqueueRender i look v) .queueFull) ∧
           (r.role = .proxy → s.part.render.queue.length < 16 →
             let tag := s.part.render.takeTag
             exec (.enqueueRender i look v) s =
               .next (s.taken d (.withPayload (leBytes 2 tag))
                 ((Part.refTake
                   { s.part.quiet with
                     render := { s.part.render with
                       queue := s.part.render.queue ++ [{ tag := tag, clip := i, look := look, target := v }]
                       nextTag := (tag + 1) % 65536 } } .renders look).examine))))) ∧
     (∀ n, Dispatched s d (.cancelRender n) →
       ((∀ e ∈ s.part.render.queue, e.tag ≠ n) → Declines s d (.cancelRender n) .notFound) ∧
       ((∃ e ∈ s.part.render.queue, e.tag = n) →
         (∀ x, s.part.render.active = some x → x.tag = n →
           exec (.cancelRender n) s = .next (s.taken d (.bare .ok) (s.part.quiet.abortRender .cancelled .none))) ∧
         ((∀ x, s.part.render.active = some x → x.tag ≠ n) →
           exec (.cancelRender n) s = .next (s.taken d (.bare .ok) (s.part.quiet.removeEntry n)))))) ∧
  (∀ r : RenderEngine, r.queue.length ≤ 16 →
     r.takeTag < 65536 ∧ (∀ e ∈ r.queue, e.tag ≠ r.takeTag) ∧
       ((∀ e ∈ r.queue, e.tag ≠ r.nextTag) → r.nextTag < 65536 → r.takeTag = r.nextTag) ∧
       ∃ k ≤ 16, r.takeTag = (r.nextTag + k) % 65536 ∧
         ∀ j < k, ∃ e ∈ r.queue, e.tag = (r.nextTag + j) % 65536) ∧
  (∀ (p : Part) (i v : Nat),
     let proves (w : Nat) : Prop :=
       w ≤ 7 ∧ (∃ r, p.volume w = some r ∧ r.attach ≠ .detached) ∧
         ∃ c e, p.clip i = some c ∧ c.copyOn w = some e ∧ e.state = .verified
     p.volumeWith i .verified none = some v ↔ proves v ∧ ∀ u, u < v → ¬ proves u) ∧
  (∀ (p : Part) (e : RenderEntry) (v : Nat) (c : Clip),
     p.volumeWith e.clip .verified none = some v → p.clip e.clip = some c →
       let look : Option Nat :=
         match e.look with
         | some l => some l
         | none => c.look
       let used : Option (Nat × Nat) := look.bind fun l => (p.look l).map fun k => (l, k.live.version)
       let pinned : Part :=
         match used with
         | some (l, _) => p.modLook l fun k => { k with live := { k.live with pins := k.live.pins + 1 } }
         | none => p
       let cleared : Part :=
         if c.proxy.map (·.vol) = some e.target then
           (pinned.modClip e.clip fun c => { c with proxy := none }).claimRelease e.target (c.key true)
         else pinned
       let working : Part :=
         { cleared with
           render := { cleared.render with
             active := some
               { tag := e.tag, clip := e.clip, source := v, target := e.target, used := used, nextSource := 0,
                 acc := FrameAcc.start, nextProxy := 0, frames := 0, proxyBlocks := 0, sourceBlocks := 0, writes := [],
                 lastFrame := false } } }
       (p.volumeLane v = none → p.startRender e = working) ∧
         ∀ d, p.volumeLane v = some d →
           p.startRender e =
             working.modDest d fun r => { r with renders := r.renders ++ [.read (c.key false) 0] }) ∧
  (∀ (p : Part) (x : RenderCtx) (c : Clip), p.render.active = some x → p.clip x.clip = some c →
     let at' (y : RenderCtx) : Part := { p with render := { p.render with active := some y } }
     let lost := p.abortRender .sourceLost (.mismatch .unreadable x.nextSource)
     p.renderBlock none = lost ∧
       (∀ b : Block, b.computedCheck ≠ b.check → p.renderBlock (some b) = lost) ∧
       (∀ b : Block, b.computedCheck = b.check →
         let acc := x.acc.add b
         let last : Bool := decide (c.blockCount ≤ x.nextSource + 1)
         let read : RenderCtx := { x with nextSource := x.nextSource + 1, sourceBlocks := x.sourceBlocks + 1 }
         (acc.closes b last = false → p.renderBlock (some b) = (at' { read with acc := acc }).renderRead) ∧
         (acc.closes b last = true →
           p.renderBlock (some b) =
             (at' { read with
               acc := FrameAcc.start
               lastFrame := last
               writes := proxyBlocks x.used (c.key true) x.frames x.nextProxy
                 (acc.picture.graded (p.readVersion x.used)) }).renderWrite)) ∧
       (let wrote : RenderCtx :=
          { x with proxyBlocks := x.proxyBlocks + 1, nextProxy := x.nextProxy + 1, writes := x.writes.tail }
        (2 ≤ x.writes.length → p.renderWritten = (at' wrote).renderWrite) ∧
        (x.writes.length < 2 → x.lastFrame = false →
          p.renderWritten = (at' { wrote with frames := x.frames + 1 }).renderRead) ∧
        (x.writes.length < 2 → x.lastFrame = true →
          p.renderWritten = (at' { wrote with frames := x.frames + 1 }).completeRender)) ∧
       (∀ d, p.volumeLane x.source = some d →
         p.renderRead = p.modDest d fun r => { r with renders := r.renders ++ [.read (c.key false) x.nextSource] }) ∧
       ∀ d b rest, p.volumeLane x.target = some d → x.writes = b :: rest →
         p.renderWrite = p.modDest d fun r => { r with renders := r.renders ++ [.write (c.key true) x.nextProxy b] }) ∧
  (∀ (p : Part) (x : RenderCtx) (c : Clip), p.render.active = some x → p.clip x.clip = some c →
     let left (q : Part) : Part := (q.unpin x.used).removeEntry x.tag
     let idle (q : Part) (cls : TermClass) (cause : Cause) (detail : Detail) : Part :=
       { q with
         render := { q.render with
           active := none
           term :=
             { record := some
                 { cls := cls, op := .render, cause := cause, ref := .render x.tag x.clip x.target x.source,
                   counts := [x.frames, x.proxyBlocks, x.sourceBlocks], detail := detail }
               unsensed := true } } }
     let claimed : Part :=
       match c.proxy with
       | some o => if o.vol = x.target then p else p.claimRelease o.vol (c.key true)
       | none => p
     let dropped : Part :=
       if 0 < x.proxyBlocks then p.withdrawRender.claimRelease x.target (c.key true) else p.withdrawRender
     p.completeRender =
         idle
           (left (claimed.modClip x.clip fun c =>
             { c with proxy := some { vol := x.target, look := x.used.map (·.1), version := x.used.map (·.2),
                                      frames := x.frames } }))
           .normal .complete (.look x.used) ∧
       p.dropRender = { left dropped with render := { (left dropped).render with active := none } } ∧
       ∀ cause detail, p.abortRender cause detail = idle (left dropped) .abnormal cause detail) ∧
  (∀ p : Part, p.render.active = none →
     p.dropRender = p ∧ p.completeRender = p ∧ ∀ cause detail, p.abortRender cause detail = p) ∧
  (∀ (p : Part) (d : Fin 4),
     let was := p.dest d
     let now := p.withdrawRender.dest d
     (was.out = none → now = { was with renders := [] }) ∧
       ∀ o, was.out = some o →
         (∀ k n, o.request = .read .render k n →
           now = { was with renders := [], out := some { o with request := .read .dropped k n } }) ∧
         (∀ k n b, o.request = .write .render k n b →
           now = { was with renders := [], out := some { o with request := .write .late k n b } }) ∧
         ((∀ k n, o.request ≠ .read .render k n) → (∀ k n b, o.request ≠ .write .render k n b) →
           now = { was with renders := [] })) ∧
  (∀ (p : Part) (n : Nat),
     p.removeEntry n =
       Part.refRelease { p with render := { p.render with queue := p.render.queue.filter fun e => e.tag != n } } .renders
         ((p.render.queue.find? fun e => e.tag == n).bind (·.look))) ∧
  (∀ (p : Part) (k : Look) (l n : Nat),
     p.unpin none = p ∧ p.unpin (some (l, n)) = (p.modLook l fun k => k.unpin n) ∧
     (k.live.version = n → k.unpin n = { k with live := { k.live with pins := k.live.pins - 1 } }) ∧
     ∀ h, k.live.version ≠ n → k.held = some h → h.version = n →
       (h.pins ≤ 1 → k.unpin n = { k with held := none }) ∧
       (1 < h.pins → k.unpin n = { k with held := some { h with pins := h.pins - 1 } })) ∧
  ∀ (p : Part) (v : Nat) (key : CopyKey),
    (p.volumeLane v = none → p.claimRelease v key = p) ∧
    ∀ d, p.volumeLane v = some d →
      ((p.dest d).state = .online ∨ (p.dest d).state = .full →
        p.claimRelease v key =
          p.modDest d fun r => { r with release := if key ∈ r.release then r.release else r.release ++ [key] }) ∧
      ((p.dest d).state ≠ .online → (p.dest d).state ≠ .full → p.claimRelease v key = p)

/-- Bind Preview and Unbind Preview: their refusals in order; a Bind drops what the channel showed and selects a source,
or leaves SOURCE_LOST; an Unbind makes the channel IDLE, and does nothing to an IDLE one. The three bytes 0 of an answer
with no source are the model's choice (log 10); that an Unbind keeps the position and the loop flag is its inference
(log 23). The source selected (R168), with one source excluded or none: the lowest-index attached volume on which the
clip's copy is VERIFIED, else the lowest on which it is WRITTEN, else the clip's card, present, not RELEASED, ERASING or
erased, its lane not in EQUIPMENT, else none. A loss of the source (R173): the channel's read is withdrawn, and a source
is selected with the lost one excluded; from it the reading resumes at the frame sought, or at the position with no
shown frame, and in PLAYING what was read is dropped, so that the frame after the shown one is read next; else the
channel reads the frame at its position again, to show it (R170), also in PLAYING at the last frame with loop clear (the
model's inference, log 23); with none the channel is in NO_SOURCE with its shown frame dropped, its position kept and
SOURCE_LOST left. A channel in NO_SOURCE that finds a source is PAUSED and reads the frame at its position. A read
withdrawn leaves its queue; one sent to a volume is discarded at its answer, one sent to a reader is abandoned (the
model's inference, log 13). -/
def Obligations.PreviewBound : Prop :=
  (∀ (p : Part) (i : Nat) (excluded : Option Source),
     let ready (st : CopyState) (v : Nat) : Prop :=
       v ≤ 7 ∧ excluded ≠ some (.volume v) ∧ (∃ r, p.volume v = some r ∧ r.attach ≠ .detached) ∧
         ∃ c e, p.clip i = some c ∧ c.copyOn v = some e ∧ e.state = st
     let onCard (k : Nat) : Prop :=
       excluded ≠ some (.card k) ∧
         ∃ c card l, p.clip i = some c ∧ c.card = k ∧ p.card k = some card ∧ card.lane = some l ∧
           card.state ≠ .released ∧ card.state ≠ .erasing ∧ card.erased = false ∧ (p.reader l).state ≠ .equipment
     (∀ v, p.selectSource i excluded = some (.volume v) ↔
       (ready .verified v ∧ ∀ u, u < v → ¬ ready .verified u) ∨
         ((∀ u, ¬ ready .verified u) ∧ ready .written v ∧ ∀ u, u < v → ¬ ready .written u)) ∧
       (∀ k, p.selectSource i excluded = some (.card k) ↔
         (∀ u, ¬ ready .verified u ∧ ¬ ready .written u) ∧ onCard k) ∧
       (p.selectSource i excluded = none ↔
         (∀ u, ¬ ready .verified u ∧ ¬ ready .written u) ∧ ∀ k, ¬ onCard k)) ∧
  (∀ (p : Part) (c : Fin 2),
     (∀ d : Fin 4,
       let was := p.dest d
       let left := was.previews.filter fun i => i.channel != c
       (∀ o k n, was.out = some o → o.request = .read (.preview c) k n →
         (p.withdrawRead c).dest d =
           { was with previews := left, out := some { o with request := .read .dropped k n } }) ∧
       ((∀ o k n, was.out = some o → o.request ≠ .read (.preview c) k n) →
         (p.withdrawRead c).dest d = { was with previews := left })) ∧
     (∀ l : Fin 6,
       let was := p.reader l
       let left := was.previews.filter fun i => i.channel != c
       (∀ o, was.out = some o → o.owner = .preview c →
         (p.withdrawRead c).reader l = { was with previews := left, out := none, retries := 0 }) ∧
       ((∀ o, was.out = some o → o.owner ≠ .preview c) →
         (p.withdrawRead c).reader l = { was with previews := left })) ∧
     (p.withdrawRead c).channel c = { p.channel c with reading := false }) ∧
  (∀ (p : Part) (c : Fin 2),
     let ch := p.channel c
     let lost (q : Part) (i : Nat) : Part :=
       q.modChannel c fun x =>
         { x with
           state := .noSource, source := none, shown := none, next := none, goal := .nothing, acc := FrameAcc.start
           term :=
             { record := some
                 { cls := .abnormal, op := .playback, cause := .sourceLost, ref := .clip i, counts := [],
                   detail := .none }
               unsensed := true } }
     (∀ i, p.noSource c i = lost p i) ∧
       (ch.source = none ∨ ch.clip = none → p.loseSource c = p) ∧
       (∀ s i, ch.source = some s → ch.clip = some i →
         let q := p.withdrawRead c
         (q.selectSource i (some s) = none → p.loseSource c = lost q i) ∧
         ∀ t, q.selectSource i (some s) = some t →
           p.loseSource c = q.modChannel c fun x => ({ x with source := some t } : Channel).resume) ∧
       (ch.state ≠ .noSource ∨ ch.clip = none → p.regainSource c = p) ∧
       ∀ i, ch.state = .noSource → ch.clip = some i →
         (p.selectSource i none = none → p.regainSource c = p) ∧
         ∀ t, p.selectSource i none = some t →
           p.regainSource c =
             p.modChannel c fun x => ({ x with state := .paused, source := some t } : Channel).aim x.position) ∧
  (∀ ch : Channel,
     ((∃ n, ch.goal = .shown n) ∨ ch.shown = none → ch.resume = ch.aim ch.position) ∧
     ∀ f, (∀ n, ch.goal ≠ .shown n) → ch.shown = some f →
       (ch.state = .playing → f.last = false ∨ ch.loop = true →
         ch.resume = { ch with goal := .nothing, next := none, acc := FrameAcc.start }) ∧
       (ch.state ≠ .playing ∨ (f.last = true ∧ ch.loop = false) →
         ch.resume = { ch.aim ch.position with goal := .again })) ∧
  (∀ p : Part,
     let both (f : Part → Fin 2 → Part) : Part := f (f p 0) 1
     p.regainAll = both Part.regainSource ∧
       (∀ i, p.regainClip i = both fun q c => if (q.channel c).clip = some i then q.regainSource c else q) ∧
       (∀ s, p.loseAll s = both fun q c => if (q.channel c).source = some s then q.loseSource c else q) ∧
       ∀ i v, p.loseCopy i v = both fun q c =>
         if (q.channel c).source = some (.volume v) ∧ (q.channel c).clip = some i then q.loseSource c else q) ∧
  ∀ (s : State) (d : Dispatch) (n : Nat),
    (∀ i look, Dispatched s d (.bindPreview n i look) →
      (1 < n ∨ 1023 < i ∨ (∃ l, look = some l ∧ 63 < l) → Declines s d (.bindPreview n i look) .range) ∧
      ∀ c : Fin 2, c.val = n → i ≤ 1023 → (∀ l, look = some l → l ≤ 63) →
        (s.part.clip i = none ∨ (∃ l, look = some l ∧ s.part.look l = none) →
          Declines s d (.bindPreview n i look) .notFound) ∧
        (s.part.clip i ≠ none → (∀ l, look = some l → s.part.look l ≠ none) →
          ((s.part.channel c).term.unsensed = true → Declines s d (.bindPreview n i look) .unsensed) ∧
          ((s.part.channel c).term.unsensed = false →
            let p := ((s.part.quiet.withdrawRead c).refMove .channels (s.part.channel c).override look).modChannel c
              fun ch => { Channel.reset with clip := some i, override := look, term := ch.term }
            (∀ t, p.selectSource i none = some t →
              let q := p.modChannel c fun ch => ({ ch with state := .paused, source := some t } : Channel).aim 0
              exec (.bindPreview n i look) s = .next (s.taken d (.withPayload (q.sourceBytes (some t))) q)) ∧
            (p.selectSource i none = none →
              exec (.bindPreview n i look) s =
                .next (s.taken d (.withPayload [0, 0, 0]) (p.noSource c i)))))) ∧
    (Dispatched s d (.unbindPreview n) →
      (1 < n → Declines s d (.unbindPreview n) .range) ∧
      ∀ c : Fin 2, c.val = n →
        ((s.part.channel c).state = .idle →
          exec (.unbindPreview n) s = .next (s.taken d (.bare .ok) s.part.quiet)) ∧
        ((s.part.channel c).state ≠ .idle →
          exec (.unbindPreview n) s =
            .next (s.taken d (.bare .ok)
              (((s.part.quiet.withdrawRead c).refRelease .channels (s.part.channel c).override).modChannel c fun ch =>
                { ch with state := .idle, clip := none, override := none, source := none, shown := none, next := none,
                          goal := .nothing, cursor := 0, number := 0, acc := FrameAcc.start, reading := false,
                          scope := none, armed := false }))))

/-- Play, Pause and Seek: their refusals in order and their effect on the channel. How a channel turns to a frame:
what it was reading for and its next frame are dropped (R172), and it reads from the block after the shown frame when the
frame lies ahead of that one, else from the clip's first block (R172); a frame ahead of a shown frame that is the clip's
last is read from the first block, which is not R172's but the model's inference (log 23). -/
def Obligations.PreviewRuns : Prop :=
  (∀ (ch : Channel) (n : Nat),
     let from' (cursor number : Nat) : Channel :=
       { ch with goal := .shown n, next := none, acc := FrameAcc.start, cursor := cursor, number := number }
     (∀ f, ch.shown = some f → f.number < n → f.last = false → ch.aim n = from' f.after (f.number + 1)) ∧
     ((∀ f, ch.shown = some f → n ≤ f.number ∨ f.last = true) → ch.aim n = from' 0 0)) ∧
  ∀ (s : State) (d : Dispatch) (n : Nat),
    (∀ loop, Dispatched s d (.play n loop) →
      (1 < n → Declines s d (.play n loop) .range) ∧
      ∀ c : Fin 2, c.val = n →
        let ch := s.part.channel c
        (ch.state = .idle ∨ ch.state = .noSource → Declines s d (.play n loop) .wrongState) ∧
        (ch.state = .paused ∨ ch.state = .playing → ch.term.unsensed = true →
          Declines s d (.play n loop) .unsensed) ∧
        (ch.state = .playing → ch.term.unsensed = false →
          exec (.play n loop) s =
            .next (s.taken d (.bare .ok) (s.part.quiet.modChannel c fun x => { x with loop := loop }))) ∧
        (ch.state = .paused → ch.term.unsensed = false → (ch.atLast = false ∨ loop = true) →
          exec (.play n loop) s =
            .next (s.taken d (.bare .ok)
              (s.part.quiet.modChannel c fun x => { x with loop := loop, state := .playing }))) ∧
        (ch.state = .paused → ch.term.unsensed = false → ch.atLast = true → loop = false →
          exec (.play n loop) s =
            .next (s.taken d (.bare .ok)
              ((s.part.quiet.seekTo c 0).modChannel c fun x => { x with loop := loop, state := .playing })))) ∧
    (Dispatched s d (.pause n) →
      (1 < n → Declines s d (.pause n) .range) ∧
      ∀ c : Fin 2, c.val = n →
        ((s.part.channel c).state = .idle ∨ (s.part.channel c).state = .noSource →
          Declines s d (.pause n) .wrongState) ∧
        ((s.part.channel c).state = .paused ∨ (s.part.channel c).state = .playing →
          exec (.pause n) s =
            .next (s.taken d (.bare .ok) (s.part.quiet.modChannel c fun x => { x with state := .paused })))) ∧
    (∀ f, Dispatched s d (.seek n f) →
      (1 < n → Declines s d (.seek n f) .range) ∧
      ∀ c : Fin 2, c.val = n →
        ((s.part.channel c).state = .idle → Declines s d (.seek n f) .wrongState) ∧
        ((s.part.channel c).state ≠ .idle → s.part.boundFrames c ≤ f → Declines s d (.seek n f) .range) ∧
        ((s.part.channel c).state = .noSource → f < s.part.boundFrames c →
          exec (.seek n f) s =
            .next (s.taken d (.bare .ok) (s.part.quiet.modChannel c fun x => { x with position := f }))) ∧
        ((s.part.channel c).state = .paused ∨ (s.part.channel c).state = .playing → f < s.part.boundFrames c →
          exec (.seek n f) s =
            .next (s.taken d (.bare .ok)
              ((s.part.quiet.withdrawRead c).modChannel c fun x => ({ x with position := f } : Channel).aim f))))

/-- Read Scope: the sample taken, or none; the channel's sample is cleared and its scope armed. An output frame request:
the shown frame, graded, in PAUSED and in PLAYING with no next frame; the next frame, which becomes the shown one, in
PLAYING when it is formed, a frame 0 also when loop was cleared meanwhile (the model's inference, log 23); the black
frame otherwise, a video message with no picture (the model's choice, log 24). A frame sent while the scope is armed is
measured into the channel's sample, and the scope is armed no more: the least and the greatest code, the mean rounded
down, and the codes of 1023 per mille, over every channel of every element. What a frame that becomes the shown one
leaves (R170, R171): the position at its number, no next frame, and in PLAYING at the last frame with loop clear PAUSED
and END_OF_CLIP with the clip and the frame. What a channel makes of a block of its clip (R170, R172): the block joins
the frame; a frame that closes is shown when it is the one sought, or the one at the position read again after a
re-selection, or the clip ends with it, is passed over when another is sought, and is the next frame when that is what
is read. What it reads for next: in PLAYING with a shown frame and no next one, the frame after the shown one, or from
the first block frame 0 after the last with loop set, and none with loop clear. The read it queues, one at a time: the
block at its cursor, of the volume under the copy key by index, of the card by block number. -/
def Obligations.FramesSent : Prop :=
  (∀ (p : Part) (c : Fin 2) (f : Frame),
     let ch := p.channel c
     let shown := p.modChannel c fun x =>
       { x with shown := some f, position := f.number, goal := .nothing, acc := FrameAcc.start, next := none }
     (ch.state ≠ .playing ∨ f.last = false ∨ ch.loop = true → p.showFrame c f = shown) ∧
     ∀ i, ch.state = .playing → f.last = true → ch.loop = false → ch.clip = some i →
       p.showFrame c f =
         shown.modChannel c fun x =>
           { x with
             state := .paused
             term :=
               { record := some
                   { cls := .normal, op := .playback, cause := .endOfClip, ref := .clipFrame i f.number, counts := [],
                     detail := .none }
                 unsensed := true } }) ∧
  (∀ (p : Part) (c : Fin 2) (i : Nat) (k : Clip) (b : Block), (p.channel c).clip = some i → p.clip i = some k →
     let ch := p.channel c
     let last : Bool := decide (k.blockCount ≤ ch.cursor + 1)
     let acc := ch.acc.add b
     let q := p.modChannel c fun x => { x with reading := false, acc := acc, cursor := ch.cursor + 1 }
     let f : Frame := { number := ch.number, last := last, after := ch.cursor + 1, picture := acc.picture }
     p.channelAnswer c none = (p.modChannel c fun x => { x with reading := false }).loseSource c ∧
       (acc.closes b last = false → p.channelAnswer c (some b) = q) ∧
       (acc.closes b last = true →
         (∀ n, ch.goal = .shown n ∨ (ch.goal = .again ∧ n = ch.position) →
           (ch.number = n ∨ last = true → p.channelAnswer c (some b) = q.showFrame c f) ∧
           (ch.number ≠ n → last = false →
             p.channelAnswer c (some b) =
               q.modChannel c fun x => { x with acc := FrameAcc.start, number := ch.number + 1 })) ∧
         (ch.goal = .next →
           p.channelAnswer c (some b) =
             q.modChannel c fun x => { x with next := some f, goal := .nothing, acc := FrameAcc.start }) ∧
         (ch.goal = .nothing → p.channelAnswer c (some b) = q))) ∧
  (∀ ch : Channel,
     let turned (cursor number : Nat) : Channel :=
       { ch with goal := .next, acc := FrameAcc.start, cursor := cursor, number := number }
     (ch.state ≠ .playing ∨ ch.goal ≠ .nothing ∨ ch.shown = none ∨ ch.next ≠ none → ch.turnNext = ch) ∧
     ∀ f, ch.state = .playing → ch.goal = .nothing → ch.shown = some f → ch.next = none →
       (f.last = false → ch.turnNext = turned f.after (f.number + 1)) ∧
       (f.last = true → ch.loop = true → ch.turnNext = turned 0 0) ∧
       (f.last = true → ch.loop = false → ch.turnNext = ch)) ∧
  (∀ (p : Part) (c : Fin 2),
     let ch := p.channel c
     (ch.goal = .nothing ∨ ch.reading = true ∨ ch.source = none ∨ ch.clip = none → p.queueRead c = p) ∧
     ∀ i k, ch.goal ≠ .nothing → ch.reading = false → ch.clip = some i → p.clip i = some k →
       (∀ v d, ch.source = some (.volume v) → p.volumeLane v = some d →
         p.queueRead c =
           (p.modDest d fun r =>
             { r with
               previews := r.previews ++ [{ channel := c, key := k.key false, index := ch.cursor }] }).modChannel c
             fun x => { x with reading := true }) ∧
       ∀ n card l, ch.source = some (.card n) → p.card n = some card → card.lane = some l →
         p.queueRead c =
           (p.modReader l fun r =>
             { r with
               previews := r.previews ++ [{ channel := c, block := k.firstBlock + ch.cursor }] }).modChannel c
             fun x => { x with reading := true }) ∧
  (∀ p : Part,
     let turn (q : Part) (c : Fin 2) : Part := (q.modChannel c Channel.turnNext).queueRead c
     p.pumpChannels = turn (turn p 0) 1) ∧
  (∀ (s : State) (d : Dispatch) (n : Nat), Dispatched s d (.readScope n) →
     (1 < n → Declines s d (.readScope n) .range) ∧
     ∀ c : Fin 2, c.val = n →
       exec (.readScope n) s =
         .next (s.taken d (.withPayload (scopeBytes (s.part.channel c).scope))
           (s.part.quiet.modChannel c fun x => { x with scope := none, armed := true }))) ∧
  (∀ (s : State) (c : Fin 2),
     let ch := s.part.channel c
     (ch.state = .idle ∨ ch.state = .noSource ∨ ch.shown = none →
       exec (.outputFrameRequest c) s = .next (s.acted (s.part.quiet.emit (.video c none)))) ∧
     (∀ f, ch.shown = some f → (ch.state = .paused ∨ (ch.state = .playing ∧ ch.next = none)) → ch.armed = false →
       exec (.outputFrameRequest c) s =
         .next (s.acted
           (s.part.quiet.emit
             (.video c (some (f.picture.graded (s.part.readLive (s.part.channelLook c)).1)))))) ∧
     (∀ f, ch.shown = some f → (ch.state = .paused ∨ (ch.state = .playing ∧ ch.next = none)) → ch.armed = true →
       let live := s.part.readLive (s.part.channelLook c)
       let sent := f.picture.graded live.1
       exec (.outputFrameRequest c) s =
         .next (s.acted
           ((s.part.quiet.emit (.video c (some sent))).modChannel c fun x =>
             { x with scope := some (scopeOf f.number live.2 sent), armed := false }))) ∧
     (∀ f g, ch.shown = some g → ch.next = some f → ch.state = .playing →
       exec (.outputFrameRequest c) s = .next (s.acted ((s.part.quiet.sendFrame c f).showFrame c f)))) ∧
  (∀ (p : Part) (c : Fin 2) (f : Frame),
     let live := p.readLive (p.channelLook c)
     let sent := f.picture.graded live.1
     ((p.channel c).armed = false → p.sendFrame c f = p.emit (.video c (some sent))) ∧
     ((p.channel c).armed = true →
       p.sendFrame c f =
         (p.emit (.video c (some sent))).modChannel c fun x =>
           { x with scope := some (scopeOf f.number live.2 sent), armed := false })) ∧
  ∀ (n : Nat) (used : Option (Nat × Nat)) (g : Picture),
    let m := scopeOf n used g
    m.frame = n ∧ m.look = used.map (·.1) ∧ m.version = used.map (·.2) ∧
      (g.codes ≠ [] →
        m.low ∈ g.codes ∧ m.high ∈ g.codes ∧ (∀ x ∈ g.codes, m.low ≤ x ∧ x ≤ m.high) ∧
          m.mean = g.codes.sum / g.codes.length ∧
          m.clipped = (g.codes.filter fun x => x == 1023).length * 1000 / g.codes.length)

/-! ### The reader links (02) -/

/-- Reader Link Up and Down, Hold Answer, and a message of an unknown type: the lane found or lost with its
condition-changed flag set; the two others change nothing of their own. A link up outside NO_READER sets that flag and
nothing else, and a lane found counts its slot as one with no card (the model's inference, log 20). A lane lost has its
card removed first; its slot keeps the insertion count, and the lock switch (the model's choice, log 37); a Presence
Request outstanding with no card in the slot is abandoned too (the model's choice, log 50). What a removal leaves (R40,
R64): the lane EMPTY, or in NO_READER or EQUIPMENT as it was, with no request outstanding; the card unbound; every
clip's faults and ingest digest as they were; and with CARD_REMOVED a mount ended, an erase ended with its card
RELEASED and erase_incomplete set, an offload ended with its card HELD, or SECURED at once, its current clip left with
no WRITING entry of origin OFFLOAD and its lane out of the slot queue; in BOUND a recopy that reads the card ended; in
every other state no termination of the lane. -/
def Obligations.ReaderLinkEvents : Prop :=
  ∀ (s : State) (l : Fin 6),
    ((s.part.reader l).state = .noReader →
      exec (.readerLinkUp l) s =
        .next (s.acted
          (s.part.quiet.modReader l fun r =>
            { r with changed := true, state := .empty, slotPresent := false, presenceOwed := true }))) ∧
    ((s.part.reader l).state ≠ .noReader →
      exec (.readerLinkUp l) s = .next (s.acted (s.part.quiet.modReader l fun r => { r with changed := true }))) ∧
    (let q := s.part.quiet.readerLost l
     exec (.readerLinkDown l) s = .next (s.acted q) ∧ (q.reader l).state = .noReader ∧ (q.reader l).changed = true ∧
       (q.reader l).slotPresent = false ∧ (q.reader l).mountPending = false) ∧
    (∀ tag, exec (.holdAnswer l tag) s = .next (s.acted s.part.quiet)) ∧
    (∀ type bytes, exec (.unknownReaderMessage l type bytes) s = .next (s.acted s.part.quiet)) ∧
    ∀ p : Part,
      let was := p.reader l
      let q := p.removal l
      let r := q.reader l
      let ended (op : Operation) (ref : Reference) : Prop := ∃ counts,
        r.term =
          { record := some
              { cls := .readyChanged, op := op, cause := .cardRemoved, ref := ref, counts := counts, detail := .none }
            unsensed := true }
      p.readerLost l =
          q.modReader l (fun x =>
            { x with changed := true, state := .noReader, mountPending := false, slotPresent := false,
                     reinitFails := 0, presenceOwed := false }) ∧
        r.slotCount = was.slotCount ∧ r.slotLocked = was.slotLocked ∧
        r.state = (if was.state = .noReader ∨ was.state = .equipment then was.state else .empty) ∧
        r.out = none ∧ r.retries = 0 ∧
        (∀ i c, p.boundCard l = some i → q.card i = some c → c.lane = none) ∧
        (∀ i c, p.clip i = some c → ∃ e, q.clip i = some e ∧ e.faults = c.faults ∧ e.ingestDigest = c.ingestDigest) ∧
        (was.state = .empty → r.mountPending = false) ∧
        (was.state ≠ .mounting → was.state ≠ .offloading → was.state ≠ .erasing → r.term = was.term) ∧
        (was.state = .mounting → r.mount = none ∧ ended .mount (p.mountRef l)) ∧
        (∀ x, was.state = .erasing → was.erase = some x →
          r.erase = none ∧ ended .erase (.card x.card) ∧
            ∀ c, q.card x.card = some c → c.state = .released ∧ c.eraseIncomplete = true ∧ c.erased = false) ∧
        (∀ d x, was.state = .bound → was.serves = some d → p.recopyOf d = some x →
          (q.dest d).explicit = none ∧
            (q.dest d).term =
              { record := some
                  { cls := .abnormal, op := .recopy, cause := .noSourceLeft, ref := .recopy x.clip x.target x.source,
                    counts := [x.written], detail := .none }
                unsensed := true }) ∧
        ∀ x, was.state = .offloading → was.offload = some x →
          r.offload = none ∧ l ∉ q.pool.queue ∧ ended .offload (.card x.card) ∧
            (∀ c, q.card x.card = some c → c.state = .held ∨ c.state = .secured) ∧
            ∀ cur c v, x.current = some cur → q.clip cur.clip = some c → c.offloadWriting v = false

/-- A Presence Notice with no tag, in every lane state: one that repeats the slot as last reported changes nothing; an
insertion starts a mount in EMPTY, or is held back behind an unsensed termination, and in every other state, NO_READER
among them (the model's inference, log 20), is recorded with the condition-changed flag set and nothing else; a lock
change does the same, and sets the write protection of a card bound; a removal is taken. A notice with a tag answers
the outstanding Presence Request, and is discarded when none has its tag. A mount that a notice starts forgets the code
of the last Fault Answer (log 19) and ends the model's own mark of a restart to come (log 12). -/
def Obligations.PresenceTaken : Prop :=
  ∀ (s : State) (l : Fin 6) (present locked : Bool) (count : Byte),
    let r := s.part.reader l
    let slot (x : ReaderLane) : ReaderLane := { x with slotPresent := present, slotLocked := locked, slotCount := count }
    ((present = r.slotPresent → (present = true → locked = r.slotLocked ∧ count = r.slotCount) →
        exec (.presenceNotice l none present locked count) s = .next (s.acted (s.part.quiet.modReader l slot))) ∧
      (present = true → r.slotPresent = false → r.state = .empty → r.term.unsensed = false →
        exec (.presenceNotice l none present locked count) s =
          .next (s.acted (s.part.quiet.modReader l fun x =>
            { slot x with changed := true, state := .mounting, mount := some none, mountPending := false,
                          remountOwed := false, lastFault := none }))) ∧
      (present = true → r.slotPresent = false → r.state = .empty → r.term.unsensed = true →
        exec (.presenceNotice l none present locked count) s =
          .next (s.acted (s.part.quiet.modReader l fun x =>
            { slot x with changed := true, mountPending := true, remountOwed := false }))) ∧
      (present = true → r.slotPresent = false → r.state ≠ .empty →
        exec (.presenceNotice l none present locked count) s =
          .next (s.acted (s.part.quiet.modReader l fun x => { slot x with changed := true }))) ∧
      (∀ i, present = true → r.slotPresent = true → count = r.slotCount → locked ≠ r.slotLocked →
        s.part.boundCard l = some i →
        exec (.presenceNotice l none present locked count) s =
          .next (s.acted ((s.part.quiet.modReader l fun x => { slot x with changed := true }).modCard i fun c =>
            { c with writeProtected := locked }))) ∧
      (present = true → r.slotPresent = true → count = r.slotCount → locked ≠ r.slotLocked →
        s.part.boundCard l = none →
        exec (.presenceNotice l none present locked count) s =
          .next (s.acted (s.part.quiet.modReader l fun x => { slot x with changed := true }))) ∧
      (present = true → r.slotPresent = true → count ≠ r.slotCount →
        exec (.presenceNotice l none present locked count) s =
          .next (s.acted ((((s.part.quiet.modReader l slot).removal l).changedReader l).insertion l))) ∧
      (present = false → r.slotPresent = true →
        exec (.presenceNotice l none present locked count) s =
          .next (s.acted (((s.part.quiet.modReader l slot).removal l).changedReader l)))) ∧
    ∀ tag,
      ((∀ o, r.out = some o → o.tag = tag → o.request ≠ .presence) →
        exec (.presenceNotice l (some tag) present locked count) s = .next (s.acted s.part.quiet)) ∧
      ∀ o, r.out = some o → o.tag = tag → o.request = .presence →
        exec (.presenceNotice l (some tag) present locked count) s =
          .next (s.acted
            (((s.part.quiet.modReader l fun x => { x with out := none }).slotReport l present locked count).remountDecided
              l))

/-- The answers of a reader to the request outstanding: a block whose check agrees goes to its requester with the link
free and the retries at 0, one whose check differs is a failed read; a Fault Answer ends the request with its code kept;
a Reinit Answer is done or failed; an Erase Answer moves the erase on to its next form (R71). Any other answer of a
reader changes nothing. What its requester makes of a good block: for an offload, a header that differs abandons the
clip, a trip of the analysis ends the reading, and the last block completes the ingest (R57, R58) and goes on with the
next clip unless a trip is reached; for a mount, the header and then the directory decide (R37, R38), and one that binds
or creates goes on as the lane mode and the card say (R39); for a recopy, a header that differs loses the source, else
the block is in its slot and queued for the target (R105); a preview takes it with no check of the header. An unreadable
block abandons the clip, loses the source of the recopy or of the preview, or ends the erase. A clip abandoned with a
fault (R60): the raise merged and counted, clips failed raised, but not for a clip whose fan-out was formed empty (R50;
that one shrunk to nothing counts is the model's inference, log 46), then the next position, or on a trip (R68) the end
TRIPPED, its card TRIPPED. What the termination of a refused or blank mount names and counts, and that
PLAN_INVALID_AT_MOUNT has no count, is the model's inference (log 16); the detail codes of a recopy's lost source (log
28), that MOUNTED counts the record's clips (log 58), and that a RELEASED card binds whatever its directory, unless its
record lies in another lane (log 48), are its choice. A message of a sled in bytes is the command of its type, its tag
and its fields, the low byte of a number first (the fields of a Presence Notice, first outcomes, and bytes beyond a
layout not read: the model's choice, log 45); a block in its stored form is read back as it was written. -/
def Obligations.ReaderAnswered : Prop :=
  (∀ (s : State) (l : Fin 6) (tag : Byte) (o : ReaderOut), (s.part.reader l).out = some o → o.tag = tag →
     (∀ b n, o.request = .step (.block n) →
       (b.computedCheck = b.check →
         exec (.blockAnswer l tag b) s =
           .next (s.acted ((s.part.quiet.modReader l fun r => { r with out := none, retries := 0 }).readGood l o.owner b))) ∧
       (b.computedCheck ≠ b.check →
         exec (.blockAnswer l tag b) s = .next (s.acted (s.part.quiet.stepFailed l o (.block n) none)))) ∧
     (∀ code : BitVec 16,
       let p := s.part.quiet.modReader l fun r => { r with lastFault := some code }
       (o.request = .presence →
         exec (.readerFaultAnswer l tag code) s = .next (s.acted (p.presenceFailed l))) ∧
       (∀ a, o.request = .step a →
         exec (.readerFaultAnswer l tag code) s = .next (s.acted (p.stepFailed l o a (some code)))) ∧
       (∀ a, o.request = .reinit a →
         exec (.readerFaultAnswer l tag code) s = .next (s.acted (p.reinitFailed l o a)))) ∧
     (∀ a, o.request = .reinit a →
       exec (.reinitAnswer l tag true) s = .next (s.acted (s.part.quiet.reinitDone l o a)) ∧
       exec (.reinitAnswer l tag false) s = .next (s.acted (s.part.quiet.reinitFailed l o a))) ∧
     (∀ f x, o.request = .step (.erase f) → (s.part.reader l).erase = some x →
       (∀ first count, x.form = .run first count →
         exec (.eraseAnswer l tag) s =
           .next (s.acted (s.part.quiet.modReader l fun r =>
             { r with out := none, retries := 0,
                      erase := some { x with form := x.form.after r.blocks, erased := x.erased + count } }))) ∧
       (x.form = .header →
         exec (.eraseAnswer l tag) s =
           .next (s.acted
             ((s.part.quiet.modCard x.card fun c =>
               { c with state := .released, erased := true, eraseIncomplete := false }).modReader l fun r =>
               { r with out := none, retries := 0, state := .bound, erase := none,
                        term := { record := some (eraseTerm x .normal .erased .none), unsensed := true } }))))) ∧
  (∀ (s : State) (l : Fin 6) (tag : Byte),
     let asked (f : ReaderRequest → Prop) : Prop := ∃ o, (s.part.reader l).out = some o ∧ o.tag = tag ∧ f o.request
     (∀ b, ¬ asked (fun q => ∃ n, q = .step (.block n)) →
       exec (.blockAnswer l tag b) s = .next (s.acted s.part.quiet)) ∧
     (¬ asked (fun q => ∃ f, q = .step (.erase f)) → exec (.eraseAnswer l tag) s = .next (s.acted s.part.quiet)) ∧
     (∀ ready, ¬ asked (fun q => ∃ a, q = .reinit a) →
       exec (.reinitAnswer l tag ready) s = .next (s.acted s.part.quiet)) ∧
     (∀ code, ¬ asked (fun _ => True) → exec (.readerFaultAnswer l tag code) s = .next (s.acted s.part.quiet))) ∧
  (∀ (p : Part) (l : Fin 6) (b : Block) (cur : Current) (c : Clip),
     (p.reader l).offload.bind (·.current) = some cur → p.clip cur.clip = some c →
       let last : Bool := decide (c.firstBlock + c.blockCount ≤ cur.next + 1)
       let digest := digestAdd cur.digest b
       let stored (q : Part) : Part :=
         { q with
           pool := { q.pool with
             slots := q.pool.slots.map fun x =>
               if x.lane == l && x.data.isNone then { x with data := some b } else x } }
       let goesOn (q : Part) : Part :=
         if last then (stored q).ingestComplete l cur c (digestFinal digest)
         else
           (stored q).modOffload l fun x =>
             { x with current := x.current.map fun y => { y with digest := digest, next := y.next + 1 } }
       (c.headerCheck (cur.next - c.firstBlock) b = false →
         p.readGood l .offload b = p.abandonFault l .headerMismatch cur.next) ∧
       (c.headerCheck (cur.next - c.firstBlock) b = true →
         (cur.reread = true → p.readGood l .offload b = goesOn p) ∧
         (cur.reread = false → (p.analyze l cur.clip c b last).2 = none →
           p.readGood l .offload b = goesOn (p.analyze l cur.clip c b last).1) ∧
         ∀ trip, cur.reread = false → (p.analyze l cur.clip c b last).2 = some trip →
           p.readGood l .offload b = (p.analyze l cur.clip c b last).1.tripReading l trip)) ∧
  (∀ (p : Part) (l : Fin 6) (x : OffloadCtx) (cur : Current),
     (p.reader l).offload = some x → x.current = some cur →
       (p.clipFailed l =
         if cur.barred then p else p.modCard x.card fun c => { c with failed := c.failed + 1 }) ∧
       (∀ k n,
         let raised :=
           (p.mergeFault cur.clip
             { kind := k, vol := 0, count := 1, saturated := false, firstFrame := none, firstSite := none,
               detail := some (.block n) }).countRaise l k
         (raised.2 = none → p.abandonFault l k n = ((raised.1.clipFailed l).abandonClip l).consider l) ∧
         ∀ trip, raised.2 = some trip → p.abandonFault l k n = raised.1.tripReading l trip) ∧
       (∀ code, p.readUnreadable l .offload code = p.abandonFault l .readError cur.next) ∧
       ∀ trip, p.tripReading l trip = ((p.clipFailed l).abandonClip l).endTripped l trip) ∧
  (∀ (p : Part) (l : Fin 6) (x : OffloadCtx) (card : Card) (k : FaultKind) (n : Nat),
     (p.reader l).offload = some x → p.card x.card = some card →
       let unqueued : Part := { p with pool := { p.pool with queue := p.pool.queue.filter fun k => k != l } }
       let freed (r : ReaderLane) : ReaderLane :=
         if r.out.any fun o => o.owner == .offload then { r with out := none, retries := 0 } else r
       let term : Termination :=
         { cls := .abnormal, op := .offload, cause := .tripped, ref := .card x.card,
           counts := [card.nextPos, card.copied, card.failed, card.skipped], detail := .trip k n }
       p.endTripped l (k, n) =
         (unqueued.modReader l fun r =>
           { freed r with
             state := .bound, offload := none, analyzer := Analyzer.cleared
             term := { record := some term, unsensed := true } }).modCard x.card fun c => { c with state := .tripped }) ∧
  (∀ (p : Part) (l : Fin 6) (d : Fin 4) (x : RecopyCtx) (c : Clip), p.recopyOf d = some x → p.clip x.clip = some c →
     (∀ b, c.headerCheck x.next b = false →
       p.readGood l (.recopy d) b =
         p.endRecopy d .abnormal .noSourceLeft (.header (c.firstBlock + x.next))) ∧
     (∀ b s, c.headerCheck x.next b = true → p.awaited l = some s →
       p.readGood l (.recopy d) b =
         Part.modDest
           { p with
             pool := { p.pool with
               slots := p.pool.slots.map fun y => if y.id = s.id then { y with data := some b } else y } }
           d fun r =>
             { r with
               recopies := r.recopies ++ [.slot s.id]
               explicit := some (.recopy { x with next := x.next + 1 }) }) ∧
     ∀ code,
       p.readUnreadable l (.recopy d) code =
         p.endRecopy d .abnormal .noSourceLeft (.mismatch .unreadable (c.firstBlock + x.next))) ∧
  (∀ (p : Part) (l : Fin 6) (c : Fin 2) (code : Option (BitVec 16)),
     (∀ b, p.readGood l (.preview c) b = p.channelAnswer c (some b)) ∧
     p.readUnreadable l (.preview c) code = p.channelAnswer c none ∧
     ((p.reader l).lastFault = none →
       p.readUnreadable l .erase code = p.endErase l .bound .abnormal .equipmentCheck .none) ∧
     ∀ k, (p.reader l).lastFault = some k →
       p.readUnreadable l .erase code = p.endErase l .bound .abnormal .equipmentCheck (.code k)) ∧
  (∀ first count blocks : Nat,
     (first + count < blocks →
       (EraseForm.run first count).after blocks =
         .run (first + count) (min 1024 (blocks - (first + count)))) ∧
     (blocks ≤ first + count → (EraseForm.run first count).after blocks = .header)) ∧
  (∀ (p : Part) (l : Fin 6) (cur : Current) (c : Clip) (digest : BitVec 64),
     let ends (q : Part) (trip : Option Trip) : Part :=
       let cured :=
         (q.removeFaults cur.clip fun f => f.kind == .readError || f.kind == .headerMismatch).modOffload l fun x =>
           { x with current := none }
       match trip with
       | some x => cured.endTripped l x
       | none => cured.consider l
     let kept := p.modClip cur.clip fun x => { x with ingestDigest := some digest }
     (c.ingestDigest = none → cur.reread = false → c.cameraDigest = none ∨ c.cameraDigest = some digest →
       p.ingestComplete l cur c digest = ends (kept.mergePending l cur.clip) none) ∧
     (∀ x, c.ingestDigest = none → cur.reread = false → c.cameraDigest = some x → x ≠ digest →
       p.ingestComplete l cur c digest =
         ends ((kept.sourceMismatch l cur.clip).1.mergePending l cur.clip) (kept.sourceMismatch l cur.clip).2) ∧
     (c.ingestDigest = some digest → cur.reread = true → p.ingestComplete l cur c digest = ends p none) ∧
     ∀ x, c.ingestDigest = some x → cur.reread = true → x ≠ digest →
       p.ingestComplete l cur c digest = ends (p.sourceMismatch l cur.clip).1 (p.sourceMismatch l cur.clip).2) ∧
  (∀ (p : Part) (l : Fin 6) (i : Nat) (k : FaultKind),
     (let q := p.mergeFault i
        { kind := .sourceMismatch, vol := 0, count := 1, saturated := false, firstFrame := none, firstSite := none,
          detail := none }
      p.sourceMismatch l i = q.countRaise l .sourceMismatch) ∧
     (let n := min ((p.reader l).trips.getD k.index 0 + 1) 15
      p.countRaise l k =
        (p.modReader l fun r => { r with trips := r.trips.set k.index n },
          if (p.policy k).trip ≠ 0 ∧ (p.policy k).trip ≤ n then some (k, n) else none)) ∧
     p.mergePending l i =
       ((p.reader l).analyzer.buffer.foldl (fun q f => q.mergeFault i f.raise) p).clearAnalyzer l) ∧
  (∀ (p : Part) (l : Fin 6) (b : Block),
     ((p.reader l).mount = some none →
       (b.blankHeader = true →
         p.readGood l .mount b = p.failMount l .blank .normal .blankCard (.identity b.cardHeader.id) []) ∧
       (b.blankHeader = false → b.goodHeader = true →
         p.readGood l .mount b = p.modReader l fun r => { r with mount := some (some b.cardHeader) }) ∧
       (b.blankHeader = false → b.goodHeader = false →
         p.readGood l .mount b =
           p.failMount l .refused .abnormal .directoryUnreadable (.identity b.cardHeader.id) [])) ∧
     ∀ h, (p.reader l).mount = some (some h) →
       let q := p.unbindOther l h.id
       let refused (cause : Cause) : Part :=
         q.failMount l .refused .abnormal cause (.identity h.id) [b.dirCount]
       let outcome := p.readGood l .mount b
       (∀ i card, q.cardWith h.id = some (i, card) →
         let readable : Prop := b.goodDirectory h = true ∨ card.state = .released
         (¬ readable → outcome = refused .directoryUnreadable) ∧
         (readable → card.lane ≠ none → card.lane ≠ some l → outcome = refused .duplicatePresent) ∧
         (readable → card.lane = none ∨ card.lane = some l →
           (card.state = .released ∨ q.sameDirectory card b.dirEntries = true →
             outcome = (q.bindCard l i h).endMount l i) ∧
           (card.state ≠ .released → q.sameDirectory card b.dirEntries = false →
             outcome = refused .identityConflict))) ∧
       (q.cardWith h.id = none →
         (b.goodDirectory h = false → outcome = refused .directoryUnreadable) ∧
         (b.goodDirectory h = true → q.cameraOf h.id.letter = none → tfree q.cameras 8 = none →
           outcome = refused .cameraTableFull) ∧
         (b.goodDirectory h = true → q.cameraOf h.id.letter ≠ none ∨ tfree q.cameras 8 ≠ none →
           (tfree q.cards 32 = none → outcome = refused .cardTableFull) ∧
           ∀ i, tfree q.cards 32 = some i →
             (1024 - q.clips.length < b.dirEntries.length → outcome = refused .clipTableFull) ∧
             (b.dirEntries.length ≤ 1024 - q.clips.length →
               outcome = (q.createCard l i h b.dirEntries).endMount l i)))) ∧
  (∀ (p : Part) (l : Fin 6) (i : Nat) (card : Card), p.card i = some card →
     let q := card.clips.foldl Part.regainClip p
     let ended (cause : Cause) (counts : List Nat) : Part :=
       q.modReader l fun r =>
         { r with
           term :=
             { record := some
                 { cls := .normal, op := .mount, cause := cause, ref := .card i, counts := counts, detail := .none }
               unsensed := true } }
     ((p.reader l).mode = .manual ∨ card.state ≠ .ready →
       p.endMount l i = ended .mounted [card.clips.length]) ∧
     ((p.reader l).mode = .auto → card.state = .ready →
       (q.planPasses card.plan = true → p.endMount l i = q.startOffload l i) ∧
       (q.planPasses card.plan = false → p.endMount l i = ended .planInvalidAtMount []))) ∧
  (∀ (p : Part) (l : Fin 6) (dst : ReaderState) (cls : TermClass) (cause : Cause) (ref : Reference) (counts : List Nat)
     (detail : Detail),
     let r := (p.failMount l dst cls cause ref counts detail).reader l
     r.state = dst ∧ r.mount = none ∧
       r.term =
         { record := some { cls := cls, op := .mount, cause := cause, ref := ref, counts := counts, detail := detail }
           unsensed := true }) ∧
  (∀ (l : Fin 6) (tag : Byte) (fields : List Byte),
     readerCommand l ([0x82, tag] ++ fields) = .blockAnswer l tag (Block.ofBytes fields) ∧
     readerCommand l ([0x83, tag] ++ fields) = .holdAnswer l tag ∧
     readerCommand l ([0x86, tag] ++ fields) = .eraseAnswer l tag ∧
     (∀ lo hi : Byte, readerCommand l ([0x84, tag, lo, hi] ++ fields) = .readerFaultAnswer l tag (hi ++ lo)) ∧
     (∀ x : Byte, readerCommand l ([0x85, tag, x] ++ fields) = .reinitAnswer l tag (x == 0)) ∧
     (∀ mark asked present locked count : Byte,
       readerCommand l ([0x81, tag, mark, asked, present, locked, count] ++ fields) =
         .presenceNotice l (if mark = 0 then none else some asked) (present != 0) (locked != 0) count) ∧
     (∀ type : Byte, type.toNat < 0x81 ∨ 0x86 < type.toNat →
       readerCommand l ([type, tag] ++ fields) = .unknownReaderMessage l type ([tag] ++ fields)) ∧
     (Message.reader l tag .presence).bytes = some [0x01, tag] ∧
     (∀ n, (Message.reader l tag (.step (.block n))).bytes = some ([0x02, tag] ++ leBytes 4 n)) ∧
     (∀ a, (Message.reader l tag (.reinit a)).bytes = some [0x03, tag]) ∧
     (∀ n k, (Message.reader l tag (.step (.erase (.run n k)))).bytes =
       some ([0x04, tag, 0] ++ leBytes 4 n ++ leBytes 4 k)) ∧
     (Message.reader l tag (.step (.erase .header))).bytes = some [0x04, tag, 1]) ∧
  ∀ b : Block, b.header.length = 64 → b.payload.length ≤ 4194304 → b.payload.getLast? ≠ some 0 →
    Block.ofBytes b.bytes = b

/-- The read procedure: a step that fails first takes the lane's retry limit, and a read in its retry procedure goes by
the limit it took; a failed step asks for a reinitialisation while retries are left, and is unreadable when they are
spent, which ends a mount with the sled fault code of the Fault Answer that failed it last in the detail, or none when
a block check did (an unreadable directory still binds a RELEASED card of this lane or none: the model's choice, log
48); a reinitialisation done sends the same step again as one more retry; one that fails is sent again, and the second
failure in a row is the failure of the reader. A reader stall: nothing with no request outstanding or its timer
disabled; else the request is abandoned and its owner told. What a failure of the reader leaves (R33): the lane in
EQUIPMENT with its condition-changed flag set, no request outstanding and the retries at 0; every card where it was; no
bound channel with the card as its source; the operation in flight ended ABNORMAL EQUIPMENT_CHECK, with the code of the
last Fault Answer since the operation began in its detail (the model's inference, log 19): a mount with nothing in
hand, an erase with erase_incomplete set, an offload with its card HELD, or SECURED at once, its clip left with no
WRITING entry of origin OFFLOAD, its lane out of the slot queue; a recopy in BOUND ended with EQUIPMENT and its next
block (the model's choice, log 41); in every other state no termination of the lane. Whom a free link serves (R35): a
Presence Request that is owed, then the oldest preview read, then the block or erase step of the operation in flight:
block 0 and then block 1 of a mount, the next block of an offload once its slot is granted or at once with an empty
fan-out, the next block of a recopy in BOUND once its slot is granted, the form of an erase. With a request
outstanding, in NO_READER and in EQUIPMENT nothing is sent. A request sent takes the next tag and starts the stall
timer. -/
def Obligations.ReadRetriedAndStalled : Prop :=
  (∀ (p : Part) (l : Fin 6) (o : ReaderOut) (a : ReaderStep) (code : Option (BitVec 16)),
     let r := p.reader l
     (r.retries = 0 → 0 < r.retryLimit →
       p.stepFailed l o a code =
         (p.modReader l fun x => { x with out := none, readLimit := x.retryLimit }).sendReader l (.reinit a) o.owner) ∧
     (0 < r.retries → r.retries < r.readLimit →
       p.stepFailed l o a code =
         (p.modReader l fun x => { x with out := none }).sendReader l (.reinit a) o.owner) ∧
     ((r.retries = 0 ∧ r.retryLimit = 0) ∨ (0 < r.retries ∧ r.readLimit ≤ r.retries) →
       p.stepFailed l o a code =
         (p.modReader l fun x => { x with out := none, retries := 0 }).readUnreadable l o.owner code) ∧
     (let detail : Detail :=
        match code with
        | some c => .code c
        | none => .none
      ((∀ h, r.mount ≠ some (some h)) →
        p.readUnreadable l .mount code =
          p.failMount l .refused .abnormal .directoryUnreadable (p.mountRef l) [] detail) ∧
      ∀ h, r.mount = some (some h) →
        let q := p.unbindOther l h.id
        let unreadable := q.failMount l .refused .abnormal .directoryUnreadable (.identity h.id) [] detail
        (q.cardWith h.id = none → p.readUnreadable l .mount code = unreadable) ∧
        ∀ i card, q.cardWith h.id = some (i, card) →
          (card.state ≠ .released → p.readUnreadable l .mount code = unreadable) ∧
          (card.state = .released →
            (card.lane = none ∨ card.lane = some l →
              p.readUnreadable l .mount code = (q.bindCard l i h).endMount l i) ∧
            (card.lane ≠ none → card.lane ≠ some l →
              p.readUnreadable l .mount code =
                q.failMount l .refused .abnormal .duplicatePresent (.identity h.id) []))) ∧
     p.reinitDone l o a =
       (p.modReader l fun x =>
         { x with out := none, reinitFails := 0, retries := x.retries + 1 }).sendReader l (.step a) o.owner ∧
     (r.reinitFails = 0 →
       p.reinitFailed l o a =
         (p.modReader l fun x => { x with out := none, reinitFails := 1 }).sendReader l (.reinit a) o.owner) ∧
     (1 ≤ r.reinitFails →
       p.reinitFailed l o a =
         (p.modReader l fun x => { x with out := none, reinitFails := x.reinitFails + 1 }).readerFailed l)) ∧
  (∀ (s : State) (l : Fin 6),
     let p := s.part.quiet.modReader l fun r => { r with out := none, retries := 0 }
     ((∀ o, (s.part.reader l).out = some o → o.timer = none) →
       exec (.readerStallExpiry l) s = .next (s.acted s.part.quiet)) ∧
     ∀ o t, (s.part.reader l).out = some o → o.timer = some t →
       (o.owner = .presence → exec (.readerStallExpiry l) s = .next (s.acted (p.presenceFailed l))) ∧
       (o.owner = .mount →
         exec (.readerStallExpiry l) s =
           .next (s.acted (p.failMount l .refused .abnormal .stalled (p.mountRef l) []))) ∧
       (o.owner = .offload →
         exec (.readerStallExpiry l) s = .next (s.acted (p.stopOffload l .bound .abnormal .stalled .none))) ∧
       (o.owner = .erase →
         exec (.readerStallExpiry l) s = .next (s.acted (p.endErase l .bound .abnormal .stalled .none))) ∧
       (∀ d, o.owner = .recopy d →
         exec (.readerStallExpiry l) s = .next (s.acted (p.endRecopy d .abnormal .noSourceLeft .none))) ∧
       (∀ c, o.owner = .preview c → exec (.readerStallExpiry l) s = .next (s.acted (p.channelAnswer c none)))) ∧
  (∀ (p : Part) (l : Fin 6),
     let was := p.reader l
     let q := p.readerFailed l
     let r := q.reader l
     let ended (op : Operation) (ref : Reference) : Prop := ∃ counts,
       r.term =
         { record := some
             { cls := .abnormal, op := op, cause := .equipmentCheck, ref := ref, counts := counts,
               detail :=
                 match was.lastFault with
                 | some c => .code c
                 | none => .none }
           unsensed := true }
     r.state = .equipment ∧ r.changed = true ∧ r.out = none ∧ r.retries = 0 ∧
       (∀ i c, p.card i = some c → ∃ e, q.card i = some e ∧ e.lane = c.lane) ∧
       (∀ i c, p.boundCard l = some i → (q.channel c).clip ≠ none → (q.channel c).source ≠ some (.card i)) ∧
       (was.state ≠ .mounting → was.state ≠ .offloading → was.state ≠ .erasing → r.term = was.term) ∧
       (was.state = .mounting → r.mount = none ∧ ended .mount (p.mountRef l)) ∧
       (∀ x, was.state = .erasing → was.erase = some x →
         r.erase = none ∧ ended .erase (.card x.card) ∧
           ∀ c, q.card x.card = some c → c.state = .released ∧ c.eraseIncomplete = true ∧ c.erased = false) ∧
       (∀ d x, was.state = .bound → was.serves = some d → p.recopyOf d = some x →
         (∀ k, x.source = .card l k → r.serves = none) ∧ (q.dest d).explicit = none ∧
           (q.dest d).term =
             { record := some
                 { cls := .abnormal, op := .recopy, cause := .noSourceLeft, ref := .recopy x.clip x.target x.source,
                   counts := [x.written], detail := .equipment (p.recopyBlockNumber x) }
               unsensed := true }) ∧
       ∀ x, was.state = .offloading → was.offload = some x →
         r.offload = none ∧ l ∉ q.pool.queue ∧ ended .offload (.card x.card) ∧
           (∀ c, q.card x.card = some c → c.state = .held ∨ c.state = .secured) ∧
           ∀ cur c v, x.current = some cur → q.clip cur.clip = some c → c.offloadWriting v = false) ∧
  (∀ (p : Part) (l : Fin 6),
     let r := p.reader l
     (r.out ≠ none ∨ r.state = .noReader ∨ r.state = .equipment → p.serveReader l = p) ∧
     (r.out = none → r.state ≠ .noReader → r.state ≠ .equipment →
       (r.presenceOwed = true →
         p.serveReader l = (p.modReader l fun x => { x with presenceOwed := false }).sendReader l .presence .presence) ∧
       (∀ i rest, r.presenceOwed = false → r.previews = i :: rest →
         p.serveReader l =
           (p.modReader l fun x => { x with previews := rest }).sendReader l (.step (.block i.block))
             (.preview i.channel)) ∧
       (r.presenceOwed = false → r.previews = [] →
         (p.laneRequest l = none → p.serveReader l = p) ∧
         ∀ a o, p.laneRequest l = some (a, o) → p.serveReader l = p.sendReader l (.step a) o)) ∧
     ∀ a o, p.laneRequest l = some (a, o) ↔
       (r.state = .mounting ∧ r.mount = some none ∧ a = .block 0 ∧ o = .mount) ∨
         (r.state = .mounting ∧ (∃ h, r.mount = some (some h)) ∧ a = .block 1 ∧ o = .mount) ∨
         (r.state = .offloading ∧ o = .offload ∧ ∃ x cur, r.offload = some x ∧ x.current = some cur ∧
           (cur.fanOut = [] ∨ p.awaited l ≠ none) ∧ a = .block cur.next) ∨
         (r.state = .bound ∧ p.awaited l ≠ none ∧ ∃ d x, r.serves = some d ∧ p.recopyOf d = some x ∧ o = .recopy d ∧
           a = .block (p.recopyBlockNumber x)) ∨
         (r.state = .erasing ∧ o = .erase ∧ ∃ x, r.erase = some x ∧ a = .erase x.form)) ∧
  ∀ (p : Part) (l : Fin 6) (request : ReaderRequest) (owner : ReaderOwner),
    let r := p.reader l
    p.sendReader l request owner =
      { (p.modReader l fun x =>
          { x with
            out := some { tag := r.nextTag, request := request, owner := owner,
                          timer := if r.stallCount = 0 then none else some (r.stallCount * 10 * 2 ^ r.stallExp) }
            nextTag := r.nextTag + 1 }) with
        outbox := p.outbox ++ [.reader l r.nextTag request] }

/-! ### The volume links (04) -/

/-- Arrival and departure: an arrival in EMPTY is identified at once, or held back behind an unsensed termination; one
while a volume is present is taken as a Detach Notice first; link down is a Detach Notice; after either departure the
lane is EMPTY with nothing outstanding and its release list discarded, and the record of the volume that was bound is
DETACHED with no lane, its other facts as they were, the other records untouched. A report of free blocks changes the
bound volume's record; ONLINE with none left enters FULL, FULL with some left goes back to ONLINE with the
condition-changed flag set and the render queue examined. Entry into FULL (R82): the offloads lose the plan volume, a
recopy and a render that write to it end DEST_FULL; of the lane's own requests the verifies stay, an offload write sent
stays outstanding, and of the previews, recopy and render requests none is added. The loss of a plan volume (R65), taken
by the offload of a card that has it in its plan: the card's WRITING entries of origin OFFLOAD on it removed, in the
order of its clip list (the model's choice, log 61), the lane's WAITING writes to it cancelled, the volume out of the
current clip's fan-out. With no plan volume usable, the one lost not counted (the model's inference, log 15), and the
reading not done, the offload ends NO_DESTINATION; else a clip with an empty fan-out is read on without slots, or, read
again, given up for the next position. A WRITING entry removed (R61): a release claim when a block has been written for
it (blocks of an earlier FAILED copy not counted: the model's choice, log 54), the copy's progress gone, its writes
marked for release at their answer, the entry taken out, and the card evaluated. -/
def Obligations.VolumesComeAndGo : Prop :=
  (∀ (p : Part) (d : Fin 4) (v : Nat),
     let was := p.dest d
     let told := ([0, 1, 2, 3, 4, 5] : List (Fin 6)).foldl (fun q l => q.losePlanVolume l v)
       (p.modDest d fun r => { r with state := .full, changed := true })
     let ended := told.endRecopy d .abnormal .destFull .none
     (∀ x, ended.render.active = some x → x.target = v → p.enterFull d v = ended.abortRender .destFull .none) ∧
       ((∀ x, ended.render.active = some x → x.target ≠ v) → p.enterFull d v = ended) ∧
       let r := (p.enterFull d v).dest d
       r.state = .full ∧ r.changed = true ∧ r.verifies = was.verifies ∧ r.sweep = was.sweep ∧ r.guard = was.guard ∧
         (∀ x, r.explicit ≠ some (.recopy x)) ∧
         (∀ x, was.explicit = some (.verify x) → r.explicit = some (.verify x)) ∧
         (∀ o id k n b, was.out = some o → o.request = .write (.slot id) k n b → r.out = some o) ∧
         r.previews.Sublist was.previews ∧ r.recopies.Sublist was.recopies ∧ r.renders.Sublist was.renders) ∧
  (∀ (p : Part) (v : Nat),
     p.losePlanVolumeAll v = ([0, 1, 2, 3, 4, 5] : List (Fin 6)).foldl (fun q l => q.losePlanVolume l v) p) ∧
  (∀ (p : Part) (l : Fin 6) (v : Nat),
     ((p.reader l).offload = none → p.losePlanVolume l v = p) ∧
     ∀ x card, (p.reader l).offload = some x → p.card x.card = some card →
       (v ∉ card.plan.volumes → p.losePlanVolume l v = p) ∧
       (v ∈ card.plan.volumes →
         let q := card.clips.foldl (fun q i => q.removeWriting i v) p
         let kept : List Slot := q.pool.slots.map fun s =>
           { s with writes := s.writes.filter fun w => !(s.lane == l && !s.recopy && w.vol == v && !w.started) }
         p.losePlanVolume l v =
           Part.shrinkFanOut { q with pool := { q.pool with slots := kept.filter fun s => !s.writes.isEmpty } } l v
             (some v))) ∧
  (∀ (p : Part) (l : Fin 6) (v : Nat) (spare : Option Nat) (x : OffloadCtx) (card : Card),
     (p.reader l).offload = some x → p.card x.card = some card →
       let fan (y : Current) : Current := { y with fanOut := y.fanOut.filter fun w => w != v }
       let q := p.modReader l fun r => { r with offload := some { x with current := x.current.map fan } }
       let usable : Prop := ∃ w ∈ card.plan.volumes, p.usable w = true ∧ spare ≠ some w
       let left := p.shrinkFanOut l v spare
       (¬ usable → x.done = none → left = q.stopOffload l .bound .abnormal .noDestination .none) ∧
         (usable ∨ x.done ≠ none →
           (x.current = none → left = q) ∧
           ∀ cur, x.current = some cur →
             ((∃ w ∈ cur.fanOut, w ≠ v) → left = q) ∧
             ((∀ w ∈ cur.fanOut, w = v) →
               let queue := q.pool.queue.filter fun k => k != l
               (cur.reread = false → left = { q with pool := { q.pool with queue := queue } }) ∧
               (cur.reread = true →
                 let slots := q.pool.slots.filter fun s => !(s.lane == l && s.data.isNone)
                 let passed (r : ReaderLane) : ReaderLane :=
                   { r with offload := some { x with current := none } }
                 let freed (r : ReaderLane) : ReaderLane :=
                   if r.out.any fun o => o.owner == .offload then { r with out := none, retries := 0 } else r
                 left =
                   (Part.modReader { q with pool := { slots := slots, queue := queue } } l fun r =>
                     passed (freed r)).consider l)))) ∧
  (∀ (p : Part) (i v : Nat) (c : Clip), p.clip i = some c →
     (c.offloadWriting v = false → p.removeWriting i v = p) ∧
     (c.offloadWriting v = true →
       let claimed := if 0 < (p.progressOf i v).written then p.claimRelease v (c.key false) else p
       let idle := claimed.setProgress i v none
       let marked : Part :=
         { idle with
           pool := { idle.pool with
             slots := idle.pool.slots.map fun s =>
               { s with
                 writes := s.writes.map fun w =>
                   if s.clip == i && !s.recopy && w.vol == v then { w with orphan := true } else w } } }
       let gone :=
         (((marked.modClip i fun c => { c with copies := c.copies.filter fun e => e.vol != v }).evaluateClip i).loseCopy i
           v).loseRecopyCopy i v
       p.removeWriting i v = gone.leaveTally i v false ∧ (p.removeWriting i v).copyState i v = none)) ∧
  (∀ (s : State) (d : Fin 4),
     ((s.part.dest d).state = .empty → (s.part.dest d).present = false →
       ((s.part.dest d).term.unsensed = true →
         exec (.arrivalNotice d) s =
           .next (s.acted (s.part.quiet.modDest d fun r => { r with present := true, identifyPending := true }))) ∧
       ((s.part.dest d).term.unsensed = false → (s.part.dest d).out = none →
         exec (.arrivalNotice d) s =
           .next (s.acted
             ((s.part.quiet.modDest d fun r =>
               { r with present := true, identifyPending := false, state := .identifying }).sendVolume d .identify)))) ∧
     ((s.part.dest d).state ≠ .empty ∨ (s.part.dest d).present = true →
       exec (.arrivalNotice d) s =
         .next (s.acted
           (((s.part.quiet.detachNotice d).modDest d fun r =>
             { r with present := true, identifyPending := true }).startIdentify d))) ∧
     exec (.detachNotice d) s = .next (s.acted (s.part.quiet.detachNotice d)) ∧
     exec (.volumeLinkDown d) s = .next (s.acted (s.part.quiet.detachNotice d)) ∧
     (let r := (s.part.quiet.detachNotice d).dest d
      r.state = .empty ∧ r.present = false ∧ r.out = none ∧ r.release = [] ∧ r.identifyPending = false ∧
        r.ejectOwed = false ∧ r.reidentify = false) ∧
     (s.part.boundVolume d = none →
       s.part.quiet.detachNotice d =
         s.part.quiet.modDest d fun r =>
           { r with state := .empty, out := none, release := [], present := false, identifyPending := false,
                    ejectOwed := false, reidentify := false }) ∧
     (∀ type bytes, exec (.unknownVolumeMessage d type bytes) s = .next (s.acted s.part.quiet))) ∧
  (∀ (p : Part) (d : Fin 4) (v : Nat) (r : Volume), p.boundVolume d = some v → p.volume v = some r →
     (∃ x, (p.detachNotice d).volume v = some x ∧ x.attach = .detached ∧ x.lane = none ∧ x.label = r.label ∧
       x.serial = r.serial ∧ x.role = r.role ∧ x.free = r.free ∧ x.mode = r.mode) ∧
     ∀ w y, w ≠ v → p.volume w = some y →
       ∃ x, (p.detachNotice d).volume w = some x ∧ x.attach = y.attach ∧ x.lane = y.lane ∧ x.label = y.label ∧
         x.serial = y.serial ∧ x.role = y.role ∧ x.free = y.free ∧ x.mode = y.mode) ∧
  (∀ (s : State) (d : Fin 4) (n : Nat),
     (s.part.boundVolume d = none → exec (.freeReport d n) s = .next (s.acted s.part.quiet)) ∧
     ∀ v, s.part.boundVolume d = some v →
       let p := s.part.quiet.modVolume v fun r => { r with free := n }
       ((s.part.dest d).state = .online → n = 0 → exec (.freeReport d n) s = .next (s.acted (p.enterFull d v))) ∧
       ((s.part.dest d).state = .full → 0 < n →
         exec (.freeReport d n) s =
           .next (s.acted (p.modDest d fun r => { r with state := .online, changed := true }).examine)) ∧
       (((s.part.dest d).state = .online ∧ 0 < n) ∨ ((s.part.dest d).state = .full ∧ n = 0) ∨
           ((s.part.dest d).state ≠ .online ∧ (s.part.dest d).state ≠ .full) →
         exec (.freeReport d n) s = .next (s.acted p)))

/-- An Identify Answer on a lane with no volume bound: a record of the identity, or a new one, is attached; an identity
bound to another lane, or a full table, leaves the lane REFUSED with its termination. What an attach leaves: the record
bound to the lane, ONLINE or ONLINE_READONLY by its protection, with the free blocks reported; the lane ONLINE, FULL
when no block is free, or ONLINE_READONLY, its condition-changed flag set; and the termination ATTACHED with the
attachment and the free blocks. On a lane whose volume is still bound, the identification after a reset: the same
identity replaces the attachment and the free blocks, moves the lane to the state of an attach with no termination, and
hands the volume on, one turned FULL or read-only as such; another identity detaches the old volume first, with its
release list discarded, and is then decided the same way. The counts of ATTACHED and the reference of an identity
refused are the model's choice (log 18); the hand-on of a volume turned FULL or read-only, and the release list
discarded, are its inference (log 21); that a recopy or a render to a volume turned read-only goes on is its choice
(log 42). -/
def Obligations.VolumeIdentified : Prop :=
  (∀ (s : State) (d : Fin 4) (tag : Byte) (label : List Byte) (serial : BitVec 64) (prot : Bool) (free : Nat)
    (o : VolumeOut), (s.part.dest d).out = some o → o.tag = tag → o.request = .identify →
    let p := s.part.quiet.modDest d fun r => { r with out := none }
    (s.part.boundVolume d = none →
      exec (.identifyAnswer d tag label serial prot free) s =
        .next (s.acted (p.decideVolume d label serial prot free))) ∧
    ∀ v r, s.part.boundVolume d = some v → s.part.volume v = some r →
      (r.label = label ∧ r.serial = serial →
        let after : DestState := if prot then .onlineReadonly else if free = 0 then .full else .online
        let before := (s.part.dest d).state
        let q :=
          (((p.modVolume v fun x =>
              { x with attach := if prot then .onlineReadonly else .online, free := free }).modDest d fun x =>
              { x with state := after, reidentify := false, changed := x.changed || before != after }).evaluateVolume
              v).examine.regainAll
        (before = after ∨ after = .online →
          exec (.identifyAnswer d tag label serial prot free) s = .next (s.acted q)) ∧
        (before ≠ after → after = .full →
          exec (.identifyAnswer d tag label serial prot free) s = .next (s.acted (q.enterFull d v))) ∧
        (before ≠ after → after = .onlineReadonly →
          exec (.identifyAnswer d tag label serial prot free) s = .next (s.acted (q.losePlanVolumeAll v)))) ∧
      (r.label ≠ label ∨ r.serial ≠ serial →
        exec (.identifyAnswer d tag label serial prot free) s =
          .next (s.acted
            (((p.detach d v).modDest d fun x => { x with release := [] }).decideVolume d label serial prot free)))) ∧
  (∀ (p : Part) (d : Fin 4) (label : List Byte) (serial : BitVec 64) (prot : Bool) (free : Nat),
    let known := p.volumes.find? fun e => e.2.label == label && e.2.serial == serial
    let refusal (cause : Cause) : Part :=
      p.modDest d fun r =>
        { r with
          state := .refused
          term :=
            { record := some
                { cls := .abnormal, op := .identify, cause := cause, ref := .volumeIdentity label serial, counts := [],
                  detail := .none }
              unsensed := true } }
    let decided := p.decideVolume d label serial prot free
    (∀ v r, known = some (v, r) → r.lane = none ∨ r.lane = some d → decided = p.attach d v prot free) ∧
    (∀ v r e, known = some (v, r) → r.lane = some e → e ≠ d → decided = refusal .identityConflict) ∧
    (∀ v, known = none → tfree p.volumes 8 = some v →
      decided =
        Part.attach
          { p with
            volumes := tset p.volumes v
              { label := label, serial := serial, role := .archive, lane := none, attach := .detached, free := 0,
                mode := .auto, verifyList := [] } }
          d v prot free) ∧
    (known = none → tfree p.volumes 8 = none → decided = refusal .volumeTableFull)) ∧
  ∀ (p : Part) (d : Fin 4) (v : Nat) (prot : Bool) (free : Nat) (r : Volume), p.volume v = some r →
    let attachment : Attachment := if prot then .onlineReadonly else .online
    let q := p.attach d v prot free
    (∃ x, q.volume v = some x ∧ x.lane = some d ∧ x.attach = attachment ∧ x.free = free ∧ x.label = r.label ∧
      x.serial = r.serial ∧ x.role = r.role ∧ x.mode = r.mode) ∧
    (q.dest d).state = (if prot then .onlineReadonly else if free = 0 then .full else .online) ∧
    (q.dest d).changed = true ∧
    (q.dest d).term =
      { record := some
          { cls := .normal, op := .identify, cause := .attached, ref := .volume v,
            counts := [attachment.code, free % 4294967296, free / 4294967296], detail := .none }
        unsensed := true }

/-- The other answers of a volume to the request outstanding: each frees the link; a write goes to its requester, then
the free blocks (the write first: the model's choice, log 53); a read, a block or unreadable, to its requester; a
release its free blocks; an Eject Answer nothing more; a Fault Answer is a failed write or an unreadable read. An answer
of a volume that no outstanding request carries the tag of changes nothing. What the requesters do: a block of an
offload joins its copy's progress, or is released when its entry is gone (R61), and the last one is the write end (R59),
WRITTEN at the tail of the verify list for an equal digest, else FAILED; clips copied rises when the last entry of the
clip's fan-out leaves WRITING and one became WRITTEN. A write of an offload that ends unwritten (R54) leaves its slot;
its entry is removed, the clip's other WAITING writes to the volume are cancelled, and the volume leaves the fan-out of
the clip when it is being read; but one whose own entry was removed and has been made anew, or whose recopy has ended,
only leaves its slot (for the entry made anew the model's choice, log 60). A verify goes on to its next block or to its
result (R96), VERIFIED with the COPY_MISMATCH entry cured, else FAILED with COPY_MISMATCH merged, each before the change
is handed on (R93); a recopy goes on to its next block or to its write end (R106), loses its source at an unreadable
block (R107), and ends with its entry on the target removed, its lane and its reader free and its termination left
(R108); a preview read whose block check differs is unreadable (R170). A message of a volume in bytes is the command of
its type, its tag and its fields, the low byte of a number first (first outcomes, and bytes beyond a layout not read:
the model's choice, log 45). That a block whose check differs is not counted among those read (log 40), and the details
of a mismatch, block index 0 with DIGEST and the same kind for a recopy (log 28), are the model's choice. -/
def Obligations.VolumeAnswered : Prop :=
  (∀ (s : State) (d : Fin 4) (tag : Byte) (o : VolumeOut), (s.part.dest d).out = some o → o.tag = tag →
     let p := s.part.quiet.modDest d fun r => { r with out := none }
     (∀ owner key n b, o.request = .write owner key n b →
       (∀ stored free, s.part.boundVolume d = none →
         exec (.writeAnswer d tag stored free) s = .next (s.acted p)) ∧
       ∀ v, s.part.boundVolume d = some v →
         (∀ free, exec (.writeAnswer d tag true free) s =
           .next (s.acted ((p.writeStored d v owner key b).setFree d free))) ∧
         (∀ free, exec (.writeAnswer d tag false free) s =
           .next (s.acted ((p.writeUnwritten d v owner .destFull .destFull .none).setFree d 0))) ∧
         (∀ code, exec (.volumeFaultAnswer d tag code) s =
           .next (s.acted (p.writeUnwritten d v owner .stalled .stalled (.code code))))) ∧
     (∀ owner key n, o.request = .read owner key n →
       (∀ b, exec (.readAnswer d tag b) s = .next (s.acted (p.readAnswered d owner b))) ∧
       (∀ code, exec (.volumeFaultAnswer d tag code) s = .next (s.acted (p.readAnswered d owner none)))) ∧
     (∀ key, o.request = .release key →
       (∀ freed free, exec (.releaseAnswer d tag freed free) s = .next (s.acted (p.setFree d free))) ∧
       (∀ code, exec (.volumeFaultAnswer d tag code) s = .next (s.acted p))) ∧
     (o.request = .eject →
       exec (.ejectAnswer d tag) s = .next (s.acted p) ∧
       (∀ code, exec (.volumeFaultAnswer d tag code) s = .next (s.acted p)))) ∧
  (∀ (s : State) (d : Fin 4) (tag : Byte), (∀ o, (s.part.dest d).out = some o → o.tag ≠ tag) →
     (∀ label serial prot free,
       exec (.identifyAnswer d tag label serial prot free) s = .next (s.acted s.part.quiet)) ∧
     (∀ stored free, exec (.writeAnswer d tag stored free) s = .next (s.acted s.part.quiet)) ∧
     (∀ b, exec (.readAnswer d tag b) s = .next (s.acted s.part.quiet)) ∧
     (∀ freed free, exec (.releaseAnswer d tag freed free) s = .next (s.acted s.part.quiet)) ∧
     exec (.ejectAnswer d tag) s = .next (s.acted s.part.quiet) ∧
     (∀ code, exec (.volumeFaultAnswer d tag code) s = .next (s.acted s.part.quiet))) ∧
  (∀ (p : Part) (d : Fin 4) (id v : Nat) (key : CopyKey) (x : Stored) (s : Slot) (w : SlotWrite) (b : Block) (c : Clip),
     p.slot id = some s → s.recopy = false → s.writes.find? (fun w => w.vol == v) = some w → s.data = some b →
     p.clip s.clip = some c →
       let old := p.progressOf s.clip v
       let q := p.endWrite s.id v
       (w.orphan = true ∨ c.offloadWriting v = false →
         p.writeStored d v (.slot id) key x = q.claimRelease v s.key) ∧
       (w.orphan = false → c.offloadWriting v = true → old.written + 1 < c.blockCount →
         p.writeStored d v (.slot id) key x =
           q.setProgress s.clip v
             (some { clip := s.clip, written := old.written + 1, digest := digestAdd old.digest b })) ∧
       (w.orphan = false → c.offloadWriting v = true → c.blockCount ≤ old.written + 1 →
         p.writeStored d v (.slot id) key x =
           (q.setProgress s.clip v none).writeEnd s.clip v (digestFinal (digestAdd old.digest b)))) ∧
  (∀ (p : Part) (d : Fin 4) (id v : Nat) (s : Slot) (w : SlotWrite) (ends renders : Cause) (detail : Detail),
     p.slot id = some s → s.writes.find? (fun w => w.vol == v) = some w →
       let left : List Slot := p.pool.slots.map fun y =>
         { y with writes := y.writes.filter fun w => !(y.id == s.id && w.vol == v) }
       let q : Part := { p with pool := { p.pool with slots := left.filter fun y => !y.writes.isEmpty } }
       let unwritten := p.writeUnwritten d v (.slot id) ends renders detail
       let renewed : Prop := ∃ c, p.clip s.clip = some c ∧ c.offloadWriting v = true
       p.endWrite s.id v = q ∧
         (w.orphan = true → s.recopy = true ∨ renewed → unwritten = q) ∧
         (w.orphan = false → s.recopy = true → unwritten = q.endRecopy d .abnormal ends detail) ∧
         (w.orphan = false ∨ ¬ renewed → s.recopy = false →
           let gone := q.removeWriting s.clip v
           let kept : List Slot := gone.pool.slots.map fun y =>
             { y with writes := y.writes.filter fun w => !(y.clip == s.clip && !y.recopy && w.vol == v && !w.started) }
           let cancelled : Part :=
             { gone with pool := { gone.pool with slots := kept.filter fun y => !y.writes.isEmpty } }
           let reading : Prop :=
             ∃ x cur, (cancelled.reader s.lane).offload = some x ∧ x.current = some cur ∧ cur.clip = s.clip
           (reading → unwritten = cancelled.shrinkFanOut s.lane v none) ∧ (¬ reading → unwritten = cancelled)) ∧
         (s.recopy = true → ∀ key x b, s.data = some b →
           (w.orphan = true → p.writeStored d v (.slot id) key x = q.claimRelease v s.key) ∧
           (w.orphan = false → p.writeStored d v (.slot id) key x = q.recopyWritten d b))) ∧
  (∀ (p : Part) (d : Fin 4) (v : Nat) (ends renders : Cause) (detail : Detail) (key : CopyKey),
     p.writeUnwritten d v .recopy ends renders detail = p.endRecopy d .abnormal ends detail ∧
       p.writeUnwritten d v .render ends renders detail = p.abortRender renders detail ∧
       p.writeUnwritten d v .late ends renders detail = p ∧
       (∀ b, p.writeStored d v .recopy key (.copy b) = p.recopyWritten d b) ∧
       (∀ x, p.writeStored d v .render key x = p.renderWritten) ∧
       ∀ x, p.writeStored d v .late key x = p.claimRelease v key) ∧
  (∀ (p : Part) (d : Fin 4) (c : Fin 2) (b : Block),
     (b.computedCheck = b.check → p.readAnswered d (.preview c) (some b) = p.channelAnswer c (some b)) ∧
       (b.computedCheck ≠ b.check → p.readAnswered d (.preview c) (some b) = p.channelAnswer c none) ∧
       p.readAnswered d (.preview c) none = p.channelAnswer c none ∧
       (∀ x, p.readAnswered d .render x = p.renderBlock x) ∧ ∀ x, p.readAnswered d .dropped x = p) ∧
  (∀ (p : Part) (i v : Nat) (written : Bool) (l : Fin 6) (c : Clip) (x : OffloadCtx) (y : Tally),
     p.clip i = some c → p.offloadLane c.card = some l → (p.reader l).offload = some x →
       (x.tally.find? fun y => y.clip == i) = some y →
         let left := y.volumes.filter fun w => w != v
         let tallied (ys : List Tally) : Part :=
           p.modReader l fun r => { r with offload := some { x with tally := ys } }
         let last := tallied (x.tally.filter fun y => y.clip != i)
         (v ∉ y.volumes → p.leaveTally i v written = p) ∧
         (v ∈ y.volumes → left ≠ [] →
           p.leaveTally i v written =
             tallied (x.tally.map fun z =>
               if z.clip = i then { z with volumes := left, written := y.written || written } else z)) ∧
         (v ∈ y.volumes → left = [] →
           (y.written = true ∨ written = true →
             p.leaveTally i v written = last.modCard x.card fun c => { c with copied := c.copied + 1 }) ∧
           (y.written = false → written = false → p.leaveTally i v written = last))) ∧
  (∀ (p : Part) (i v : Nat) (digest : BitVec 64) (c : Clip) (r : Volume), p.clip i = some c → p.volume v = some r →
     (c.offloadWriting v = false → p.writeEnd i v digest = p) ∧
     (c.offloadWriting v = true →
       (c.ingestDigest = some digest →
         p.writeEnd i v digest =
           ((p.modVolume v fun r =>
             { r with verifyList := if i ∈ r.verifyList then r.verifyList else r.verifyList ++ [i] }).copyTo i v
             .written).leaveTally i v true) ∧
       (c.ingestDigest ≠ some digest → p.writeEnd i v digest = (p.failCopy i v .digest).leaveTally i v false))) ∧
  (∀ (p : Part) (i v : Nat),
     (p.copyState i v = none →
       (∀ st, p.copyTo i v st = p) ∧ p.proveCopy i v = p ∧ ∀ m, p.failCopy i v m = p) ∧
     ∀ old, p.copyState i v = some old →
       let set (st : CopyState) : Part :=
         p.modClip i fun c =>
           { c with copies := c.copies.map fun e => if e.vol == v then { e with state := st } else e }
       (∀ st, p.copyTo i v st = (set st).handOn i v old st) ∧
       p.proveCopy i v =
         ((set .verified).removeFaults i fun f => f.kind == .copyMismatch && f.vol == v).handOn i v old .verified ∧
       ∀ m, p.failCopy i v m =
         ((set (.failed m)).mergeFault i
           { kind := .copyMismatch, vol := v, count := 1, saturated := false, firstFrame := none, firstSite := none,
             detail := some (.mismatch m) }).handOn i v old (.failed m)) ∧
  (∀ (p : Part) (i v : Nat) (old : CopyState),
     let q := p.evaluateClip i
     let reading : Prop := old = .verified ∧ ∃ x, p.render.active = some x ∧ x.source = v ∧ x.clip = i
     p.handOn i v old .verified = q.examine.regainClip i ∧ p.handOn i v old .written = q.examine.regainClip i ∧
       p.handOn i v old .writing = q ∧
       (reading →
         p.handOn i v old .verifying = q.abortRender .sourceLost .none ∧
           ∀ m, p.handOn i v old (.failed m) =
             ((q.abortRender .sourceLost .none).loseCopy i v).loseRecopyCopy i v) ∧
       (¬ reading →
         p.handOn i v old .verifying = q ∧
           ∀ m, p.handOn i v old (.failed m) = (q.loseCopy i v).loseRecopyCopy i v)) ∧
  (∀ (p : Part) (d : Fin 4) (explicit : Bool) (x : VerifyCtx) (c : Clip) (b : Block),
     p.verifyOf d explicit = some x → p.clip x.clip = some c →
       let owner : ReadOwner := if explicit then .explicit else .sweep
       let y : VerifyCtx := { x with next := x.next + 1, digest := digestAdd x.digest b, read := x.read + 1 }
       p.readAnswered d owner none = p.verifyResult d explicit x (some .unreadable) ∧
       (b.computedCheck ≠ b.check →
         p.readAnswered d owner (some b) = p.verifyResult d explicit x (some .unreadable)) ∧
       (b.computedCheck = b.check → x.next + 1 < c.blockCount →
         p.readAnswered d owner (some b) =
           (p.setVerify d explicit (some y)).queueVerify d explicit x.clip (x.next + 1)) ∧
       (b.computedCheck = b.check → c.blockCount ≤ x.next + 1 →
         (c.ingestDigest = some (digestFinal y.digest) →
           p.readAnswered d owner (some b) = p.verifyResult d explicit y none) ∧
         (c.ingestDigest ≠ some (digestFinal y.digest) →
           p.readAnswered d owner (some b) = p.verifyResult d explicit y (some .digest)))) ∧
  (∀ (p : Part) (d : Fin 4) (explicit : Bool) (x : VerifyCtx) (r : Volume),
     p.copyState x.clip x.vol ≠ none → p.volume x.vol = some r →
       let q := p.setVerify d explicit none
       let ended (q : Part) (cause : Cause) (detail : Detail) : Part :=
         if explicit then
           q.termDest d
             { cls := .normal, op := .verify, cause := cause, ref := .copy x.clip x.vol, counts := [x.read],
               detail := detail }
         else q
       p.verifyResult d explicit x none = ended (q.proveCopy x.clip x.vol) .verified .none ∧
       p.verifyResult d explicit x (some .digest) =
         ended (q.failCopy x.clip x.vol .digest) .mismatch (.mismatch .digest 0) ∧
       p.verifyResult d explicit x (some .unreadable) =
         ended (q.failCopy x.clip x.vol .unreadable) .mismatch (.mismatch .unreadable x.next)) ∧
  (∀ (p : Part) (d t : Fin 4) (x : RecopyCtx) (c : Clip) (b : Block), p.recopyOf t = some x → p.clip x.clip = some c →
     let lost := p.endRecopy t .abnormal .noSourceLeft (.mismatch .unreadable x.next)
     p.readAnswered d (.recopy t) none = lost ∧
     (b.computedCheck ≠ b.check → p.readAnswered d (.recopy t) (some b) = lost) ∧
     (b.computedCheck = b.check →
       p.readAnswered d (.recopy t) (some b) =
         p.modDest t fun r => { r with recopies := r.recopies ++ [.write (c.key false) x.next b] }) ∧
     (let y : RecopyCtx :=
        { x with
          digest := digestAdd x.digest b
          written := x.written + 1
          next := match x.source with
            | .volume _ => x.written + 1
            | .card _ _ => x.next }
      (x.written + 1 < c.blockCount →
        p.recopyWritten t b =
          (p.modDest t fun r => { r with explicit := some (.recopy y) }).recopyRead t) ∧
      (c.blockCount ≤ x.written + 1 → p.recopyWritten t b = p.recopyEnd t y (digestFinal y.digest)))) ∧
  (∀ (p : Part) (d : Fin 4) (x : RecopyCtx) (digest : BitVec 64),
     let q :=
       (match x.source with
        | .card l _ => (p.leaveQueue l).modReader l fun r => { r with serves := none }
        | .volume _ => p).modDest d fun r => { r with explicit := none }
     let ended (q : Part) (cause : Cause) (detail : Detail) : Part :=
       q.termDest d
         { cls := .normal, op := .recopy, cause := cause, ref := .recopy x.clip x.target x.source,
           counts := [x.written], detail := detail }
     ((p.clip x.clip).bind (·.ingestDigest) = some digest →
       p.recopyEnd d x digest =
         ended
           ((q.modVolume x.target fun r =>
             { r with
               verifyList := if x.clip ∈ r.verifyList then r.verifyList else r.verifyList ++ [x.clip] }).copyTo x.clip
             x.target .written)
           .recopied .none) ∧
     ((p.clip x.clip).bind (·.ingestDigest) ≠ some digest →
       p.recopyEnd d x digest = ended (q.failCopy x.clip x.target .digest) .mismatch (.mismatch .digest 0))) ∧
  (∀ (p : Part) (d : Fin 4) (cls : TermClass) (cause : Cause) (detail : Detail),
     (p.recopyOf d = none → p.endRecopy d cls cause detail = p) ∧
     ∀ x, p.recopyOf d = some x →
       let q := p.endRecopy d cls cause detail
       (q.dest d).explicit = none ∧ q.copyState x.clip x.target = none ∧
         (∀ l k, x.source = .card l k → (q.reader l).serves = none) ∧
         (q.dest d).term =
           { record := some
               { cls := cls, op := .recopy, cause := cause, ref := .recopy x.clip x.target x.source,
                 counts := [x.written], detail := detail }
             unsensed := true }) ∧
  ∀ (d : Fin 4) (tag : Byte) (fields : List Byte),
    (∀ (label : List Byte) (serial : BitVec 64) (prot : Byte) (free : Nat), label.length = 16 → free < 2 ^ 48 →
      volumeCommand d ([0x91, tag] ++ label ++ leBytes 8 serial.toNat ++ [prot] ++ leBytes 6 free) =
        .identifyAnswer d tag label serial (prot != 0) free) ∧
    (∀ (x : Byte) (free : Nat), free < 2 ^ 48 →
      volumeCommand d ([0x92, tag, x] ++ leBytes 6 free) = .writeAnswer d tag (x == 0) free) ∧
    volumeCommand d ([0x93, tag, 0] ++ fields) = .readAnswer d tag (some (Block.ofBytes fields)) ∧
    (∀ x : Byte, x ≠ 0 → volumeCommand d ([0x93, tag, x] ++ fields) = .readAnswer d tag none) ∧
    (∀ freed free : Nat, freed < 2 ^ 32 → free < 2 ^ 48 →
      volumeCommand d ([0x94, tag] ++ leBytes 4 freed ++ leBytes 6 free) = .releaseAnswer d tag freed free) ∧
    volumeCommand d ([0x95, tag] ++ fields) = .ejectAnswer d tag ∧
    (∀ lo hi : Byte, volumeCommand d ([0x96, tag, lo, hi] ++ fields) = .volumeFaultAnswer d tag (hi ++ lo)) ∧
    volumeCommand d ([0x97, tag] ++ fields) = .arrivalNotice d ∧
    volumeCommand d ([0x98, tag] ++ fields) = .detachNotice d ∧
    (∀ free : Nat, free < 2 ^ 48 → volumeCommand d ([0x99, tag] ++ leBytes 6 free) = .freeReport d free) ∧
    (∀ type : Byte, type.toNat < 0x91 ∨ 0x99 < type.toNat →
      volumeCommand d ([type, tag] ++ fields) = .unknownVolumeMessage d type ([tag] ++ fields)) ∧
    (Message.volume d tag .identify).bytes = some [0x11, tag] ∧
    (∀ owner key n b, (Message.volume d tag (.write owner key n b)).bytes =
      some ([0x12, tag] ++ key.bytes ++ leBytes 4 n ++ b.bytes)) ∧
    (∀ owner key n, (Message.volume d tag (.read owner key n)).bytes =
      some ([0x13, tag] ++ key.bytes ++ leBytes 4 n)) ∧
    (∀ key, (Message.volume d tag (.release key)).bytes = some ([0x14, tag] ++ key.bytes)) ∧
    (Message.volume d tag .eject).bytes = some [0x15, tag]

/-- A destination stall: nothing with no request outstanding or its timer disabled; a release or an eject is dropped; an
identification fails STALLED and a Fault Answer to it likewise; a write or a read tells its requester first, and the
volume leaves and arrives anew. A sweep whose own read has stalled is told so (R98): its read is gone, its entry returns
to WRITTEN at the head of the verify list and is handed on before the volume leaves, and its clip stays ahead of that of
a Verify Copy that the departure returns (R101). Whom a free volume link serves. The arbiter (R84, R85): the head of the
release list; with 16 on the verify guard the oldest verify read; then the oldest preview read, the next offload write,
the oldest recopy request, verify read, render request. The offload write is the first of the next reader lane,
round-robin after the one last served, that has a block PRESENT with a WAITING write to the volume. A preview, offload,
recopy or render request raises the guard, stopping at 16, while a verify read waits; a verify read, and an empty verify
queue, set it to 0. With no volume bound an Eject that is owed sends the release list and then its request (R88), and a
held-back identification starts (R79); an identification owed after a reset waits for the release list alone (R90). A
request sent takes the next tag and starts the stall timer. What follows every event (the order is the model's choice,
log 5): drained offloads end, sweeps take their next verify, but on a lane that awaits the Identify Answer after a reset
(the model's inference, log 39), the channels read on, slots are claimed and granted, the reader links and then the
volume links send. -/
def Obligations.DestStalled : Prop :=
  (∀ (s : State) (d : Fin 4),
    let p := s.part.quiet.modDest d fun r => { r with out := none }
    ((∀ o, (s.part.dest d).out = some o → o.timer = none) →
      exec (.destStallExpiry d) s = .next (s.acted s.part.quiet)) ∧
    ∀ o t, (s.part.dest d).out = some o → o.timer = some t →
      (o.request = .eject ∨ (∃ k, o.request = .release k) → exec (.destStallExpiry d) s = .next (s.acted p)) ∧
      (o.request = .identify → exec (.destStallExpiry d) s = .next (s.acted (p.identifyFailed d .none))) ∧
      (∀ code, o.request = .identify →
        exec (.volumeFaultAnswer d o.tag code) s = .next (s.acted (p.identifyFailed d (.code code)))) ∧
      ∀ v, s.part.boundVolume d = some v →
        let gone := (p.tellStalled d v o.request).detachNotice d
        ((∃ w k n b, o.request = .write w k n b) ∨ (∃ w k n, w ≠ .sweep ∧ o.request = .read w k n) →
          exec (.destStallExpiry d) s = .next (s.acted (gone.arrival d))) ∧
        ((∃ k n, o.request = .read .sweep k n) →
          ((s.part.dest d).sweep = none → exec (.destStallExpiry d) s = .next (s.acted (gone.arrival d))) ∧
          ∀ x, (s.part.dest d).sweep = some x →
            exec (.destStallExpiry d) s =
              .next (s.acted
                ((gone.modVolume x.vol fun r =>
                  { r with verifyList := x.clip :: r.verifyList.filter fun i => i != x.clip }).arrival d)))) ∧
  (∀ (p : Part) (d : Fin 4) (v : Nat) (k : CopyKey) (n : Nat),
    let told := p.tellStalled d v (.read .sweep k n)
    ((p.dest d).sweep = none → told = p) ∧
    ∀ x, (p.dest d).sweep = some x →
      let idle := p.modDest d fun r => { r with sweep := none, verifies := r.verifies.filter fun i => i.explicit }
      (x.prior = .written →
        told =
          (idle.modVolume x.vol fun r =>
            { r with verifyList := x.clip :: r.verifyList.filter fun i => i != x.clip }).copyTo x.clip x.vol .written) ∧
      (x.prior ≠ .written → told = idle.copyTo x.clip x.vol x.prior)) ∧
  (∀ (p : Part) (d : Fin 4) (v : Nat),
     let r := p.dest d
     let raised (x : DestLane) : Nat := if x.verifies = [] then x.guard else min (x.guard + 1) 16
     let verify (i : VerifyItem) : Part :=
       (p.modDest d fun x => { x with verifies := x.verifies.tail, guard := 0 }).sendVolume d
         (.read (if i.explicit then .explicit else .sweep) i.key i.index)
     (∀ k rest, r.release = k :: rest →
       p.arbitrate d v = (p.modDest d fun x => { x with release := rest }).sendVolume d (.release k)) ∧
     (r.release = [] →
       (∀ i rest, r.verifies = i :: rest → 16 ≤ r.guard → p.arbitrate d v = verify i) ∧
       (r.verifies = [] ∨ r.guard < 16 →
         (∀ i rest, r.previews = i :: rest →
           p.arbitrate d v =
             (p.modDest d fun x => { x with previews := rest, guard := raised x }).sendVolume d
               (.read (.preview i.channel) i.key i.index)) ∧
         (∀ s b, r.previews = [] → p.nextOffload d v = some (s, b) →
           p.arbitrate d v =
             ((p.modDest d fun x => { x with robin := s.lane + 1, guard := raised x }).startWrite s.id v).sendVolume d
               (.write (.slot s.id) s.key s.index (.copy b))) ∧
         (r.previews = [] → p.nextOffload d v = none →
           (∀ i rest, r.recopies = i :: rest →
             let q := p.modDest d fun x => { x with recopies := rest, guard := raised x }
             (∀ t k n, i = .read t k n → p.arbitrate d v = q.sendVolume d (.read (.recopy t) k n)) ∧
             (∀ k n b, i = .write k n b → p.arbitrate d v = q.sendVolume d (.write .recopy k n (.copy b))) ∧
             ∀ id s b, i = .slot id → p.slot id = some s → s.data = some b →
               p.arbitrate d v = (q.startWrite id v).sendVolume d (.write (.slot id) s.key s.index (.copy b))) ∧
           (∀ i rest, r.recopies = [] → r.verifies = i :: rest → p.arbitrate d v = verify i) ∧
           (∀ i rest, r.recopies = [] → r.verifies = [] → r.renders = i :: rest →
             let q := p.modDest d fun x => { x with renders := rest }
             (∀ k n, i = .read k n → p.arbitrate d v = q.sendVolume d (.read .render k n)) ∧
             ∀ k n b, i = .write k n b → p.arbitrate d v = q.sendVolume d (.write .render k n (.proxy b))) ∧
           (r.recopies = [] → r.verifies = [] → r.renders = [] → p.arbitrate d v = p))))) ∧
  (∀ (p : Part) (d : Fin 4) (v : Nat) (s : Slot) (b : Block),
     let first (l : Fin 6) : Option Slot := p.pool.slots.find? fun s =>
       s.lane == l && !s.recopy && s.data.isSome && s.writes.any fun w => w.vol == v && !w.started
     (p.nextOffload d v = some (s, b) ↔
       ∃ k : Fin 6, first ((p.dest d).robin + k) = some s ∧ s.data = some b ∧
         ∀ j : Fin 6, j < k → first ((p.dest d).robin + j) = none) ∧
     (p.nextOffload d v = none ↔ ∀ l, first l = none)) ∧
  (∀ (p : Part) (d : Fin 4),
     let r := p.dest d
     let q := p.modDest d fun x => { x with guard := if x.verifies = [] then 0 else x.guard }
     let released (k : CopyKey) (rest : List CopyKey) : Part :=
       (q.modDest d fun x => { x with release := rest }).sendVolume d (.release k)
     (r.out ≠ none → p.serveDest d = q) ∧
     (r.out = none →
       (∀ v, p.boundVolume d = some v →
         (r.reidentify = false → p.serveDest d = q.arbitrate d v) ∧
         (∀ k rest, r.reidentify = true → r.release = k :: rest → p.serveDest d = released k rest) ∧
         (r.reidentify = true → r.release = [] → p.serveDest d = q.sendVolume d .identify)) ∧
       (p.boundVolume d = none →
         (r.state = .empty → r.ejectOwed = true →
           (∀ k rest, r.release = k :: rest → p.serveDest d = released k rest) ∧
           (r.release = [] →
             p.serveDest d = (q.modDest d fun x => { x with ejectOwed := false }).sendVolume d .eject)) ∧
         (r.state ≠ .empty ∨ r.ejectOwed = false →
           (r.state = .empty → r.identifyPending = true → r.term.unsensed = false →
             p.serveDest d =
               (q.modDest d fun x => { x with state := .identifying, identifyPending := false }).sendVolume d
                 .identify) ∧
           (r.state ≠ .empty ∨ r.identifyPending = false ∨ r.term.unsensed = true → p.serveDest d = q))))) ∧
  (∀ (p : Part) (d : Fin 4) (request : VolumeRequest),
     let r := p.dest d
     p.sendVolume d request =
       { (p.modDest d fun x =>
           { x with
             out := some { tag := r.nextTag, request := request,
                           timer := if r.stallCount = 0 then none else some (r.stallCount * 10 * 2 ^ r.stallExp) }
             nextTag := r.nextTag + 1 }) with
         outbox := p.outbox ++ [.volume d r.nextTag request] }) ∧
  ∀ p : Part,
    let swept := ([0, 1, 2, 3] : List (Fin 4)).foldl (fun q d => if (q.dest d).reidentify then q else q.takeSweep d)
      (([0, 1, 2, 3, 4, 5] : List (Fin 6)).foldl Part.drainEnd p)
    let granted := Part.grantSlots 54 swept.pumpChannels.joinQueue
    p.settle =
      ([0, 1, 2, 3] : List (Fin 4)).foldl Part.serveDest
        (([0, 1, 2, 3, 4, 5] : List (Fin 6)).foldl Part.serveReader granted)

/-! ### Checks and digests (11) -/

/-- Moving a register of the block check or of the clip digest on by n bytes of 0 at once is the same as n bytes of 0
in turn, for every n below 2 to the power 23. -/
def Obligations.ZerosAtOnce : Prop :=
  (∀ (r : BitVec 32) (n : Nat), n < 2 ^ 23 → crcZeros checkPoly r n = crcBytes checkPoly r (List.replicate n 0)) ∧
    ∀ (r : BitVec 64) (n : Nat), n < 2 ^ 23 → crcZeros digestPoly r n = crcBytes digestPoly r (List.replicate n 0)
end

