-- ==== Sys2Proof/Laws/State.lean ====
section
/-! SUPPORT. What each update of the part does to each of its fields and to each lookup, so that no proof unfolds a record
update. -/

namespace Sys2Proof.Machine

/-! ### `modReader` -/

@[simp] theorem Part.modReader_cards (p : Part) (l : Fin 6) (f : ReaderLane → ReaderLane) :
    (p.modReader l f).cards = p.cards := rfl
@[simp] theorem Part.modReader_clips (p : Part) (l : Fin 6) (f : ReaderLane → ReaderLane) :
    (p.modReader l f).clips = p.clips := rfl
@[simp] theorem Part.modReader_cameras (p : Part) (l : Fin 6) (f : ReaderLane → ReaderLane) :
    (p.modReader l f).cameras = p.cameras := rfl
@[simp] theorem Part.modReader_standing (p : Part) (l : Fin 6) (f : ReaderLane → ReaderLane) :
    (p.modReader l f).standing = p.standing := rfl
@[simp] theorem Part.modReader_readers (p : Part) (l : Fin 6) (f : ReaderLane → ReaderLane) :
    (p.modReader l f).readers = p.readers.set l.val (f (p.reader l)) l.isLt := rfl
@[simp] theorem Part.modReader_pool (p : Part) (l : Fin 6) (f : ReaderLane → ReaderLane) :
    (p.modReader l f).pool = p.pool := rfl
@[simp] theorem Part.modReader_dests (p : Part) (l : Fin 6) (f : ReaderLane → ReaderLane) :
    (p.modReader l f).dests = p.dests := rfl
@[simp] theorem Part.modReader_volumes (p : Part) (l : Fin 6) (f : ReaderLane → ReaderLane) :
    (p.modReader l f).volumes = p.volumes := rfl
@[simp] theorem Part.modReader_fault (p : Part) (l : Fin 6) (f : ReaderLane → ReaderLane) :
    (p.modReader l f).fault = p.fault := rfl
@[simp] theorem Part.modReader_looks (p : Part) (l : Fin 6) (f : ReaderLane → ReaderLane) :
    (p.modReader l f).looks = p.looks := rfl
@[simp] theorem Part.modReader_render (p : Part) (l : Fin 6) (f : ReaderLane → ReaderLane) :
    (p.modReader l f).render = p.render := rfl
@[simp] theorem Part.modReader_channels (p : Part) (l : Fin 6) (f : ReaderLane → ReaderLane) :
    (p.modReader l f).channels = p.channels := rfl
@[simp] theorem Part.modReader_attention (p : Part) (l : Fin 6) (f : ReaderLane → ReaderLane) :
    (p.modReader l f).attention = p.attention := rfl
@[simp] theorem Part.modReader_outbox (p : Part) (l : Fin 6) (f : ReaderLane → ReaderLane) :
    (p.modReader l f).outbox = p.outbox := rfl
@[simp] theorem Part.dest_modReader (p : Part) (l : Fin 6) (f : ReaderLane → ReaderLane) (k : Fin 4) :
    (p.modReader l f).dest k = p.dest k := rfl
@[simp] theorem Part.channel_modReader (p : Part) (l : Fin 6) (f : ReaderLane → ReaderLane) (k : Fin 2) :
    (p.modReader l f).channel k = p.channel k := rfl
@[simp] theorem Part.card_modReader (p : Part) (l : Fin 6) (f : ReaderLane → ReaderLane) (k : Nat) :
    (p.modReader l f).card k = p.card k := rfl
@[simp] theorem Part.clip_modReader (p : Part) (l : Fin 6) (f : ReaderLane → ReaderLane) (k : Nat) :
    (p.modReader l f).clip k = p.clip k := rfl
@[simp] theorem Part.volume_modReader (p : Part) (l : Fin 6) (f : ReaderLane → ReaderLane) (k : Nat) :
    (p.modReader l f).volume k = p.volume k := rfl
@[simp] theorem Part.look_modReader (p : Part) (l : Fin 6) (f : ReaderLane → ReaderLane) (k : Nat) :
    (p.modReader l f).look k = p.look k := rfl

/-! ### `modDest` -/

@[simp] theorem Part.modDest_cards (p : Part) (d : Fin 4) (f : DestLane → DestLane) :
    (p.modDest d f).cards = p.cards := rfl
@[simp] theorem Part.modDest_clips (p : Part) (d : Fin 4) (f : DestLane → DestLane) :
    (p.modDest d f).clips = p.clips := rfl
@[simp] theorem Part.modDest_cameras (p : Part) (d : Fin 4) (f : DestLane → DestLane) :
    (p.modDest d f).cameras = p.cameras := rfl
@[simp] theorem Part.modDest_standing (p : Part) (d : Fin 4) (f : DestLane → DestLane) :
    (p.modDest d f).standing = p.standing := rfl
@[simp] theorem Part.modDest_readers (p : Part) (d : Fin 4) (f : DestLane → DestLane) :
    (p.modDest d f).readers = p.readers := rfl
@[simp] theorem Part.modDest_pool (p : Part) (d : Fin 4) (f : DestLane → DestLane) :
    (p.modDest d f).pool = p.pool := rfl
@[simp] theorem Part.modDest_dests (p : Part) (d : Fin 4) (f : DestLane → DestLane) :
    (p.modDest d f).dests = p.dests.set d.val (f (p.dest d)) d.isLt := rfl
@[simp] theorem Part.modDest_volumes (p : Part) (d : Fin 4) (f : DestLane → DestLane) :
    (p.modDest d f).volumes = p.volumes := rfl
@[simp] theorem Part.modDest_fault (p : Part) (d : Fin 4) (f : DestLane → DestLane) :
    (p.modDest d f).fault = p.fault := rfl
@[simp] theorem Part.modDest_looks (p : Part) (d : Fin 4) (f : DestLane → DestLane) :
    (p.modDest d f).looks = p.looks := rfl
@[simp] theorem Part.modDest_render (p : Part) (d : Fin 4) (f : DestLane → DestLane) :
    (p.modDest d f).render = p.render := rfl
@[simp] theorem Part.modDest_channels (p : Part) (d : Fin 4) (f : DestLane → DestLane) :
    (p.modDest d f).channels = p.channels := rfl
@[simp] theorem Part.modDest_attention (p : Part) (d : Fin 4) (f : DestLane → DestLane) :
    (p.modDest d f).attention = p.attention := rfl
@[simp] theorem Part.modDest_outbox (p : Part) (d : Fin 4) (f : DestLane → DestLane) :
    (p.modDest d f).outbox = p.outbox := rfl
@[simp] theorem Part.reader_modDest (p : Part) (d : Fin 4) (f : DestLane → DestLane) (k : Fin 6) :
    (p.modDest d f).reader k = p.reader k := rfl
@[simp] theorem Part.channel_modDest (p : Part) (d : Fin 4) (f : DestLane → DestLane) (k : Fin 2) :
    (p.modDest d f).channel k = p.channel k := rfl
@[simp] theorem Part.card_modDest (p : Part) (d : Fin 4) (f : DestLane → DestLane) (k : Nat) :
    (p.modDest d f).card k = p.card k := rfl
@[simp] theorem Part.clip_modDest (p : Part) (d : Fin 4) (f : DestLane → DestLane) (k : Nat) :
    (p.modDest d f).clip k = p.clip k := rfl
@[simp] theorem Part.volume_modDest (p : Part) (d : Fin 4) (f : DestLane → DestLane) (k : Nat) :
    (p.modDest d f).volume k = p.volume k := rfl
@[simp] theorem Part.look_modDest (p : Part) (d : Fin 4) (f : DestLane → DestLane) (k : Nat) :
    (p.modDest d f).look k = p.look k := rfl

/-! ### `modChannel` -/

@[simp] theorem Part.modChannel_cards (p : Part) (c : Fin 2) (f : Channel → Channel) :
    (p.modChannel c f).cards = p.cards := rfl
@[simp] theorem Part.modChannel_clips (p : Part) (c : Fin 2) (f : Channel → Channel) :
    (p.modChannel c f).clips = p.clips := rfl
@[simp] theorem Part.modChannel_cameras (p : Part) (c : Fin 2) (f : Channel → Channel) :
    (p.modChannel c f).cameras = p.cameras := rfl
@[simp] theorem Part.modChannel_standing (p : Part) (c : Fin 2) (f : Channel → Channel) :
    (p.modChannel c f).standing = p.standing := rfl
@[simp] theorem Part.modChannel_readers (p : Part) (c : Fin 2) (f : Channel → Channel) :
    (p.modChannel c f).readers = p.readers := rfl
@[simp] theorem Part.modChannel_pool (p : Part) (c : Fin 2) (f : Channel → Channel) :
    (p.modChannel c f).pool = p.pool := rfl
@[simp] theorem Part.modChannel_dests (p : Part) (c : Fin 2) (f : Channel → Channel) :
    (p.modChannel c f).dests = p.dests := rfl
@[simp] theorem Part.modChannel_volumes (p : Part) (c : Fin 2) (f : Channel → Channel) :
    (p.modChannel c f).volumes = p.volumes := rfl
@[simp] theorem Part.modChannel_fault (p : Part) (c : Fin 2) (f : Channel → Channel) :
    (p.modChannel c f).fault = p.fault := rfl
@[simp] theorem Part.modChannel_looks (p : Part) (c : Fin 2) (f : Channel → Channel) :
    (p.modChannel c f).looks = p.looks := rfl
@[simp] theorem Part.modChannel_render (p : Part) (c : Fin 2) (f : Channel → Channel) :
    (p.modChannel c f).render = p.render := rfl
@[simp] theorem Part.modChannel_channels (p : Part) (c : Fin 2) (f : Channel → Channel) :
    (p.modChannel c f).channels = p.channels.set c.val (f (p.channel c)) c.isLt := rfl
@[simp] theorem Part.modChannel_attention (p : Part) (c : Fin 2) (f : Channel → Channel) :
    (p.modChannel c f).attention = p.attention := rfl
@[simp] theorem Part.modChannel_outbox (p : Part) (c : Fin 2) (f : Channel → Channel) :
    (p.modChannel c f).outbox = p.outbox := rfl
@[simp] theorem Part.reader_modChannel (p : Part) (c : Fin 2) (f : Channel → Channel) (k : Fin 6) :
    (p.modChannel c f).reader k = p.reader k := rfl
@[simp] theorem Part.dest_modChannel (p : Part) (c : Fin 2) (f : Channel → Channel) (k : Fin 4) :
    (p.modChannel c f).dest k = p.dest k := rfl
@[simp] theorem Part.card_modChannel (p : Part) (c : Fin 2) (f : Channel → Channel) (k : Nat) :
    (p.modChannel c f).card k = p.card k := rfl
@[simp] theorem Part.clip_modChannel (p : Part) (c : Fin 2) (f : Channel → Channel) (k : Nat) :
    (p.modChannel c f).clip k = p.clip k := rfl
@[simp] theorem Part.volume_modChannel (p : Part) (c : Fin 2) (f : Channel → Channel) (k : Nat) :
    (p.modChannel c f).volume k = p.volume k := rfl
@[simp] theorem Part.look_modChannel (p : Part) (c : Fin 2) (f : Channel → Channel) (k : Nat) :
    (p.modChannel c f).look k = p.look k := rfl

/-! ### `modCard` -/

@[simp] theorem Part.modCard_cards (p : Part) (i : Nat) (f : Card → Card) :
    (p.modCard i f).cards = tmod p.cards i f := rfl
@[simp] theorem Part.modCard_clips (p : Part) (i : Nat) (f : Card → Card) : (p.modCard i f).clips = p.clips := rfl
@[simp] theorem Part.modCard_cameras (p : Part) (i : Nat) (f : Card → Card) : (p.modCard i f).cameras = p.cameras := rfl
@[simp] theorem Part.modCard_standing (p : Part) (i : Nat) (f : Card → Card) :
    (p.modCard i f).standing = p.standing := rfl
@[simp] theorem Part.modCard_readers (p : Part) (i : Nat) (f : Card → Card) : (p.modCard i f).readers = p.readers := rfl
@[simp] theorem Part.modCard_pool (p : Part) (i : Nat) (f : Card → Card) : (p.modCard i f).pool = p.pool := rfl
@[simp] theorem Part.modCard_dests (p : Part) (i : Nat) (f : Card → Card) : (p.modCard i f).dests = p.dests := rfl
@[simp] theorem Part.modCard_volumes (p : Part) (i : Nat) (f : Card → Card) : (p.modCard i f).volumes = p.volumes := rfl
@[simp] theorem Part.modCard_fault (p : Part) (i : Nat) (f : Card → Card) : (p.modCard i f).fault = p.fault := rfl
@[simp] theorem Part.modCard_looks (p : Part) (i : Nat) (f : Card → Card) : (p.modCard i f).looks = p.looks := rfl
@[simp] theorem Part.modCard_render (p : Part) (i : Nat) (f : Card → Card) : (p.modCard i f).render = p.render := rfl
@[simp] theorem Part.modCard_channels (p : Part) (i : Nat) (f : Card → Card) :
    (p.modCard i f).channels = p.channels := rfl
@[simp] theorem Part.modCard_attention (p : Part) (i : Nat) (f : Card → Card) :
    (p.modCard i f).attention = p.attention := rfl
@[simp] theorem Part.modCard_outbox (p : Part) (i : Nat) (f : Card → Card) : (p.modCard i f).outbox = p.outbox := rfl
@[simp] theorem Part.reader_modCard (p : Part) (i : Nat) (f : Card → Card) (k : Fin 6) :
    (p.modCard i f).reader k = p.reader k := rfl
@[simp] theorem Part.dest_modCard (p : Part) (i : Nat) (f : Card → Card) (k : Fin 4) :
    (p.modCard i f).dest k = p.dest k := rfl
@[simp] theorem Part.channel_modCard (p : Part) (i : Nat) (f : Card → Card) (k : Fin 2) :
    (p.modCard i f).channel k = p.channel k := rfl
@[simp] theorem Part.clip_modCard (p : Part) (i : Nat) (f : Card → Card) (k : Nat) :
    (p.modCard i f).clip k = p.clip k := rfl
@[simp] theorem Part.volume_modCard (p : Part) (i : Nat) (f : Card → Card) (k : Nat) :
    (p.modCard i f).volume k = p.volume k := rfl
@[simp] theorem Part.look_modCard (p : Part) (i : Nat) (f : Card → Card) (k : Nat) :
    (p.modCard i f).look k = p.look k := rfl

/-! ### `modClip` -/

@[simp] theorem Part.modClip_cards (p : Part) (i : Nat) (f : Clip → Clip) : (p.modClip i f).cards = p.cards := rfl
@[simp] theorem Part.modClip_clips (p : Part) (i : Nat) (f : Clip → Clip) :
    (p.modClip i f).clips = tmod p.clips i f := rfl
@[simp] theorem Part.modClip_cameras (p : Part) (i : Nat) (f : Clip → Clip) : (p.modClip i f).cameras = p.cameras := rfl
@[simp] theorem Part.modClip_standing (p : Part) (i : Nat) (f : Clip → Clip) :
    (p.modClip i f).standing = p.standing := rfl
@[simp] theorem Part.modClip_readers (p : Part) (i : Nat) (f : Clip → Clip) : (p.modClip i f).readers = p.readers := rfl
@[simp] theorem Part.modClip_pool (p : Part) (i : Nat) (f : Clip → Clip) : (p.modClip i f).pool = p.pool := rfl
@[simp] theorem Part.modClip_dests (p : Part) (i : Nat) (f : Clip → Clip) : (p.modClip i f).dests = p.dests := rfl
@[simp] theorem Part.modClip_volumes (p : Part) (i : Nat) (f : Clip → Clip) : (p.modClip i f).volumes = p.volumes := rfl
@[simp] theorem Part.modClip_fault (p : Part) (i : Nat) (f : Clip → Clip) : (p.modClip i f).fault = p.fault := rfl
@[simp] theorem Part.modClip_looks (p : Part) (i : Nat) (f : Clip → Clip) : (p.modClip i f).looks = p.looks := rfl
@[simp] theorem Part.modClip_render (p : Part) (i : Nat) (f : Clip → Clip) : (p.modClip i f).render = p.render := rfl
@[simp] theorem Part.modClip_channels (p : Part) (i : Nat) (f : Clip → Clip) :
    (p.modClip i f).channels = p.channels := rfl
@[simp] theorem Part.modClip_attention (p : Part) (i : Nat) (f : Clip → Clip) :
    (p.modClip i f).attention = p.attention := rfl
@[simp] theorem Part.modClip_outbox (p : Part) (i : Nat) (f : Clip → Clip) : (p.modClip i f).outbox = p.outbox := rfl
@[simp] theorem Part.reader_modClip (p : Part) (i : Nat) (f : Clip → Clip) (k : Fin 6) :
    (p.modClip i f).reader k = p.reader k := rfl
@[simp] theorem Part.dest_modClip (p : Part) (i : Nat) (f : Clip → Clip) (k : Fin 4) :
    (p.modClip i f).dest k = p.dest k := rfl
@[simp] theorem Part.channel_modClip (p : Part) (i : Nat) (f : Clip → Clip) (k : Fin 2) :
    (p.modClip i f).channel k = p.channel k := rfl
@[simp] theorem Part.card_modClip (p : Part) (i : Nat) (f : Clip → Clip) (k : Nat) :
    (p.modClip i f).card k = p.card k := rfl
@[simp] theorem Part.volume_modClip (p : Part) (i : Nat) (f : Clip → Clip) (k : Nat) :
    (p.modClip i f).volume k = p.volume k := rfl
@[simp] theorem Part.look_modClip (p : Part) (i : Nat) (f : Clip → Clip) (k : Nat) :
    (p.modClip i f).look k = p.look k := rfl

/-! ### `modVolume` -/

@[simp] theorem Part.modVolume_cards (p : Part) (v : Nat) (f : Volume → Volume) :
    (p.modVolume v f).cards = p.cards := rfl
@[simp] theorem Part.modVolume_clips (p : Part) (v : Nat) (f : Volume → Volume) :
    (p.modVolume v f).clips = p.clips := rfl
@[simp] theorem Part.modVolume_cameras (p : Part) (v : Nat) (f : Volume → Volume) :
    (p.modVolume v f).cameras = p.cameras := rfl
@[simp] theorem Part.modVolume_standing (p : Part) (v : Nat) (f : Volume → Volume) :
    (p.modVolume v f).standing = p.standing := rfl
@[simp] theorem Part.modVolume_readers (p : Part) (v : Nat) (f : Volume → Volume) :
    (p.modVolume v f).readers = p.readers := rfl
@[simp] theorem Part.modVolume_pool (p : Part) (v : Nat) (f : Volume → Volume) : (p.modVolume v f).pool = p.pool := rfl
@[simp] theorem Part.modVolume_dests (p : Part) (v : Nat) (f : Volume → Volume) :
    (p.modVolume v f).dests = p.dests := rfl
@[simp] theorem Part.modVolume_volumes (p : Part) (v : Nat) (f : Volume → Volume) :
    (p.modVolume v f).volumes = tmod p.volumes v f := rfl
@[simp] theorem Part.modVolume_fault (p : Part) (v : Nat) (f : Volume → Volume) :
    (p.modVolume v f).fault = p.fault := rfl
@[simp] theorem Part.modVolume_looks (p : Part) (v : Nat) (f : Volume → Volume) :
    (p.modVolume v f).looks = p.looks := rfl
@[simp] theorem Part.modVolume_render (p : Part) (v : Nat) (f : Volume → Volume) :
    (p.modVolume v f).render = p.render := rfl
@[simp] theorem Part.modVolume_channels (p : Part) (v : Nat) (f : Volume → Volume) :
    (p.modVolume v f).channels = p.channels := rfl
@[simp] theorem Part.modVolume_attention (p : Part) (v : Nat) (f : Volume → Volume) :
    (p.modVolume v f).attention = p.attention := rfl
@[simp] theorem Part.modVolume_outbox (p : Part) (v : Nat) (f : Volume → Volume) :
    (p.modVolume v f).outbox = p.outbox := rfl
@[simp] theorem Part.reader_modVolume (p : Part) (v : Nat) (f : Volume → Volume) (k : Fin 6) :
    (p.modVolume v f).reader k = p.reader k := rfl
@[simp] theorem Part.dest_modVolume (p : Part) (v : Nat) (f : Volume → Volume) (k : Fin 4) :
    (p.modVolume v f).dest k = p.dest k := rfl
@[simp] theorem Part.channel_modVolume (p : Part) (v : Nat) (f : Volume → Volume) (k : Fin 2) :
    (p.modVolume v f).channel k = p.channel k := rfl
@[simp] theorem Part.card_modVolume (p : Part) (v : Nat) (f : Volume → Volume) (k : Nat) :
    (p.modVolume v f).card k = p.card k := rfl
@[simp] theorem Part.clip_modVolume (p : Part) (v : Nat) (f : Volume → Volume) (k : Nat) :
    (p.modVolume v f).clip k = p.clip k := rfl
@[simp] theorem Part.look_modVolume (p : Part) (v : Nat) (f : Volume → Volume) (k : Nat) :
    (p.modVolume v f).look k = p.look k := rfl

/-! ### `modLook` -/

@[simp] theorem Part.modLook_cards (p : Part) (i : Nat) (f : Look → Look) : (p.modLook i f).cards = p.cards := rfl
@[simp] theorem Part.modLook_clips (p : Part) (i : Nat) (f : Look → Look) : (p.modLook i f).clips = p.clips := rfl
@[simp] theorem Part.modLook_cameras (p : Part) (i : Nat) (f : Look → Look) : (p.modLook i f).cameras = p.cameras := rfl
@[simp] theorem Part.modLook_standing (p : Part) (i : Nat) (f : Look → Look) :
    (p.modLook i f).standing = p.standing := rfl
@[simp] theorem Part.modLook_readers (p : Part) (i : Nat) (f : Look → Look) : (p.modLook i f).readers = p.readers := rfl
@[simp] theorem Part.modLook_pool (p : Part) (i : Nat) (f : Look → Look) : (p.modLook i f).pool = p.pool := rfl
@[simp] theorem Part.modLook_dests (p : Part) (i : Nat) (f : Look → Look) : (p.modLook i f).dests = p.dests := rfl
@[simp] theorem Part.modLook_volumes (p : Part) (i : Nat) (f : Look → Look) : (p.modLook i f).volumes = p.volumes := rfl
@[simp] theorem Part.modLook_fault (p : Part) (i : Nat) (f : Look → Look) : (p.modLook i f).fault = p.fault := rfl
@[simp] theorem Part.modLook_looks (p : Part) (i : Nat) (f : Look → Look) :
    (p.modLook i f).looks = tmod p.looks i f := rfl
@[simp] theorem Part.modLook_render (p : Part) (i : Nat) (f : Look → Look) : (p.modLook i f).render = p.render := rfl
@[simp] theorem Part.modLook_channels (p : Part) (i : Nat) (f : Look → Look) :
    (p.modLook i f).channels = p.channels := rfl
@[simp] theorem Part.modLook_attention (p : Part) (i : Nat) (f : Look → Look) :
    (p.modLook i f).attention = p.attention := rfl
@[simp] theorem Part.modLook_outbox (p : Part) (i : Nat) (f : Look → Look) : (p.modLook i f).outbox = p.outbox := rfl
@[simp] theorem Part.reader_modLook (p : Part) (i : Nat) (f : Look → Look) (k : Fin 6) :
    (p.modLook i f).reader k = p.reader k := rfl
@[simp] theorem Part.dest_modLook (p : Part) (i : Nat) (f : Look → Look) (k : Fin 4) :
    (p.modLook i f).dest k = p.dest k := rfl
@[simp] theorem Part.channel_modLook (p : Part) (i : Nat) (f : Look → Look) (k : Fin 2) :
    (p.modLook i f).channel k = p.channel k := rfl
@[simp] theorem Part.card_modLook (p : Part) (i : Nat) (f : Look → Look) (k : Nat) :
    (p.modLook i f).card k = p.card k := rfl
@[simp] theorem Part.clip_modLook (p : Part) (i : Nat) (f : Look → Look) (k : Nat) :
    (p.modLook i f).clip k = p.clip k := rfl
@[simp] theorem Part.volume_modLook (p : Part) (i : Nat) (f : Look → Look) (k : Nat) :
    (p.modLook i f).volume k = p.volume k := rfl

/-! ### `setSlots` -/

@[simp] theorem Part.setSlots_cards (p : Part) (f : List Slot → List Slot) : (p.setSlots f).cards = p.cards := rfl
@[simp] theorem Part.setSlots_clips (p : Part) (f : List Slot → List Slot) : (p.setSlots f).clips = p.clips := rfl
@[simp] theorem Part.setSlots_cameras (p : Part) (f : List Slot → List Slot) : (p.setSlots f).cameras = p.cameras := rfl
@[simp] theorem Part.setSlots_standing (p : Part) (f : List Slot → List Slot) :
    (p.setSlots f).standing = p.standing := rfl
@[simp] theorem Part.setSlots_readers (p : Part) (f : List Slot → List Slot) : (p.setSlots f).readers = p.readers := rfl
@[simp] theorem Part.setSlots_pool (p : Part) (f : List Slot → List Slot) :
    (p.setSlots f).pool = { p.pool with slots := f p.pool.slots } := rfl
@[simp] theorem Part.setSlots_dests (p : Part) (f : List Slot → List Slot) : (p.setSlots f).dests = p.dests := rfl
@[simp] theorem Part.setSlots_volumes (p : Part) (f : List Slot → List Slot) : (p.setSlots f).volumes = p.volumes := rfl
@[simp] theorem Part.setSlots_fault (p : Part) (f : List Slot → List Slot) : (p.setSlots f).fault = p.fault := rfl
@[simp] theorem Part.setSlots_looks (p : Part) (f : List Slot → List Slot) : (p.setSlots f).looks = p.looks := rfl
@[simp] theorem Part.setSlots_render (p : Part) (f : List Slot → List Slot) : (p.setSlots f).render = p.render := rfl
@[simp] theorem Part.setSlots_channels (p : Part) (f : List Slot → List Slot) :
    (p.setSlots f).channels = p.channels := rfl
@[simp] theorem Part.setSlots_attention (p : Part) (f : List Slot → List Slot) :
    (p.setSlots f).attention = p.attention := rfl
@[simp] theorem Part.setSlots_outbox (p : Part) (f : List Slot → List Slot) : (p.setSlots f).outbox = p.outbox := rfl
@[simp] theorem Part.reader_setSlots (p : Part) (f : List Slot → List Slot) (k : Fin 6) :
    (p.setSlots f).reader k = p.reader k := rfl
@[simp] theorem Part.dest_setSlots (p : Part) (f : List Slot → List Slot) (k : Fin 4) :
    (p.setSlots f).dest k = p.dest k := rfl
@[simp] theorem Part.channel_setSlots (p : Part) (f : List Slot → List Slot) (k : Fin 2) :
    (p.setSlots f).channel k = p.channel k := rfl
@[simp] theorem Part.card_setSlots (p : Part) (f : List Slot → List Slot) (k : Nat) :
    (p.setSlots f).card k = p.card k := rfl
@[simp] theorem Part.clip_setSlots (p : Part) (f : List Slot → List Slot) (k : Nat) :
    (p.setSlots f).clip k = p.clip k := rfl
@[simp] theorem Part.volume_setSlots (p : Part) (f : List Slot → List Slot) (k : Nat) :
    (p.setSlots f).volume k = p.volume k := rfl
@[simp] theorem Part.look_setSlots (p : Part) (f : List Slot → List Slot) (k : Nat) :
    (p.setSlots f).look k = p.look k := rfl

/-! ### `leaveQueue` -/

@[simp] theorem Part.leaveQueue_cards (p : Part) (l : Fin 6) : (p.leaveQueue l).cards = p.cards := rfl
@[simp] theorem Part.leaveQueue_clips (p : Part) (l : Fin 6) : (p.leaveQueue l).clips = p.clips := rfl
@[simp] theorem Part.leaveQueue_cameras (p : Part) (l : Fin 6) : (p.leaveQueue l).cameras = p.cameras := rfl
@[simp] theorem Part.leaveQueue_standing (p : Part) (l : Fin 6) : (p.leaveQueue l).standing = p.standing := rfl
@[simp] theorem Part.leaveQueue_readers (p : Part) (l : Fin 6) : (p.leaveQueue l).readers = p.readers := rfl
@[simp] theorem Part.leaveQueue_pool (p : Part) (l : Fin 6) :
    (p.leaveQueue l).pool = { p.pool with queue := p.pool.queue.filter fun k => k != l } := rfl
@[simp] theorem Part.leaveQueue_dests (p : Part) (l : Fin 6) : (p.leaveQueue l).dests = p.dests := rfl
@[simp] theorem Part.leaveQueue_volumes (p : Part) (l : Fin 6) : (p.leaveQueue l).volumes = p.volumes := rfl
@[simp] theorem Part.leaveQueue_fault (p : Part) (l : Fin 6) : (p.leaveQueue l).fault = p.fault := rfl
@[simp] theorem Part.leaveQueue_looks (p : Part) (l : Fin 6) : (p.leaveQueue l).looks = p.looks := rfl
@[simp] theorem Part.leaveQueue_render (p : Part) (l : Fin 6) : (p.leaveQueue l).render = p.render := rfl
@[simp] theorem Part.leaveQueue_channels (p : Part) (l : Fin 6) : (p.leaveQueue l).channels = p.channels := rfl
@[simp] theorem Part.leaveQueue_attention (p : Part) (l : Fin 6) : (p.leaveQueue l).attention = p.attention := rfl
@[simp] theorem Part.leaveQueue_outbox (p : Part) (l : Fin 6) : (p.leaveQueue l).outbox = p.outbox := rfl
@[simp] theorem Part.reader_leaveQueue (p : Part) (l : Fin 6) (k : Fin 6) :
    (p.leaveQueue l).reader k = p.reader k := rfl
@[simp] theorem Part.dest_leaveQueue (p : Part) (l : Fin 6) (k : Fin 4) : (p.leaveQueue l).dest k = p.dest k := rfl
@[simp] theorem Part.channel_leaveQueue (p : Part) (l : Fin 6) (k : Fin 2) :
    (p.leaveQueue l).channel k = p.channel k := rfl
@[simp] theorem Part.card_leaveQueue (p : Part) (l : Fin 6) (k : Nat) : (p.leaveQueue l).card k = p.card k := rfl
@[simp] theorem Part.clip_leaveQueue (p : Part) (l : Fin 6) (k : Nat) : (p.leaveQueue l).clip k = p.clip k := rfl
@[simp] theorem Part.volume_leaveQueue (p : Part) (l : Fin 6) (k : Nat) : (p.leaveQueue l).volume k = p.volume k := rfl
@[simp] theorem Part.look_leaveQueue (p : Part) (l : Fin 6) (k : Nat) : (p.leaveQueue l).look k = p.look k := rfl

/-! ### `setRender` -/

@[simp] theorem Part.setRender_cards (p : Part) (f : RenderEngine → RenderEngine) :
    (p.setRender f).cards = p.cards := rfl
@[simp] theorem Part.setRender_clips (p : Part) (f : RenderEngine → RenderEngine) :
    (p.setRender f).clips = p.clips := rfl
@[simp] theorem Part.setRender_cameras (p : Part) (f : RenderEngine → RenderEngine) :
    (p.setRender f).cameras = p.cameras := rfl
@[simp] theorem Part.setRender_standing (p : Part) (f : RenderEngine → RenderEngine) :
    (p.setRender f).standing = p.standing := rfl
@[simp] theorem Part.setRender_readers (p : Part) (f : RenderEngine → RenderEngine) :
    (p.setRender f).readers = p.readers := rfl
@[simp] theorem Part.setRender_pool (p : Part) (f : RenderEngine → RenderEngine) : (p.setRender f).pool = p.pool := rfl
@[simp] theorem Part.setRender_dests (p : Part) (f : RenderEngine → RenderEngine) :
    (p.setRender f).dests = p.dests := rfl
@[simp] theorem Part.setRender_volumes (p : Part) (f : RenderEngine → RenderEngine) :
    (p.setRender f).volumes = p.volumes := rfl
@[simp] theorem Part.setRender_fault (p : Part) (f : RenderEngine → RenderEngine) :
    (p.setRender f).fault = p.fault := rfl
@[simp] theorem Part.setRender_looks (p : Part) (f : RenderEngine → RenderEngine) :
    (p.setRender f).looks = p.looks := rfl
@[simp] theorem Part.setRender_render (p : Part) (f : RenderEngine → RenderEngine) :
    (p.setRender f).render = f p.render := rfl
@[simp] theorem Part.setRender_channels (p : Part) (f : RenderEngine → RenderEngine) :
    (p.setRender f).channels = p.channels := rfl
@[simp] theorem Part.setRender_attention (p : Part) (f : RenderEngine → RenderEngine) :
    (p.setRender f).attention = p.attention := rfl
@[simp] theorem Part.setRender_outbox (p : Part) (f : RenderEngine → RenderEngine) :
    (p.setRender f).outbox = p.outbox := rfl
@[simp] theorem Part.reader_setRender (p : Part) (f : RenderEngine → RenderEngine) (k : Fin 6) :
    (p.setRender f).reader k = p.reader k := rfl
@[simp] theorem Part.dest_setRender (p : Part) (f : RenderEngine → RenderEngine) (k : Fin 4) :
    (p.setRender f).dest k = p.dest k := rfl
@[simp] theorem Part.channel_setRender (p : Part) (f : RenderEngine → RenderEngine) (k : Fin 2) :
    (p.setRender f).channel k = p.channel k := rfl
@[simp] theorem Part.card_setRender (p : Part) (f : RenderEngine → RenderEngine) (k : Nat) :
    (p.setRender f).card k = p.card k := rfl
@[simp] theorem Part.clip_setRender (p : Part) (f : RenderEngine → RenderEngine) (k : Nat) :
    (p.setRender f).clip k = p.clip k := rfl
@[simp] theorem Part.volume_setRender (p : Part) (f : RenderEngine → RenderEngine) (k : Nat) :
    (p.setRender f).volume k = p.volume k := rfl
@[simp] theorem Part.look_setRender (p : Part) (f : RenderEngine → RenderEngine) (k : Nat) :
    (p.setRender f).look k = p.look k := rfl

/-! ### `raiseCustody` -/

@[simp] theorem Part.raiseCustody_cards (p : Part) : p.raiseCustody.cards = p.cards := rfl
@[simp] theorem Part.raiseCustody_clips (p : Part) : p.raiseCustody.clips = p.clips := rfl
@[simp] theorem Part.raiseCustody_cameras (p : Part) : p.raiseCustody.cameras = p.cameras := rfl
@[simp] theorem Part.raiseCustody_standing (p : Part) : p.raiseCustody.standing = p.standing := rfl
@[simp] theorem Part.raiseCustody_readers (p : Part) : p.raiseCustody.readers = p.readers := rfl
@[simp] theorem Part.raiseCustody_pool (p : Part) : p.raiseCustody.pool = p.pool := rfl
@[simp] theorem Part.raiseCustody_dests (p : Part) : p.raiseCustody.dests = p.dests := rfl
@[simp] theorem Part.raiseCustody_volumes (p : Part) : p.raiseCustody.volumes = p.volumes := rfl
@[simp] theorem Part.raiseCustody_fault (p : Part) : p.raiseCustody.fault = p.fault := rfl
@[simp] theorem Part.raiseCustody_looks (p : Part) : p.raiseCustody.looks = p.looks := rfl
@[simp] theorem Part.raiseCustody_render (p : Part) : p.raiseCustody.render = p.render := rfl
@[simp] theorem Part.raiseCustody_channels (p : Part) : p.raiseCustody.channels = p.channels := rfl
@[simp] theorem Part.raiseCustody_attention (p : Part) :
    p.raiseCustody.attention = { p.attention with custody := true } := rfl
@[simp] theorem Part.raiseCustody_outbox (p : Part) : p.raiseCustody.outbox = p.outbox := rfl
@[simp] theorem Part.reader_raiseCustody (p : Part) (k : Fin 6) : p.raiseCustody.reader k = p.reader k := rfl
@[simp] theorem Part.dest_raiseCustody (p : Part) (k : Fin 4) : p.raiseCustody.dest k = p.dest k := rfl
@[simp] theorem Part.channel_raiseCustody (p : Part) (k : Fin 2) : p.raiseCustody.channel k = p.channel k := rfl
@[simp] theorem Part.card_raiseCustody (p : Part) (k : Nat) : p.raiseCustody.card k = p.card k := rfl
@[simp] theorem Part.clip_raiseCustody (p : Part) (k : Nat) : p.raiseCustody.clip k = p.clip k := rfl
@[simp] theorem Part.volume_raiseCustody (p : Part) (k : Nat) : p.raiseCustody.volume k = p.volume k := rfl
@[simp] theorem Part.look_raiseCustody (p : Part) (k : Nat) : p.raiseCustody.look k = p.look k := rfl

/-! ### `raiseFaults` -/

@[simp] theorem Part.raiseFaults_cards (p : Part) : p.raiseFaults.cards = p.cards := rfl
@[simp] theorem Part.raiseFaults_clips (p : Part) : p.raiseFaults.clips = p.clips := rfl
@[simp] theorem Part.raiseFaults_cameras (p : Part) : p.raiseFaults.cameras = p.cameras := rfl
@[simp] theorem Part.raiseFaults_standing (p : Part) : p.raiseFaults.standing = p.standing := rfl
@[simp] theorem Part.raiseFaults_readers (p : Part) : p.raiseFaults.readers = p.readers := rfl
@[simp] theorem Part.raiseFaults_pool (p : Part) : p.raiseFaults.pool = p.pool := rfl
@[simp] theorem Part.raiseFaults_dests (p : Part) : p.raiseFaults.dests = p.dests := rfl
@[simp] theorem Part.raiseFaults_volumes (p : Part) : p.raiseFaults.volumes = p.volumes := rfl
@[simp] theorem Part.raiseFaults_fault (p : Part) : p.raiseFaults.fault = p.fault := rfl
@[simp] theorem Part.raiseFaults_looks (p : Part) : p.raiseFaults.looks = p.looks := rfl
@[simp] theorem Part.raiseFaults_render (p : Part) : p.raiseFaults.render = p.render := rfl
@[simp] theorem Part.raiseFaults_channels (p : Part) : p.raiseFaults.channels = p.channels := rfl
@[simp] theorem Part.raiseFaults_attention (p : Part) :
    p.raiseFaults.attention = { p.attention with faults := true } := rfl
@[simp] theorem Part.raiseFaults_outbox (p : Part) : p.raiseFaults.outbox = p.outbox := rfl
@[simp] theorem Part.reader_raiseFaults (p : Part) (k : Fin 6) : p.raiseFaults.reader k = p.reader k := rfl
@[simp] theorem Part.dest_raiseFaults (p : Part) (k : Fin 4) : p.raiseFaults.dest k = p.dest k := rfl
@[simp] theorem Part.channel_raiseFaults (p : Part) (k : Fin 2) : p.raiseFaults.channel k = p.channel k := rfl
@[simp] theorem Part.card_raiseFaults (p : Part) (k : Nat) : p.raiseFaults.card k = p.card k := rfl
@[simp] theorem Part.clip_raiseFaults (p : Part) (k : Nat) : p.raiseFaults.clip k = p.clip k := rfl
@[simp] theorem Part.volume_raiseFaults (p : Part) (k : Nat) : p.raiseFaults.volume k = p.volume k := rfl
@[simp] theorem Part.look_raiseFaults (p : Part) (k : Nat) : p.raiseFaults.look k = p.look k := rfl

/-! ### `emit` -/

@[simp] theorem Part.emit_cards (p : Part) (m : Message) : (p.emit m).cards = p.cards := rfl
@[simp] theorem Part.emit_clips (p : Part) (m : Message) : (p.emit m).clips = p.clips := rfl
@[simp] theorem Part.emit_cameras (p : Part) (m : Message) : (p.emit m).cameras = p.cameras := rfl
@[simp] theorem Part.emit_standing (p : Part) (m : Message) : (p.emit m).standing = p.standing := rfl
@[simp] theorem Part.emit_readers (p : Part) (m : Message) : (p.emit m).readers = p.readers := rfl
@[simp] theorem Part.emit_pool (p : Part) (m : Message) : (p.emit m).pool = p.pool := rfl
@[simp] theorem Part.emit_dests (p : Part) (m : Message) : (p.emit m).dests = p.dests := rfl
@[simp] theorem Part.emit_volumes (p : Part) (m : Message) : (p.emit m).volumes = p.volumes := rfl
@[simp] theorem Part.emit_fault (p : Part) (m : Message) : (p.emit m).fault = p.fault := rfl
@[simp] theorem Part.emit_looks (p : Part) (m : Message) : (p.emit m).looks = p.looks := rfl
@[simp] theorem Part.emit_render (p : Part) (m : Message) : (p.emit m).render = p.render := rfl
@[simp] theorem Part.emit_channels (p : Part) (m : Message) : (p.emit m).channels = p.channels := rfl
@[simp] theorem Part.emit_attention (p : Part) (m : Message) : (p.emit m).attention = p.attention := rfl
@[simp] theorem Part.emit_outbox (p : Part) (m : Message) : (p.emit m).outbox = p.outbox ++ [m] := rfl
@[simp] theorem Part.reader_emit (p : Part) (m : Message) (k : Fin 6) : (p.emit m).reader k = p.reader k := rfl
@[simp] theorem Part.dest_emit (p : Part) (m : Message) (k : Fin 4) : (p.emit m).dest k = p.dest k := rfl
@[simp] theorem Part.channel_emit (p : Part) (m : Message) (k : Fin 2) : (p.emit m).channel k = p.channel k := rfl
@[simp] theorem Part.card_emit (p : Part) (m : Message) (k : Nat) : (p.emit m).card k = p.card k := rfl
@[simp] theorem Part.clip_emit (p : Part) (m : Message) (k : Nat) : (p.emit m).clip k = p.clip k := rfl
@[simp] theorem Part.volume_emit (p : Part) (m : Message) (k : Nat) : (p.emit m).volume k = p.volume k := rfl
@[simp] theorem Part.look_emit (p : Part) (m : Message) (k : Nat) : (p.emit m).look k = p.look k := rfl

/-! ### `quiet` -/

@[simp] theorem Part.quiet_cards (p : Part) : p.quiet.cards = p.cards := rfl
@[simp] theorem Part.quiet_clips (p : Part) : p.quiet.clips = p.clips := rfl
@[simp] theorem Part.quiet_cameras (p : Part) : p.quiet.cameras = p.cameras := rfl
@[simp] theorem Part.quiet_standing (p : Part) : p.quiet.standing = p.standing := rfl
@[simp] theorem Part.quiet_readers (p : Part) : p.quiet.readers = p.readers := rfl
@[simp] theorem Part.quiet_pool (p : Part) : p.quiet.pool = p.pool := rfl
@[simp] theorem Part.quiet_dests (p : Part) : p.quiet.dests = p.dests := rfl
@[simp] theorem Part.quiet_volumes (p : Part) : p.quiet.volumes = p.volumes := rfl
@[simp] theorem Part.quiet_fault (p : Part) : p.quiet.fault = p.fault := rfl
@[simp] theorem Part.quiet_looks (p : Part) : p.quiet.looks = p.looks := rfl
@[simp] theorem Part.quiet_render (p : Part) : p.quiet.render = p.render := rfl
@[simp] theorem Part.quiet_channels (p : Part) : p.quiet.channels = p.channels := rfl
@[simp] theorem Part.quiet_attention (p : Part) : p.quiet.attention = p.attention := rfl
@[simp] theorem Part.quiet_outbox (p : Part) : p.quiet.outbox = [] := rfl
@[simp] theorem Part.reader_quiet (p : Part) (k : Fin 6) : p.quiet.reader k = p.reader k := rfl
@[simp] theorem Part.dest_quiet (p : Part) (k : Fin 4) : p.quiet.dest k = p.dest k := rfl
@[simp] theorem Part.channel_quiet (p : Part) (k : Fin 2) : p.quiet.channel k = p.channel k := rfl
@[simp] theorem Part.card_quiet (p : Part) (k : Nat) : p.quiet.card k = p.card k := rfl
@[simp] theorem Part.clip_quiet (p : Part) (k : Nat) : p.quiet.clip k = p.clip k := rfl
@[simp] theorem Part.volume_quiet (p : Part) (k : Nat) : p.quiet.volume k = p.volume k := rfl
@[simp] theorem Part.look_quiet (p : Part) (k : Nat) : p.quiet.look k = p.look k := rfl

end Sys2Proof.Machine
end

