-- ==== Sys2Proof/Laws/Ops.lean ====
section
/-! SUPPORT. What the shared operations do, said once: the units, the tables, the answer of a request, an event, the port. -/

namespace Sys2Proof.Machine

/-! ### Units -/

theorem get_set {α : Type} {n : Nat} (v : Vector α n) (i j : Fin n) (x : α) :
    (v.set i.val x i.isLt).get j = if j = i then x else v.get j := by
  rw [Vector.get_eq_getElem, Vector.getElem_set, Vector.get_eq_getElem]
  by_cases h : j = i
  · subst h; simp
  · have : i.val ≠ j.val := fun e => h (Fin.ext e.symm)
    simp [h, this]

@[simp] theorem Part.reader_modReader_self (p : Part) (l : Fin 6) (f : ReaderLane → ReaderLane) :
    (p.modReader l f).reader l = f (p.reader l) := by
  simp [Part.reader, Part.modReader, get_set]

theorem Part.reader_modReader_other (p : Part) (l k : Fin 6) (f : ReaderLane → ReaderLane) (h : k ≠ l) :
    (p.modReader l f).reader k = p.reader k := by
  simp [Part.reader, Part.modReader, get_set, h]

@[simp] theorem Part.dest_modDest_self (p : Part) (d : Fin 4) (f : DestLane → DestLane) :
    (p.modDest d f).dest d = f (p.dest d) := by
  simp [Part.dest, Part.modDest, get_set]

theorem Part.dest_modDest_other (p : Part) (d k : Fin 4) (f : DestLane → DestLane) (h : k ≠ d) :
    (p.modDest d f).dest k = p.dest k := by
  simp [Part.dest, Part.modDest, get_set, h]

@[simp] theorem Part.channel_modChannel_self (p : Part) (c : Fin 2) (f : Channel → Channel) :
    (p.modChannel c f).channel c = f (p.channel c) := by
  simp [Part.channel, Part.modChannel, get_set]

theorem Part.channel_modChannel_other (p : Part) (c k : Fin 2) (f : Channel → Channel) (h : k ≠ c) :
    (p.modChannel c f).channel k = p.channel k := by
  simp [Part.channel, Part.modChannel, get_set, h]

/-- Two changes of one reader lane are one change. -/
theorem Part.modReader_modReader (p : Part) (l : Fin 6) (f g : ReaderLane → ReaderLane) :
    (p.modReader l f).modReader l g = p.modReader l fun r => g (f r) := by
  simp [Part.modReader, Part.reader, get_set]

theorem Part.modDest_modDest (p : Part) (d : Fin 4) (f g : DestLane → DestLane) :
    (p.modDest d f).modDest d g = p.modDest d fun r => g (f r) := by
  simp [Part.modDest, Part.dest, get_set]

theorem Part.modChannel_modChannel (p : Part) (c : Fin 2) (f g : Channel → Channel) :
    (p.modChannel c f).modChannel c g = p.modChannel c fun r => g (f r) := by
  simp [Part.modChannel, Part.channel, get_set]

/-- Only what the change gives at the lane as it stands counts. -/
theorem Part.modReader_congr (p : Part) (l : Fin 6) (f g : ReaderLane → ReaderLane) (h : f (p.reader l) = g (p.reader l)) :
    p.modReader l f = p.modReader l g := by
  simp [Part.modReader, h]

theorem Part.modDest_congr (p : Part) (d : Fin 4) (f g : DestLane → DestLane) (h : f (p.dest d) = g (p.dest d)) :
    p.modDest d f = p.modDest d g := by
  simp [Part.modDest, h]

theorem Part.modChannel_congr (p : Part) (c : Fin 2) (f g : Channel → Channel) (h : f (p.channel c) = g (p.channel c)) :
    p.modChannel c f = p.modChannel c g := by
  simp [Part.modChannel, h]

theorem unitAt_of_lt (n i : Nat) (h : i < n) : unitAt n i = some ⟨i, h⟩ := by simp [unitAt, h]

theorem unitAt_of_ge (n i : Nat) (h : n ≤ i) : unitAt n i = none := by
  simp [unitAt, Nat.not_lt.mpr h]

/-! ### Tables -/

theorem tget_tmod {α : Type} (t : Table α) (i j : Nat) (f : α → α) :
    tget (tmod t i f) j = if j = i then (tget t j).map f else tget t j := by
  induction t with
  | nil => simp [tmod, tget]
  | cons e t ih =>
    obtain ⟨k, v⟩ := e
    simp only [tmod, List.map_cons] at ih ⊢
    by_cases hk : k = i
    · subst hk
      by_cases hj : j = k
      · subst hj; simp [tget]
      · have : k ≠ j := fun e => hj e.symm
        simp [tget, this, hj] at ih ⊢
        exact ih
    · by_cases hj : j = k
      · subst hj; simp [tget, hk]
      · have : k ≠ j := fun e => hj e.symm
        simp [tget, hk, this]
        exact ih

/-- What stands at every index after an index is taken into use. -/
theorem tget_tset {α : Type} (t : Table α) (i j : Nat) (x : α) :
    tget (tset t i x) j = if j = i then some x else tget t j := by
  induction t with
  | nil =>
    by_cases h : j = i
    · subst h; simp [tset, tget]
    · have : i ≠ j := fun e => h e.symm
      simp [tset, tget, h, this]
  | cons e t ih =>
    obtain ⟨k, v⟩ := e
    by_cases hlt : i < k
    · by_cases h : j = i
      · subst h; simp [tset, tget, hlt]
      · have : i ≠ j := fun e => h e.symm
        simp [tset, tget, hlt, h, this]
    · by_cases he : i = k
      · subst he
        by_cases h : j = i
        · subst h; simp [tset, tget]
        · have : i ≠ j := fun e => h e.symm
          simp [tset, tget, h, this]
      · simp only [tset, hlt, he, if_false, tget]
        by_cases hk : k = j
        · subst hk
          have : ¬ k = i := fun e => he e.symm
          simp [this]
        · simp [hk, ih]

theorem tget_tdel {α : Type} (t : Table α) (i j : Nat) :
    tget (tdel t i) j = if j = i then none else tget t j := by
  induction t with
  | nil => simp [tdel, tget]
  | cons e t ih =>
    obtain ⟨k, v⟩ := e
    simp only [tdel] at ih ⊢
    by_cases hk : k = i
    · subst hk
      by_cases hj : j = k
      · subst hj; simpa using ih
      · have : k ≠ j := fun e => hj e.symm
        simp [tget, this, hj] at ih ⊢
        exact ih
    · by_cases hj : j = k
      · subst hj; simp [tget, hk]
      · have : k ≠ j := fun e => hj e.symm
        simp [tget, hk, this]
        exact ih

theorem tfreeFrom_eq_some {α : Type} (t : Table α) (fuel i j : Nat) :
    tfreeFrom t i fuel = some j ↔
      i ≤ j ∧ j < i + fuel ∧ tget t j = none ∧ ∀ m, i ≤ m → m < j → tget t m ≠ none := by
  induction fuel generalizing i with
  | zero => simp [tfreeFrom]; omega
  | succ n ih =>
    by_cases h : tget t i = none
    · simp only [tfreeFrom, h, Option.isNone_none, if_true, Option.some.injEq]
      constructor
      · rintro rfl
        exact ⟨Nat.le_refl _, by omega, h, fun m h1 h2 => by omega⟩
      · rintro ⟨h1, _, _, h4⟩
        rcases Nat.lt_or_ge i j with hlt | hge
        · exact absurd h (h4 i (Nat.le_refl _) hlt)
        · omega
    · have hs : (tget t i).isNone = false := by
        cases hg : tget t i with
        | none => exact absurd hg h
        | some _ => rfl
      simp only [tfreeFrom, hs, Bool.false_eq_true, if_false, ih]
      constructor
      · rintro ⟨h1, h2, h3, h4⟩
        refine ⟨by omega, by omega, h3, fun m hm1 hm2 => ?_⟩
        rcases Nat.eq_or_lt_of_le hm1 with he | hlt
        · subst he; exact h
        · exact h4 m hlt hm2
      · rintro ⟨h1, h2, h3, h4⟩
        have : i ≠ j := fun e => h (e ▸ h3)
        exact ⟨by omega, by omega, h3, fun m hm1 hm2 => h4 m (by omega) hm2⟩

/-- The lowest free index. -/
theorem tfree_eq_some {α : Type} (t : Table α) (n j : Nat) :
    tfree t n = some j ↔ j < n ∧ tget t j = none ∧ ∀ m, m < j → tget t m ≠ none := by
  simp [tfree, tfreeFrom_eq_some]

theorem tfreeFrom_eq_none {α : Type} (t : Table α) (fuel i : Nat) :
    tfreeFrom t i fuel = none ↔ ∀ m, i ≤ m → m < i + fuel → tget t m ≠ none := by
  induction fuel generalizing i with
  | zero => simp only [tfreeFrom, true_iff]; intro m h1 h2; omega
  | succ n ih =>
    by_cases h : tget t i = none
    · simp only [tfreeFrom, h, Option.isNone_none, if_true, reduceCtorEq, false_iff]
      exact fun hn => hn i (Nat.le_refl _) (by omega) h
    · have hs : (tget t i).isNone = false := by
        cases hg : tget t i with
        | none => exact absurd hg h
        | some _ => rfl
      simp only [tfreeFrom, hs, Bool.false_eq_true, if_false, ih]
      constructor
      · intro hn m h1 h2
        rcases Nat.eq_or_lt_of_le h1 with he | hlt
        · subst he; exact h
        · exact hn m hlt (by omega)
      · intro hn m h1 h2
        exact hn m (by omega) (by omega)

/-- Every index is in use. -/
theorem tfree_eq_none {α : Type} (t : Table α) (n : Nat) : tfree t n = none ↔ ∀ m, m < n → tget t m ≠ none := by
  simp [tfree, tfreeFrom_eq_none]

/-! ### The port -/

@[simp] theorem overwrite_length (old : List Byte) (o : Nat) (new : List Byte) :
    (overwrite old o new).length = old.length := by
  simp [overwrite]

theorem padTo_length (n : Nat) (bs : List Byte) : (padTo n bs).length = n := by
  simp [padTo]

theorem resultBytes_length (d : Dispatch) (q : Byte) (a : Answer) : (resultBytes d q a).length = Config.resultBytes := by
  simp [resultBytes, padTo_length]

@[simp] theorem Port.place_request (q : Port) (d : Dispatch) (a : Answer) : (q.place d a).request = q.request := rfl
@[simp] theorem Port.place_state (q : Port) (d : Dispatch) (a : Answer) : (q.place d a).state = .result := rfl
@[simp] theorem Port.place_sequence (q : Port) (d : Dispatch) (a : Answer) :
    (q.place d a).sequence = q.sequence + 1 := rfl
@[simp] theorem Port.place_collision (q : Port) (d : Dispatch) (a : Answer) :
    (q.place d a).collision = q.collision := rfl

/-! ### Requests and events -/

theorem State.dispatchOf_dispatched (s : State) (d : Dispatch) (i : Instr) (h : Dispatched s d i) :
    s.dispatchOf i = some d := by
  simp [State.dispatchOf, h.1, h.2]

/-- A request that is outstanding: a refusal leaves the part, an answer with effect is taken. -/
theorem State.takeRequest_dispatched (s : State) (d : Dispatch) (i : Instr) (f : Part → Reply) (h : Dispatched s d i) :
    s.takeRequest i f =
      if (f s.part.quiet).2.status.refuses then s.answered d (f s.part.quiet).2
      else s.taken d (f s.part.quiet).2 (f s.part.quiet).1 := by
  simp only [State.takeRequest, s.dispatchOf_dispatched d i h]
  split <;> rfl

theorem State.takeQuery_dispatched (s : State) (d : Dispatch) (i : Instr) (f : Part → Answer) (h : Dispatched s d i) :
    s.takeQuery i f = s.answered d (f s.part.quiet) := by
  simp [State.takeQuery, s.dispatchOf_dispatched d i h, State.answered]

theorem State.takeRequest_withdrawn (s : State) (i : Instr) (f : Part → Reply) (h : s.dispatchOf i = none) :
    s.takeRequest i f = s.quiet := by
  simp [State.takeRequest, h]

theorem State.takeQuery_withdrawn (s : State) (i : Instr) (f : Part → Answer) (h : s.dispatchOf i = none) :
    s.takeQuery i f = s.quiet := by
  simp [State.takeQuery, h]

theorem State.dispatchOf_none (s : State) (i : Instr) (h : ∀ d, ¬ Dispatched s d i) : s.dispatchOf i = none := by
  unfold State.dispatchOf
  split
  · rename_i d hs
    split
    · rename_i hd
      exact absurd ⟨hs, hd⟩ (h d)
    · rfl
  · rfl

/-- An event beside the port. -/
theorem State.event_eq_acted (s : State) (f : Part → Part) : s.event f = s.acted (f s.part.quiet) := rfl

@[simp] theorem State.answered_pending (s : State) (d : Dispatch) (a : Answer) : (s.answered d a).pending = s.pending := rfl
@[simp] theorem State.taken_pending (s : State) (d : Dispatch) (a : Answer) (q : Part) :
    (s.taken d a q).pending = s.pending := by simp only [State.taken]
@[simp] theorem State.acted_pending (s : State) (q : Part) : (s.acted q).pending = s.pending := by simp only [State.acted]
@[simp] theorem State.quiet_pending (s : State) : s.quiet.pending = s.pending := rfl
@[simp] theorem State.acted_port (s : State) (q : Part) : (s.acted q).port = s.port := by simp only [State.acted]
@[simp] theorem State.quiet_port (s : State) : s.quiet.port = s.port := rfl

@[simp] theorem State.answered_owed (s : State) (d : Dispatch) (a : Answer) : (s.answered d a).owed = s.owed := rfl
@[simp] theorem State.taken_owed (s : State) (d : Dispatch) (a : Answer) (q : Part) : (s.taken d a q).owed = s.owed := by
  simp only [State.taken]
@[simp] theorem State.acted_owed (s : State) (q : Part) : (s.acted q).owed = s.owed := by simp only [State.acted]
@[simp] theorem State.quiet_owed (s : State) : s.quiet.owed = s.owed := rfl
@[simp] theorem State.quiet_part (s : State) : s.quiet.part = s.part.quiet := rfl
@[simp] theorem State.portEvent_owed (s : State) (f : Port → Port) : (s.portEvent f).owed = s.owed := rfl
@[simp] theorem State.portEvent_pending (s : State) (f : Port → Port) : (s.portEvent f).pending = s.pending := rfl
@[simp] theorem State.portEvent_port (s : State) (f : Port → Port) : (s.portEvent f).port = f s.port := rfl
@[simp] theorem State.portEvent_part (s : State) (f : Port → Port) : (s.portEvent f).part = s.part.quiet := rfl

/-- A request leaves the blocks that owe a reset alone. -/
theorem State.takeRequest_owed (s : State) (i : Instr) (f : Part → Reply) : (s.takeRequest i f).owed = s.owed := by
  unfold State.takeRequest; split <;> rfl

theorem State.takeQuery_owed (s : State) (i : Instr) (f : Part → Answer) : (s.takeQuery i f).owed = s.owed := by
  unfold State.takeQuery; split <;> rfl

/-- A request leaves the queue alone. -/
theorem State.takeRequest_pending (s : State) (i : Instr) (f : Part → Reply) :
    (s.takeRequest i f).pending = s.pending := by
  unfold State.takeRequest; split <;> rfl

theorem State.takeQuery_pending (s : State) (i : Instr) (f : Part → Answer) :
    (s.takeQuery i f).pending = s.pending := by
  unfold State.takeQuery; split <;> rfl

/-- The port after a request: as it was, or with the answer placed. -/
theorem State.takeRequest_port (s : State) (i : Instr) (f : Part → Reply) :
    (s.takeRequest i f).port = s.port ∨ ∃ d a, (s.takeRequest i f).port = s.port.place d a := by
  unfold State.takeRequest
  split
  · exact Or.inl rfl
  · exact Or.inr ⟨_, _, rfl⟩

theorem State.takeQuery_port (s : State) (i : Instr) (f : Part → Answer) :
    (s.takeQuery i f).port = s.port ∨ ∃ d a, (s.takeQuery i f).port = s.port.place d a := by
  unfold State.takeQuery
  split
  · exact Or.inl rfl
  · exact Or.inr ⟨_, _, rfl⟩

@[simp] theorem Part.refuse_fst (p : Part) (st : Status) : (p.refuse st).1 = p := rfl
@[simp] theorem Part.refuse_snd (p : Part) (st : Status) : (p.refuse st).2 = Answer.bare st := rfl
@[simp] theorem Part.accept_fst (p : Part) : p.accept.1 = p := rfl
@[simp] theorem Part.accept_snd (p : Part) : p.accept.2 = Answer.bare .ok := rfl
@[simp] theorem Part.answerWith_fst (p : Part) (bs : List Byte) : (p.answerWith bs).1 = p := rfl
@[simp] theorem Part.answerWith_snd (p : Part) (bs : List Byte) : (p.answerWith bs).2 = Answer.withPayload bs := rfl

/-! ### The vector -/

/-- What the vector is formed from does not hold the vector itself or the messages. -/
theorem Part.formVector_congr (p q : Part) (h1 : ∀ n, p.sourcePending n = q.sourcePending n)
    (h2 : p.attention.mask = q.attention.mask) : p.formVector = q.formVector := by
  simp [Part.formVector, h1, h2]

theorem Part.sourcePending_congr (p q : Part) (n : Nat) (hr : p.readers = q.readers) (hd : p.dests = q.dests)
    (hc : p.channels = q.channels) (hx : p.render = q.render) (h1 : p.attention.custody = q.attention.custody)
    (h2 : p.attention.faults = q.attention.faults) : p.sourcePending n = q.sourcePending n := by
  simp only [Part.sourcePending, Part.dest, Part.reader, Part.channel, hr, hd, hc, hx, h1, h2]

@[simp] theorem Part.reformVector_readers (p : Part) : p.reformVector.readers = p.readers := by
  unfold Part.reformVector; dsimp only; split <;> rfl
@[simp] theorem Part.reformVector_dests (p : Part) : p.reformVector.dests = p.dests := by
  unfold Part.reformVector; dsimp only; split <;> rfl
@[simp] theorem Part.reformVector_channels (p : Part) : p.reformVector.channels = p.channels := by
  unfold Part.reformVector; dsimp only; split <;> rfl
@[simp] theorem Part.reformVector_render (p : Part) : p.reformVector.render = p.render := by
  unfold Part.reformVector; dsimp only; split <;> rfl
@[simp] theorem Part.reformVector_standing (p : Part) : p.reformVector.standing = p.standing := by
  unfold Part.reformVector; dsimp only; split <;> rfl
@[simp] theorem Part.reformVector_fault (p : Part) : p.reformVector.fault = p.fault := by
  unfold Part.reformVector; dsimp only; split <;> rfl
@[simp] theorem Part.reformVector_attention (p : Part) :
    p.reformVector.attention = { p.attention with vector := p.formVector } := by
  unfold Part.reformVector; dsimp only; split <;> rfl

end Sys2Proof.Machine
end

