-- ==== Sys2Proof/Laws/Step.lean ====
section
/-! SUPPORT. What a command can do, said once: every command is one of seven shapes, and what each shape leaves as it was. -/

namespace Sys2Proof.Machine

/-! ### The shapes -/

/-- A request that only reads is answered from the part as it stands. -/
theorem exec_query (i : Instr) (h : i.isQuery = true) :
    ∃ f : Part → Answer, ∀ s, exec i s = .next (s.takeQuery i f) := by
  cases i <;> simp only [Instr.isQuery, Bool.false_eq_true] at h
  all_goals exact ⟨_, fun _ => rfl⟩

/-- Any other request is taken with its effect. -/
theorem exec_effect (i : Instr) (h : i.isRequest = true) (hq : i.isQuery = false) :
    ∃ f : Part → Reply, ∀ s, exec i s = .next (s.takeRequest i f) := by
  cases i <;> simp only [Instr.isQuery, Instr.isRequest, Bool.false_eq_true, Bool.true_eq_false] at h hq
  all_goals exact ⟨_, fun _ => rfl⟩

/-- A command of the links is one event of the part beside the port. -/
theorem exec_link (i : Instr) (h : i.isLink = true) : ∃ f : Part → Part, ∀ s, exec i s = .next (s.event f) := by
  cases i <;> simp only [Instr.isLink, Bool.false_eq_true] at h
  all_goals exact ⟨_, fun _ => rfl⟩

/-- A command of the port alone changes the port by a function of the port. -/
theorem exec_portOnly (i : Instr) (h : i.isPortOnly = true) :
    ∃ f : Port → Port, ∀ s, exec i s = .next (s.portEvent f) := by
  cases i <;> simp only [Instr.isPortOnly, Bool.false_eq_true] at h
  · exact ⟨_, fun _ => rfl⟩
  · exact ⟨_, fun _ => rfl⟩
  · exact ⟨_, fun _ => rfl⟩
  · exact ⟨_, fun _ => rfl⟩
  · exact ⟨id, fun _ => rfl⟩

/-- The three commands that are of no other shape. -/
theorem exec_maskWord (o : Nat) (bs : List Byte) (s : State) :
    exec (.attentionMaskWordWrite o bs) s = .next (s.event fun p => p.replaceMask (maskAfter p.attention.mask o bs)) := rfl

theorem exec_portReset_whole (s : State) :
    exec (.portReset .whole) s = .next { s.event Part.portReset with port := s.port.cleared, owed := [] } := rfl

theorem exec_portReset_port (s : State) :
    exec (.portReset .port) s = .next { s.quiet with port := s.port.cleared, owed := allBlocks } := rfl

/-- Which block may take its reset: one that owes it, when no block of an earlier stage owes one. -/
theorem mayTakeReset_iff (b : ResetBlock) (owed : List ResetBlock) :
    mayTakeReset b owed = true ↔ b ∈ owed ∧ ∀ x ∈ owed, resetStage b ≤ resetStage x := by
  simp [mayTakeReset]

/-- The event of one block: what it owes is taken once, in its stage; otherwise it takes nothing. -/
theorem exec_portReset_block (b : ResetBlock) (s : State) :
    exec (.portReset (.block b)) s =
      if mayTakeReset b s.owed then .next { s.event fun p => p.takeReset b with owed := s.owed.filter fun x => x != b }
      else .next s.quiet := rfl

/-- Every part of a port reset answers a next state. -/
theorem exec_portReset_next (turn : ResetTurn) (s : State) : ∃ t, exec (.portReset turn) s = .next t := by
  cases turn with
  | whole => exact ⟨_, rfl⟩
  | port => exact ⟨_, rfl⟩
  | block b =>
    by_cases h : mayTakeReset b s.owed = true
    · exact ⟨_, by rw [exec_portReset_block, if_pos h]⟩
    · exact ⟨_, by rw [exec_portReset_block, if_neg h]⟩

theorem exec_powerOnReset (s : State) : exec .powerOnReset s = .next { State.reset with pending := s.pending } := rfl

/-- Every command has one of the shapes. -/
theorem instr_shape (i : Instr) :
    i.isQuery = true ∨ (i.isRequest = true ∧ i.isQuery = false) ∨ i.isLink = true ∨ i.isPortOnly = true ∨
      (∃ o bs, i = .attentionMaskWordWrite o bs) ∨ (∃ t, i = .portReset t) ∨ i = .powerOnReset := by
  cases i <;> simp [Instr.isQuery, Instr.isRequest, Instr.isLink, Instr.isPortOnly]

/-! ### What a shape leaves -/

/-- The state after a request that only reads. -/
theorem State.takeQuery_part (s : State) (i : Instr) (f : Part → Answer) : (s.takeQuery i f).part = s.part.quiet := by
  unfold State.takeQuery; split <;> rfl

/-- The state after a request: withdrawn, refused, or taken. -/
theorem State.takeRequest_cases (s : State) (i : Instr) (f : Part → Reply) :
    s.takeRequest i f = s.quiet ∨
      ∃ d, Dispatched s d i ∧
        (s.takeRequest i f = s.answered d (f s.part.quiet).2 ∨
          s.takeRequest i f = s.taken d (f s.part.quiet).2 (f s.part.quiet).1) := by
  unfold State.takeRequest State.dispatchOf
  split
  · left; rfl
  · rename_i d hd
    right
    split at hd
    · rename_i e he
      split at hd
      · rename_i hr
        obtain rfl : e = d := by simpa using hd
        refine ⟨e, ⟨he, hr⟩, ?_⟩
        by_cases hx : (f s.part.quiet).2.status.refuses = true
        · left; simp only [hx, if_true, State.answered]
        · right; simp only [hx, Bool.false_eq_true, if_false, State.taken]
      · simp at hd
    · simp at hd

/-- The commands of the port, one by one. -/
theorem Port.done_request (q : Port) : q.done.request = q.request := by
  unfold Port.done; split <;> rfl
theorem Port.done_result (q : Port) : q.done.result = q.result := by
  unfold Port.done; split <;> rfl
theorem Port.done_sequence (q : Port) : q.done.sequence = q.sequence := by
  unfold Port.done; split <;> rfl
theorem Port.go_request (q : Port) : q.go.request = q.request := by
  unfold Port.go Port.launch; split
  · split <;> rfl
  · rfl

/-- What a Go does to the result: nothing, or a result placed. -/
theorem Port.go_cases (q : Port) :
    (q.go.result = q.result ∧ q.go.sequence = q.sequence) ∨ ∃ d a, q.go = q.place d a := by
  unfold Port.go Port.launch; split
  · split
    · exact Or.inl ⟨rfl, rfl⟩
    · exact Or.inr ⟨_, _, rfl⟩
    · exact Or.inr ⟨_, _, rfl⟩
  · exact Or.inl ⟨rfl, rfl⟩

theorem Port.go_collision (q : Port) (h : q.collision = true) : q.go.collision = true := by
  unfold Port.go Port.launch; split
  · split <;> exact h
  · rfl

theorem Port.done_collision (q : Port) (h : q.collision = true) : q.done.collision = true := by
  unfold Port.done; split
  · exact h
  · exact h
  · rfl

/-! ### One write of the port control word -/

@[simp] theorem Port.clearCollision_request (q : Port) : q.clearCollision.request = q.request := rfl
@[simp] theorem Port.clearCollision_result (q : Port) : q.clearCollision.result = q.result := rfl
@[simp] theorem Port.clearCollision_sequence (q : Port) : q.clearCollision.sequence = q.sequence := rfl
@[simp] theorem Port.clearCollision_state (q : Port) : q.clearCollision.state = q.state := rfl
@[simp] theorem Port.clearCollision_collision (q : Port) : q.clearCollision.collision = false := rfl

/-- A write leaves the request buffer. -/
theorem Port.control_request (q : Port) (clear done go : Bool) : (q.control clear done go).request = q.request := by
  cases clear <;> cases done <;> cases go <;> simp [Port.control, Port.go_request, Port.done_request]

/-- What a write does to the result: nothing, or a result placed. -/
theorem Port.control_cases (q : Port) (clear done go : Bool) :
    ((q.control clear done go).result = q.result ∧ (q.control clear done go).sequence = q.sequence) ∨
      ∃ d a, (q.control clear done go).sequence = q.sequence + 1 ∧ (q.control clear done go).state = .result ∧
        (q.control clear done go).result = resultBytes d (q.sequence + 1) a := by
  have key : ∀ q' : Port, q'.result = q.result → q'.sequence = q.sequence →
      (q'.go.result = q.result ∧ q'.go.sequence = q.sequence) ∨
        ∃ d a, q'.go.sequence = q.sequence + 1 ∧ q'.go.state = .result ∧
          q'.go.result = resultBytes d (q.sequence + 1) a := by
    intro q' h1 h2
    rcases q'.go_cases with ⟨h3, h4⟩ | ⟨d, a, h⟩
    · exact Or.inl ⟨h3.trans h1, h4.trans h2⟩
    · exact Or.inr ⟨d, a, by rw [h]; simp [h2], by rw [h]; rfl, by rw [h]; simp [Port.place, h2]⟩
  cases go with
  | false =>
    left
    cases clear <;> cases done <;> simp [Port.control, Port.done_result, Port.done_sequence]
  | true =>
    cases clear <;> cases done <;> exact key _ (by simp [Port.done_result]) (by simp [Port.done_sequence])

/-- A write that does not clear the collision flag leaves it set. -/
theorem Port.control_collision (q : Port) (done go : Bool) (h : q.collision = true) :
    (q.control false done go).collision = true := by
  cases done <;> cases go <;> simp only [Port.control, Bool.false_eq_true, if_false, if_true]
  · exact h
  · exact q.go_collision h
  · exact q.done_collision h
  · exact Port.go_collision _ (q.done_collision h)

/-! ### From a meaning's body to its statement -/

/-- An outstanding request whose meaning refuses is declined. -/
theorem declines_of_refuse {s : State} {d : Dispatch} {i : Instr} {f : Part → Reply} {st : Status}
    (h : Dispatched s d i) (he : exec i s = .next (s.takeRequest i f)) (hf : f s.part.quiet = s.part.quiet.refuse st)
    (hr : st.refuses = true) : Declines s d i st := by
  unfold Declines
  rw [he, State.takeRequest_dispatched _ _ _ _ h, hf]
  simp [hr, State.refused, Answer.bare]

/-- An outstanding request whose meaning gives a part and an answer that refuses nothing is taken. -/
theorem taken_of_reply {s : State} {d : Dispatch} {i : Instr} {f : Part → Reply} {a : Answer} {q : Part}
    (h : Dispatched s d i) (he : exec i s = .next (s.takeRequest i f)) (hf : f s.part.quiet = (q, a))
    (hr : a.status.refuses = false) : exec i s = .next (s.taken d a q) := by
  rw [he, State.takeRequest_dispatched _ _ _ _ h, hf]
  simp [hr]

/-- An outstanding request that only reads is answered. -/
theorem answered_of_query {s : State} {d : Dispatch} {i : Instr} {f : Part → Answer} {a : Answer}
    (h : Dispatched s d i) (he : exec i s = .next (s.takeQuery i f)) (hf : f s.part.quiet = a) :
    exec i s = .next (s.answered d a) := by
  rw [he, State.takeQuery_dispatched _ _ _ _ h, hf]

/-- An event beside the port is acted. -/
theorem acted_of_event {s : State} {i : Instr} {f : Part → Part} {q : Part} (he : exec i s = .next (s.event f))
    (hf : f s.part.quiet = q) : exec i s = .next (s.acted q) := by
  rw [he, State.event_eq_acted, hf]

end Sys2Proof.Machine
end

