-- ==== Sys2Proof/Laws/Tables.lean ====
section
/-! SUPPORT. The canonical form of a table, what taking, freeing and changing a record do to it, and lists without
repetition. -/

namespace Sys2Proof.Machine

/-! ### Tables -/

/-- The indexes that a table has in use, in order. -/
theorem twf_iff {α : Type} (n : Nat) (t : Table α) :
    twf n t = true ↔ (t.map (·.1)).Pairwise (· < ·) ∧ ∀ k ∈ t.map (·.1), k < n := by
  induction t with
  | nil => simp [twf]
  | cons a t ih =>
    obtain ⟨k, x⟩ := a
    cases t with
    | nil => simp [twf]
    | cons b t =>
      obtain ⟨j, y⟩ := b
      have e : twf n ((k, x) :: (j, y) :: t) = (decide (k < j) && twf n ((j, y) :: t)) := rfl
      simp only [e, Bool.and_eq_true, decide_eq_true_eq, ih, List.map_cons, List.pairwise_cons, List.forall_mem_cons]
      constructor
      · rintro ⟨h, ⟨h1, h2⟩, h3, h4⟩
        exact ⟨⟨⟨h, fun m hm => h.trans (h1 m hm)⟩, h1, h2⟩, h.trans h3, h3, h4⟩
      · rintro ⟨⟨⟨h, _⟩, h1, h2⟩, _, h3, h4⟩
        exact ⟨h, ⟨h1, h2⟩, h3, h4⟩

/-- A change of one record keeps the indexes. -/
theorem tmod_keys {α : Type} (t : Table α) (i : Nat) (f : α → α) : (tmod t i f).map (·.1) = t.map (·.1) := by
  simp only [tmod, List.map_map]
  exact List.map_congr_left fun e _ => by simp only [Function.comp_apply]; split <;> rfl

@[simp] theorem twf_tmod {α : Type} (n : Nat) (t : Table α) (i : Nat) (f : α → α) : twf n (tmod t i f) = twf n t := by
  rw [Bool.eq_iff_iff, twf_iff, twf_iff, tmod_keys]

@[simp] theorem twf_mapped {α : Type} (n : Nat) (t : Table α) (f : Nat × α → α) :
    twf n (t.map fun e => (e.1, f e)) = twf n t := by
  rw [Bool.eq_iff_iff, twf_iff, twf_iff, List.map_map]; rfl

/-- Freeing indexes keeps the form. -/
theorem twf_filter {α : Type} (n : Nat) (t : Table α) (test : Nat × α → Bool) (h : twf n t = true) :
    twf n (t.filter test) = true := by
  rw [twf_iff] at h ⊢
  have hs : ((t.filter test).map (·.1)).Sublist (t.map (·.1)) := List.filter_sublist.map _
  exact ⟨h.1.sublist hs, fun k hk => h.2 k (hs.subset hk)⟩

theorem twf_tdel {α : Type} (n : Nat) (t : Table α) (i : Nat) (h : twf n t = true) : twf n (tdel t i) = true :=
  twf_filter n t _ h

theorem tset_keys {α : Type} (t : Table α) (i k : Nat) (x : α) :
    k ∈ (tset t i x).map (·.1) ↔ k = i ∨ k ∈ t.map (·.1) := by
  induction t with
  | nil => simp [tset]
  | cons a t ih =>
    obtain ⟨j, y⟩ := a
    simp only [tset]
    split
    · simp
    · split
      · rename_i h; subst h; simp
      · simp only [List.map_cons, List.mem_cons, ih]; tauto

/-- Taking an index into use keeps the form. -/
theorem twf_tset {α : Type} (n : Nat) (t : Table α) (i : Nat) (x : α) (h : twf n t = true) (hi : i < n) :
    twf n (tset t i x) = true := by
  rw [twf_iff] at h ⊢
  refine ⟨?_, fun k hk => ?_⟩
  · have h1 := h.1
    clear h hi
    induction t with
    | nil => simp [tset]
    | cons a t ih =>
      obtain ⟨j, y⟩ := a
      simp only [List.map_cons, List.pairwise_cons] at h1
      simp only [tset]
      split
      · rename_i hij
        simp only [List.map_cons, List.pairwise_cons, List.forall_mem_cons]
        exact ⟨⟨hij, fun m hm => hij.trans (h1.1 m hm)⟩, h1.1, h1.2⟩
      · split
        · rename_i h2; subst h2
          simp only [List.map_cons, List.pairwise_cons]; exact h1
        · simp only [List.map_cons, List.pairwise_cons]
          refine ⟨fun m hm => ?_, ih h1.2⟩
          rcases (tset_keys t i m x).1 hm with rfl | hm
          · omega
          · exact h1.1 m hm
  · rcases (tset_keys t i k x).1 hk with rfl | hk
    · exact hi
    · exact h.2 k hk

theorem tfree_lt {α : Type} {t : Table α} {n i : Nat} (h : tfree t n = some i) : i < n := ((tfree_eq_some t n i).1 h).1

/-- A record in use stands in its table. -/
theorem tget_mem {α : Type} {t : Table α} {i : Nat} {x : α} (h : tget t i = some x) : (i, x) ∈ t := by
  induction t with
  | nil => cases h
  | cons e t ih =>
    obtain ⟨j, y⟩ := e
    simp only [tget] at h
    split at h
    · rename_i hj; cases h; subst hj; exact List.mem_cons_self
    · exact List.mem_cons_of_mem _ (ih h)

/-- The records of a table after one was taken into use. -/
theorem mem_tset {α : Type} {t : Table α} {i : Nat} {x : α} {e : Nat × α} (h : e ∈ tset t i x) : e = (i, x) ∨ e ∈ t := by
  induction t with
  | nil => simpa [tset] using h
  | cons y t ih =>
    obtain ⟨j, y⟩ := y
    simp only [tset] at h
    (repeat' split at h) <;> simp only [List.mem_cons] at h ⊢ <;> tauto

/-- A change of one record as a change of all. -/
theorem tmod_eq_map {α : Type} (t : Table α) (i : Nat) (f : α → α) :
    tmod t i f = t.map fun e => (e.1, if e.1 = i then f e.2 else e.2) :=
  List.map_congr_left fun e _ => by split <;> rfl

/-! ### Lists without repetition -/

@[simp] theorem nodup_filtered {α : Type} (xs : List α) (test : α → Bool) (h : xs.Nodup) : (xs.filter test).Nodup :=
  h.filter _

@[simp] theorem nodup_addOnce {α : Type} [DecidableEq α] (xs : List α) (x : α) :
    (addOnce xs x).Nodup ↔ xs.Nodup := by
  unfold addOnce; split
  · rfl
  · rename_i h
    rw [List.nodup_append]
    simp only [List.nodup_cons, List.not_mem_nil, not_false_eq_true, List.nodup_nil, and_self, true_and]
    exact ⟨fun k => k.1, fun k => ⟨k, fun y hy z hz e => h (by simp_all)⟩⟩

end Sys2Proof.Machine
end

