-- ==== Sys2Proof/Laws/Keeps.lean ====
section
/-! SUPPORT. What nearly every operation over the part keeps, said once for each operation: the standing plan, the fault
policy and the attention mask (`settings`); the facts of the volume records but for verify mode and verify list
(`bindings`); the canonical form of every table (`Part.Tidy`); the bounds of slots, slot queue and verify lists
(`Part.Bounded`). The lemma of an operation that changes the settings or the bindings says it with that flag false. Each is
of the form: kept up to here, so kept after one operation more, which lets `simp` run through a chain of operations. -/

namespace Sys2Proof.Machine

/-- The volume records without their verify modes and verify lists. -/
def Part.bindings (p : Part) : Table Volume := p.volumes.map fun e => (e.1, { e.2 with mode := .auto, verifyList := [] })

/-- From the part `a` to the part `p`: the invariants stay, the settings too when `st` is set, the bindings when `bd` is. -/
structure Keeps (st bd : Bool) (a p : Part) : Prop where
  settings : st = true → p.settings = a.settings
  bindings : bd = true → p.bindings = a.bindings
  tidy : a.Tidy → p.Tidy
  bounded : a.Bounded → p.Bounded

variable {st bd : Bool} {a : Part}

theorem Keeps.refl (a : Part) : Keeps st bd a a := ⟨fun _ => rfl, fun _ => rfl, id, id⟩

theorem Keeps.trans {p q : Part} (h : Keeps st bd a p) (k : Keeps st bd p q) : Keeps st bd a q :=
  ⟨fun e => (k.settings e).trans (h.settings e), fun e => (k.bindings e).trans (h.bindings e),
    fun e => k.tidy (h.tidy e), fun e => k.bounded (h.bounded e)⟩

/-- What keeps all four keeps the invariants alone. -/
theorem Keeps.weaken {p : Part} (h : Keeps true true a p) : Keeps st bd a p :=
  ⟨fun _ => h.settings rfl, fun _ => h.bindings rfl, h.tidy, h.bounded⟩

/-- The fields that these facts speak of. -/
def Part.frame (p : Part) :=
  (p.cards, p.clips, p.cameras, p.standing, p.volumes, p.looks, p.fault.defects, p.fault.policy, p.attention.mask, p.pool)

/-- A change of any other field keeps all. -/
theorem Keeps.same {p q : Part} (h : Keeps st bd a p) (e : q.frame = p.frame) : Keeps st bd a q := by
  simp only [Part.frame, Prod.mk.injEq] at e
  obtain ⟨e1, e2, e3, e4, e5, e6, e7, e8, e9, e10⟩ := e
  refine h.trans ⟨fun _ => ?_, fun _ => ?_, ?_, ?_⟩
  · simp only [Part.settings, e4, e8, e9]
  · simp only [Part.bindings, e5]
  · simp only [Part.Tidy, e1, e2, e3, e5, e6, e7, e8]; exact id
  · simp only [Part.Bounded, Part.slotsOf, e5, e10]; exact id

@[simp] theorem Part.keeps_ite (c : Prop) [Decidable c] (x y : Part) :
    Keeps st bd a (if c then x else y) ↔ if c then Keeps st bd a x else Keeps st bd a y := by split <;> rfl

@[simp] theorem Part.each_keeps {α : Type} (p : Part) (xs : List α) (f : Part → α → Part)
    (hf : ∀ q x, Keeps st bd a q → Keeps st bd a (f q x)) (h : Keeps st bd a p) : Keeps st bd a (p.each xs f) := by
  unfold Part.each
  induction xs generalizing p with
  | nil => exact h
  | cons x xs ih => exact ih (f p x) (hf p x h)

/-! ### Tables and pool -/

/-- A change of records that leaves the indexes of a table keeps all. -/
theorem Keeps.keys {p q : Part} (h : Keeps st bd a p) (e1 : q.cards.map (·.1) = p.cards.map (·.1))
    (e2 : q.clips.map (·.1) = p.clips.map (·.1)) (e3 : q.cameras.map (·.1) = p.cameras.map (·.1))
    (e4 : q.looks.map (·.1) = p.looks.map (·.1)) (e5 : q.fault.defects.map (·.1) = p.fault.defects.map (·.1))
    (e6 : (q.standing, q.volumes, q.fault.policy, q.attention.mask, q.pool) =
      (p.standing, p.volumes, p.fault.policy, p.attention.mask, p.pool)) : Keeps st bd a q := by
  simp only [Prod.mk.injEq] at e6
  obtain ⟨e6, e7, e8, e9, e10⟩ := e6
  refine h.trans ⟨fun _ => ?_, fun _ => ?_, ?_, ?_⟩
  · simp only [Part.settings, e6, e8, e9]
  · simp only [Part.bindings, e7]
  · simp only [Part.Tidy, twf_iff, e1, e2, e3, e4, e5, e7, e8]; exact id
  · simp only [Part.Bounded, Part.slotsOf, e7, e10]; exact id

@[simp] theorem Part.modReader_keeps (p : Part) (l : Fin 6) (f : ReaderLane → ReaderLane) (h : Keeps st bd a p) :
    Keeps st bd a (p.modReader l f) := h.same rfl

@[simp] theorem Part.modDest_keeps (p : Part) (d : Fin 4) (f : DestLane → DestLane) (h : Keeps st bd a p) :
    Keeps st bd a (p.modDest d f) := h.same rfl

@[simp] theorem Part.modChannel_keeps (p : Part) (c : Fin 2) (f : Channel → Channel) (h : Keeps st bd a p) :
    Keeps st bd a (p.modChannel c f) := h.same rfl

@[simp] theorem Part.modCard_keeps (p : Part) (i : Nat) (f : Card → Card) (h : Keeps st bd a p) :
    Keeps st bd a (p.modCard i f) := h.keys (tmod_keys _ _ _) rfl rfl rfl rfl rfl

@[simp] theorem Part.modClip_keeps (p : Part) (i : Nat) (f : Clip → Clip) (h : Keeps st bd a p) :
    Keeps st bd a (p.modClip i f) := h.keys rfl (tmod_keys _ _ _) rfl rfl rfl rfl

@[simp] theorem Part.modLook_keeps (p : Part) (i : Nat) (f : Look → Look) (h : Keeps st bd a p) :
    Keeps st bd a (p.modLook i f) := h.keys rfl rfl rfl (tmod_keys _ _ _) rfl rfl

/-- A change of every volume record that keeps the verify lists without repetition. -/
theorem Keeps.volumes {p : Part} (h : Keeps st bd a p) (g : Nat → Volume → Volume)
    (hn : p.Bounded → ∀ i r, r.verifyList.Nodup → (g i r).verifyList.Nodup)
    (hb : bd = true → ∀ i r, ({ g i r with mode := .auto, verifyList := [] } : Volume) =
      { r with mode := .auto, verifyList := [] }) :
    Keeps st bd a { p with volumes := p.volumes.map fun e => (e.1, g e.1 e.2) } := by
  refine h.trans ⟨fun _ => rfl, fun e => ?_, ?_, ?_⟩
  · simp only [Part.bindings, List.map_map]
    exact List.map_congr_left fun x _ => by simp only [Function.comp_apply, hb e]
  · simp only [Part.Tidy, twf_iff, List.map_map]; exact id
  · intro b
    refine ⟨b.1, b.2.1, b.2.2.1, b.2.2.2.1, fun e he => ?_⟩
    obtain ⟨x, hx, rfl⟩ := List.mem_map.1 he
    exact hn b _ _ (b.2.2.2.2 x hx)

/-- A change of one volume record. -/
theorem Part.modVolume_keeps_of (p : Part) (v : Nat) (f : Volume → Volume)
    (hn : p.Bounded → ∀ r, r.verifyList.Nodup → (f r).verifyList.Nodup)
    (hb : bd = true → ∀ r, ({ f r with mode := .auto, verifyList := [] } : Volume) =
      { r with mode := .auto, verifyList := [] }) (h : Keeps st bd a p) : Keeps st bd a (p.modVolume v f) := by
  unfold Part.modVolume; rw [tmod_eq_map]
  refine h.volumes (fun i r => if i = v then f r else r) (fun b i r hr => ?_) fun e i r => ?_
  · split
    · exact hn b r hr
    · exact hr
  · split
    · exact hb e r
    · rfl

@[simp] theorem Part.modVolume_keeps (p : Part) (v : Nat) (f : Volume → Volume)
    (hn : ∀ r, r.verifyList.Nodup → (f r).verifyList.Nodup)
    (hb : bd = true → ∀ r, ({ f r with mode := .auto, verifyList := [] } : Volume) =
      { r with mode := .auto, verifyList := [] }) (h : Keeps st bd a p) : Keeps st bd a (p.modVolume v f) :=
  Part.modVolume_keeps_of p v f (fun _ => hn) hb h

/-- The number and the lane of a slot. -/
def Slot.place (s : Slot) : Nat × Fin 6 := (s.id, s.lane)

/-- A change of the slots that takes away none but whole slots. -/
theorem Keeps.slots {p : Part} (h : Keeps st bd a p) (f : List Slot → List Slot)
    (hf : ((f p.pool.slots).map Slot.place).Sublist (p.pool.slots.map Slot.place)) : Keeps st bd a (p.setSlots f) := by
  refine h.trans ⟨fun _ => rfl, fun _ => rfl, id, ?_⟩
  rintro ⟨h1, h2, h3, h4, h5⟩
  have e : ∀ xs : List Slot, xs.map (·.id) = (xs.map Slot.place).map (·.1) := fun xs => by
    rw [List.map_map]; rfl
  have e' : ∀ (xs : List Slot) (l : Fin 6),
      (xs.filter fun s => s.lane == l).length = ((xs.map Slot.place).filter fun s => s.2 == l).length := fun xs l => by
    rw [List.filter_map, List.length_map]; rfl
  refine ⟨?_, fun s hs => ?_, fun l => ?_, h4, h5⟩
  · rw [e] at h1 ⊢; exact h1.sublist (hf.map _)
  · have hm : s.id ∈ (p.pool.slots.map Slot.place).map (·.1) :=
      (hf.map _).subset (List.mem_map.2 ⟨s.place, List.mem_map.2 ⟨s, hs, rfl⟩, rfl⟩)
    obtain ⟨x, hx, hx'⟩ := List.mem_map.1 hm
    obtain ⟨y, hy, rfl⟩ := List.mem_map.1 hx
    have := h2 y hy
    simp only [Slot.place] at hx'
    omega
  · have := h3 l
    simp only [Part.slotsOf, Part.setSlots] at this ⊢
    rw [e'] at this ⊢
    exact ((hf.filter _).length_le).trans this

/-- A change of each slot alone keeps its number and lane. -/
theorem Slot.place_map (xs : List Slot) (f : Slot → Slot) (hf : ∀ s, (f s).place = s.place) :
    (xs.map f).map Slot.place = xs.map Slot.place := by
  rw [List.map_map]; exact List.map_congr_left fun s _ => hf s

theorem Slot.place_modWhere (xs : List Slot) (test : Slot → Bool) (f : Slot → Slot) (hf : ∀ s, (f s).place = s.place) :
    (modWhere xs test f).map Slot.place = xs.map Slot.place :=
  Slot.place_map _ _ fun s => by split
                                 · exact hf s
                                 · rfl

@[simp] theorem Part.dropWrites_keeps (p : Part) (test : Slot → SlotWrite → Bool) (h : Keeps st bd a p) :
    Keeps st bd a (p.dropWrites test) :=
  h.slots _ ((List.filter_sublist.map _).trans (by rw [Slot.place_map]; exact fun _ => rfl))

@[simp] theorem Part.freeSlots_keeps (p : Part) (test : Slot → Bool) (h : Keeps st bd a p) :
    Keeps st bd a (p.freeSlots test) := h.slots _ (List.filter_sublist.map _)

@[simp] theorem Part.orphanWrites_keeps (p : Part) (test : Slot → SlotWrite → Bool) (h : Keeps st bd a p) :
    Keeps st bd a (p.orphanWrites test) :=
  h.slots _ (by rw [Slot.place_map]; exact fun _ => rfl)

@[simp] theorem Part.startWrite_keeps (p : Part) (id v : Nat) (h : Keeps st bd a p) :
    Keeps st bd a (p.startWrite id v) :=
  h.slots _ (by rw [Slot.place_modWhere]; exact fun _ => rfl)

/-- A slot's block arrives. -/
@[simp] theorem Part.fillSlot_keeps (p : Part) (test : Slot → Bool) (b : Option Block) (h : Keeps st bd a p) :
    Keeps st bd a (p.setSlots fun ss => modWhere ss test fun s => { s with data := b }) :=
  h.slots _ (by rw [Slot.place_modWhere]; exact fun _ => rfl)

@[simp] theorem Part.endWrite_keeps (p : Part) (id v : Nat) (h : Keeps st bd a p) :
    Keeps st bd a (p.endWrite id v) := Part.dropWrites_keeps p _ h

/-- The queue of lanes that wait for a slot. -/
theorem Keeps.queue {p : Part} (h : Keeps st bd a p) (f : List (Fin 6) → List (Fin 6))
    (hf : p.pool.queue.Nodup → (f p.pool.queue).Nodup) :
    Keeps st bd a { p with pool := { p.pool with queue := f p.pool.queue } } :=
  h.trans ⟨fun _ => rfl, fun _ => rfl, id, fun ⟨h1, h2, h3, h4, h5⟩ => ⟨h1, h2, h3, hf h4, h5⟩⟩

@[simp] theorem Part.leaveQueue_keeps (p : Part) (l : Fin 6) (h : Keeps st bd a p) : Keeps st bd a (p.leaveQueue l) :=
  h.queue _ fun k => k.filter _

/-! ### The operations -/

@[simp] theorem Part.emit_keeps (p : Part) (m : Message) (h : Keeps st bd a p) :
    Keeps st bd a (p.emit m) := h.same rfl

@[simp] theorem Part.sendReader_keeps (p : Part) (l : Fin 6) (req : ReaderRequest) (owner : ReaderOwner)
    (h : Keeps st bd a p) :
    Keeps st bd a (p.sendReader l req owner) := h.same rfl

@[simp] theorem Part.sendVolume_keeps (p : Part) (d : Fin 4) (req : VolumeRequest) (h : Keeps st bd a p) :
    Keeps st bd a (p.sendVolume d req) := h.same rfl

@[simp] theorem Part.claimRelease_keeps (p : Part) (v : Nat) (key : CopyKey) (h : Keeps st bd a p) :
    Keeps st bd a (p.claimRelease v key) := by
  unfold Part.claimRelease; split <;> simp (maxDischargeDepth := 40) +contextual [h]

@[simp] theorem Part.termReader_keeps (p : Part) (l : Fin 6) (t : Termination) (h : Keeps st bd a p) :
    Keeps st bd a (p.termReader l t) := h.same rfl

@[simp] theorem Part.termDest_keeps (p : Part) (d : Fin 4) (t : Termination) (h : Keeps st bd a p) :
    Keeps st bd a (p.termDest d t) := h.same rfl

@[simp] theorem Part.termRender_keeps (p : Part) (t : Termination) (h : Keeps st bd a p) :
    Keeps st bd a (p.termRender t) := h.same rfl

@[simp] theorem Part.termChannel_keeps (p : Part) (c : Fin 2) (t : Termination) (h : Keeps st bd a p) :
    Keeps st bd a (p.termChannel c t) := h.same rfl

@[simp] theorem Part.changedReader_keeps (p : Part) (l : Fin 6) (h : Keeps st bd a p) :
    Keeps st bd a (p.changedReader l) := h.same rfl

@[simp] theorem Part.changedDest_keeps (p : Part) (d : Fin 4) (h : Keeps st bd a p) :
    Keeps st bd a (p.changedDest d) := h.same rfl

@[simp] theorem Part.raiseCustody_keeps (p : Part) (h : Keeps st bd a p) :
    Keeps st bd a p.raiseCustody := h.same rfl

@[simp] theorem Part.raiseFaults_keeps (p : Part) (h : Keeps st bd a p) :
    Keeps st bd a p.raiseFaults := h.same rfl

@[simp] theorem Part.reformVector_keeps (p : Part) (h : Keeps st bd a p) : Keeps st bd a p.reformVector := by
  refine h.same ?_; unfold Part.reformVector; dsimp only; split <;> rfl

@[simp] theorem Part.evaluate_keeps (p : Part) (i : Nat) (h : Keeps st bd a p) :
    Keeps st bd a (p.evaluate i) := by
  unfold Part.evaluate; split <;> simp (maxDischargeDepth := 40) +contextual [h]

@[simp] theorem Part.evaluateClip_keeps (p : Part) (clip : Nat) (h : Keeps st bd a p) :
    Keeps st bd a (p.evaluateClip clip) := by
  unfold Part.evaluateClip; split <;> simp (maxDischargeDepth := 40) +contextual [h]

@[simp] theorem Part.evaluateAll_keeps (p : Part) (h : Keeps st bd a p) :
    Keeps st bd a p.evaluateAll := by
  unfold Part.evaluateAll; simp (maxDischargeDepth := 40) +contextual [h]

@[simp] theorem Part.evaluateVolume_keeps (p : Part) (v : Nat) (h : Keeps st bd a p) :
    Keeps st bd a (p.evaluateVolume v) := by
  unfold Part.evaluateVolume; simp (maxDischargeDepth := 40) +contextual [h]

@[simp] theorem Part.holdCard_keeps (p : Part) (i : Nat) (h : Keeps st bd a p) :
    Keeps st bd a (p.holdCard i) := by
  unfold Part.holdCard; simp (maxDischargeDepth := 40) +contextual [h]

@[simp] theorem Part.abortErase_keeps (p : Part) (i : Nat) (h : Keeps st bd a p) :
    Keeps st bd a (p.abortErase i) := by
  unfold Part.abortErase; simp (maxDischargeDepth := 40) +contextual [h]

@[simp] theorem Part.removeFaults_keeps (p : Part) (clip : Nat) (test : FaultEntry → Bool) (h : Keeps st bd a p) :
    Keeps st bd a (p.removeFaults clip test) := by
  unfold Part.removeFaults; split <;> simp (maxDischargeDepth := 40) +contextual [h]

@[simp] theorem Part.displace_keeps (p : Part) (clip : Nat) (r : Raise) (h : Keeps st bd a p) :
    Keeps st bd a (p.displace clip r) := by
  unfold Part.displace; (repeat' split)
  all_goals simp (maxDischargeDepth := 40) +contextual [h]

@[simp] theorem Part.opening_keeps (p : Part) (card : Nat) (h : Keeps st bd a p) : Keeps st bd a (p.opening card) :=
  Part.evaluate_keeps _ _ (Part.raiseFaults_keeps _ (h.same rfl))

@[simp] theorem Part.mergeFault_keeps (p : Part) (clip : Nat) (r : Raise) (h : Keeps st bd a p) :
    Keeps st bd a (p.mergeFault clip r) := by
  unfold Part.mergeFault; dsimp only; (repeat' split)
  all_goals simp (maxDischargeDepth := 40) +contextual [h]

@[simp] theorem Part.acknowledge_keeps (p : Part) (clip : Nat) (k : FaultKind) (v : Nat) (h : Keeps st bd a p) :
    Keeps st bd a (p.acknowledge clip k v) := by
  unfold Part.acknowledge; (repeat' split)
  all_goals simp (maxDischargeDepth := 40) +contextual [h]

@[simp] theorem Part.lateWrites_keeps (p : Part) (h : Keeps st bd a p) :
    Keeps st bd a p.lateWrites := by
  unfold Part.lateWrites; simp (maxDischargeDepth := 40) +contextual [h]

@[simp] theorem Part.refTake_keeps (p : Part) (kind : RefKind) (look : Option Nat) (h : Keeps st bd a p) :
    Keeps st bd a (p.refTake kind look) := by
  unfold Part.refTake; split <;> simp (maxDischargeDepth := 40) +contextual [h]

@[simp] theorem Part.refRelease_keeps (p : Part) (kind : RefKind) (look : Option Nat) (h : Keeps st bd a p) :
    Keeps st bd a (p.refRelease kind look) := by
  unfold Part.refRelease; split <;> simp (maxDischargeDepth := 40) +contextual [h]

@[simp] theorem Part.refMove_keeps (p : Part) (kind : RefKind) (old new : Option Nat) (h : Keeps st bd a p) :
    Keeps st bd a (p.refMove kind old new) := by
  unfold Part.refMove; simp (maxDischargeDepth := 40) +contextual [h]

@[simp] theorem Part.unpin_keeps (p : Part) (used : Option (Nat × Nat)) (h : Keeps st bd a p) :
    Keeps st bd a (p.unpin used) := by
  unfold Part.unpin; split <;> simp (maxDischargeDepth := 40) +contextual [h]

@[simp] theorem Part.withdrawRead_keeps (p : Part) (c : Fin 2) (h : Keeps st bd a p) :
    Keeps st bd a (p.withdrawRead c) := by
  unfold Part.withdrawRead; simp (maxDischargeDepth := 40) +contextual [h]

@[simp] theorem Part.noSource_keeps (p : Part) (c : Fin 2) (clip : Nat) (h : Keeps st bd a p) :
    Keeps st bd a (p.noSource c clip) := by
  unfold Part.noSource; simp (maxDischargeDepth := 40) +contextual [h]

@[simp] theorem Part.loseSource_keeps (p : Part) (c : Fin 2) (h : Keeps st bd a p) :
    Keeps st bd a (p.loseSource c) := by
  unfold Part.loseSource; dsimp only; (repeat' split)
  all_goals simp (maxDischargeDepth := 40) +contextual [h]

@[simp] theorem Part.regainSource_keeps (p : Part) (c : Fin 2) (h : Keeps st bd a p) :
    Keeps st bd a (p.regainSource c) := by
  unfold Part.regainSource; (repeat' split)
  all_goals simp (maxDischargeDepth := 40) +contextual [h]

@[simp] theorem Part.regainAll_keeps (p : Part) (h : Keeps st bd a p) :
    Keeps st bd a p.regainAll := by
  unfold Part.regainAll; simp (maxDischargeDepth := 40) +contextual [h]

@[simp] theorem Part.regainClip_keeps (p : Part) (clip : Nat) (h : Keeps st bd a p) :
    Keeps st bd a (p.regainClip clip) := by
  unfold Part.regainClip; simp (maxDischargeDepth := 40) +contextual [h]

@[simp] theorem Part.loseAll_keeps (p : Part) (s : Source) (h : Keeps st bd a p) :
    Keeps st bd a (p.loseAll s) := by
  unfold Part.loseAll; simp (maxDischargeDepth := 40) +contextual [h]

@[simp] theorem Part.loseCopy_keeps (p : Part) (clip v : Nat) (h : Keeps st bd a p) :
    Keeps st bd a (p.loseCopy clip v) := by
  unfold Part.loseCopy; simp (maxDischargeDepth := 40) +contextual [h]

@[simp] theorem Part.showFrame_keeps (p : Part) (c : Fin 2) (f : Frame) (h : Keeps st bd a p) :
    Keeps st bd a (p.showFrame c f) := by
  unfold Part.showFrame; simp (maxDischargeDepth := 40) +contextual [h]

@[simp] theorem Part.reachFrame_keeps (p : Part) (c : Fin 2) (f : Frame) (n : Nat) (h : Keeps st bd a p) :
    Keeps st bd a (p.reachFrame c f n) := by
  unfold Part.reachFrame; simp (maxDischargeDepth := 40) +contextual [h]

@[simp] theorem Part.channelBlock_keeps (p : Part) (c : Fin 2) (b : Block) (h : Keeps st bd a p) :
    Keeps st bd a (p.channelBlock c b) := by
  unfold Part.channelBlock; dsimp only; (repeat' split)
  all_goals simp (maxDischargeDepth := 40) +contextual [h]

@[simp] theorem Part.channelAnswer_keeps (p : Part) (c : Fin 2) (b : Option Block) (h : Keeps st bd a p) :
    Keeps st bd a (p.channelAnswer c b) := by
  unfold Part.channelAnswer; split <;> simp (maxDischargeDepth := 40) +contextual [h]

@[simp] theorem Part.queueRead_keeps (p : Part) (c : Fin 2) (h : Keeps st bd a p) :
    Keeps st bd a (p.queueRead c) := by
  unfold Part.queueRead; dsimp only; (repeat' split)
  all_goals simp (maxDischargeDepth := 40) +contextual [h]

@[simp] theorem Part.pumpChannels_keeps (p : Part) (h : Keeps st bd a p) :
    Keeps st bd a p.pumpChannels := by
  unfold Part.pumpChannels; simp (maxDischargeDepth := 40) +contextual [h]

@[simp] theorem Part.sendFrame_keeps (p : Part) (c : Fin 2) (f : Frame) (h : Keeps st bd a p) :
    Keeps st bd a (p.sendFrame c f) := by
  unfold Part.sendFrame; simp (maxDischargeDepth := 40) +contextual [h]

@[simp] theorem Part.outputRequest_keeps (p : Part) (c : Fin 2) (h : Keeps st bd a p) :
    Keeps st bd a (p.outputRequest c) := by
  unfold Part.outputRequest; dsimp only; split <;> simp (maxDischargeDepth := 40) +contextual [h]

@[simp] theorem Part.unbindChannel_keeps (p : Part) (c : Fin 2) (h : Keeps st bd a p) :
    Keeps st bd a (p.unbindChannel c) := by
  unfold Part.unbindChannel; simp (maxDischargeDepth := 40) +contextual [h]

@[simp] theorem Part.setRender_keeps (p : Part) (f : RenderEngine → RenderEngine) (h : Keeps st bd a p) :
    Keeps st bd a (p.setRender f) := h.same rfl

@[simp] theorem Part.queueRender_keeps (p : Part) (v : Nat) (i : RenderItem) (h : Keeps st bd a p) :
    Keeps st bd a (p.queueRender v i) := by
  unfold Part.queueRender; split <;> simp (maxDischargeDepth := 40) +contextual [h]

@[simp] theorem Part.renderRead_keeps (p : Part) (h : Keeps st bd a p) :
    Keeps st bd a p.renderRead := by
  unfold Part.renderRead; (repeat' split)
  all_goals simp (maxDischargeDepth := 40) +contextual [h]

@[simp] theorem Part.renderWrite_keeps (p : Part) (h : Keeps st bd a p) :
    Keeps st bd a p.renderWrite := by
  unfold Part.renderWrite; (repeat' split)
  all_goals simp (maxDischargeDepth := 40) +contextual [h]

@[simp] theorem Part.removeEntry_keeps (p : Part) (tag : Nat) (h : Keeps st bd a p) :
    Keeps st bd a (p.removeEntry tag) := by
  unfold Part.removeEntry; simp (maxDischargeDepth := 40) +contextual [h]

@[simp] theorem Part.startRender_keeps (p : Part) (e : RenderEntry) (h : Keeps st bd a p) :
    Keeps st bd a (p.startRender e) := by
  unfold Part.startRender; dsimp only; (repeat' split)
  all_goals simp (maxDischargeDepth := 40) +contextual [h]

@[simp] theorem Part.examine_keeps (p : Part) (h : Keeps st bd a p) :
    Keeps st bd a p.examine := by
  unfold Part.examine; (repeat' split)
  all_goals simp (maxDischargeDepth := 40) +contextual [h]

@[simp] theorem Part.withdrawRender_keeps (p : Part) (h : Keeps st bd a p) :
    Keeps st bd a p.withdrawRender := by
  unfold Part.withdrawRender; simp (maxDischargeDepth := 40) +contextual [h]

@[simp] theorem Part.dropRender_keeps (p : Part) (h : Keeps st bd a p) :
    Keeps st bd a p.dropRender := by
  unfold Part.dropRender; dsimp only; (repeat' split)
  all_goals simp (maxDischargeDepth := 40) +contextual [h]

@[simp] theorem Part.abortRender_keeps (p : Part) (cause : Cause) (detail : Detail) (h : Keeps st bd a p) :
    Keeps st bd a (p.abortRender cause detail) := by
  unfold Part.abortRender; split <;> simp (maxDischargeDepth := 40) +contextual [h]

@[simp] theorem Part.completeRender_keeps (p : Part) (h : Keeps st bd a p) :
    Keeps st bd a p.completeRender := by
  unfold Part.completeRender; dsimp only; (repeat' split)
  all_goals simp (maxDischargeDepth := 40) +contextual [h]

@[simp] theorem Part.setCtx_keeps (p : Part) (f : RenderCtx → RenderCtx) (h : Keeps st bd a p) :
    Keeps st bd a (p.setCtx f) := by
  unfold Part.setCtx; simp (maxDischargeDepth := 40) +contextual [h]

@[simp] theorem Part.renderBlock_keeps (p : Part) (b : Option Block) (h : Keeps st bd a p) :
    Keeps st bd a (p.renderBlock b) := by
  unfold Part.renderBlock; (repeat' split)
  all_goals simp (maxDischargeDepth := 40) +contextual [h]

@[simp] theorem Part.renderWritten_keeps (p : Part) (h : Keeps st bd a p) :
    Keeps st bd a p.renderWritten := by
  unfold Part.renderWritten; split <;> simp (maxDischargeDepth := 40) +contextual [h]

@[simp] theorem Part.dropCopy_keeps (p : Part) (clip v : Nat) (h : Keeps st bd a p) :
    Keeps st bd a (p.dropCopy clip v) := by
  unfold Part.dropCopy; simp (maxDischargeDepth := 40) +contextual [h]

@[simp] theorem Part.withdrawRecopyReads_keeps (p : Part) (d : Fin 4) (h : Keeps st bd a p) :
    Keeps st bd a (p.withdrawRecopyReads d) := by
  unfold Part.withdrawRecopyReads; simp (maxDischargeDepth := 40) +contextual [h]

@[simp] theorem Part.withdrawRecopyWrites_keeps (p : Part) (d : Fin 4) (h : Keeps st bd a p) :
    Keeps st bd a (p.withdrawRecopyWrites d) := by
  unfold Part.withdrawRecopyWrites; simp (maxDischargeDepth := 40) +contextual [h]

@[simp] theorem Part.releaseReader_keeps (p : Part) (x : RecopyCtx) (h : Keeps st bd a p) :
    Keeps st bd a (p.releaseReader x) := by
  unfold Part.releaseReader; split <;> simp (maxDischargeDepth := 40) +contextual [h]

@[simp] theorem Part.dropRecopy_keeps (p : Part) (d : Fin 4) (h : Keeps st bd a p) :
    Keeps st bd a (p.dropRecopy d) := by
  unfold Part.dropRecopy; dsimp only; (repeat' split)
  all_goals simp (maxDischargeDepth := 40) +contextual [h]

@[simp] theorem Part.endRecopy_keeps (p : Part) (d : Fin 4) (cls : TermClass) (cause : Cause) (detail : Detail)
    (h : Keeps st bd a p) :
    Keeps st bd a (p.endRecopy d cls cause detail) := by
  unfold Part.endRecopy; split <;> simp (maxDischargeDepth := 40) +contextual [h]

@[simp] theorem Part.loseRecopies_keeps (p : Part) (test : RecopyCtx → Bool) (detail : RecopyCtx → Detail)
    (h : Keeps st bd a p) : Keeps st bd a (p.loseRecopies test detail) := by
  refine Part.each_keeps _ _ _ (fun q d hq => ?_) h
  (repeat' split)
  all_goals simp [hq]

@[simp] theorem Part.loseRecopyCopy_keeps (p : Part) (clip v : Nat) (h : Keeps st bd a p) :
    Keeps st bd a (p.loseRecopyCopy clip v) := by
  unfold Part.loseRecopyCopy; simp (maxDischargeDepth := 40) +contextual [h]

@[simp] theorem Part.loseRecopyVolume_keeps (p : Part) (v : Nat) (h : Keeps st bd a p) :
    Keeps st bd a (p.loseRecopyVolume v) := by
  unfold Part.loseRecopyVolume; simp (maxDischargeDepth := 40) +contextual [h]

@[simp] theorem Part.loseRecopyReader_keeps (p : Part) (l : Fin 6) (detail : Detail) (h : Keeps st bd a p) :
    Keeps st bd a (p.loseRecopyReader l detail) := by
  unfold Part.loseRecopyReader; split <;> simp (maxDischargeDepth := 40) +contextual [h]

@[simp] theorem Part.copyGone_keeps (p : Part) (clip v : Nat) (h : Keeps st bd a p) :
    Keeps st bd a (p.copyGone clip v) := by
  unfold Part.copyGone; simp (maxDischargeDepth := 40) +contextual [h]

@[simp] theorem Part.handOn_keeps (p : Part) (clip v : Nat) (old new : CopyState) (h : Keeps st bd a p) :
    Keeps st bd a (p.handOn clip v old new) := by
  unfold Part.handOn; (repeat' split)
  all_goals simp (maxDischargeDepth := 40) +contextual [h]

theorem Part.copyChange_keeps (p : Part) (clip v : Nat) (new : CopyState) (faults : Part → Part)
    (hf : ∀ q, Keeps st bd a q → Keeps st bd a (faults q)) (h : Keeps st bd a p) :
    Keeps st bd a (p.copyChange clip v new faults) := by
  unfold Part.copyChange; split
  · exact Part.handOn_keeps _ _ _ _ _ (hf _ (Part.modClip_keeps _ _ _ h))
  · exact h

@[simp] theorem Part.copyTo_keeps (p : Part) (clip v : Nat) (new : CopyState) (h : Keeps st bd a p) :
    Keeps st bd a (p.copyTo clip v new) := Part.copyChange_keeps p clip v _ _ (fun _ hq => hq) h

@[simp] theorem Part.proveCopy_keeps (p : Part) (clip v : Nat) (h : Keeps st bd a p) :
    Keeps st bd a (p.proveCopy clip v) :=
  Part.copyChange_keeps p clip v _ _ (fun _ hq => Part.removeFaults_keeps _ _ _ hq) h

@[simp] theorem Part.failCopy_keeps (p : Part) (clip v : Nat) (m : Mismatch) (h : Keeps st bd a p) :
    Keeps st bd a (p.failCopy clip v m) :=
  Part.copyChange_keeps p clip v _ _ (fun _ hq => Part.mergeFault_keeps _ _ _ hq) h

theorem unlessTrip_keeps (r : Part × Option Trip) (f : Part → Part × Option Trip)
    (hf : ∀ q, Keeps st bd a q → Keeps st bd a (f q).1) (h : Keeps st bd a r.1) : Keeps st bd a (unlessTrip r f).1 := by
  unfold unlessTrip; split
  · exact h
  · exact hf _ h

@[simp] theorem Part.countRaise_keeps (p : Part) (l : Fin 6) (k : FaultKind) (h : Keeps st bd a p) :
    Keeps st bd a (p.countRaise l k).1 := by
  unfold Part.countRaise; dsimp only; exact Part.modReader_keeps _ _ _ h

@[simp] theorem Part.modAnalyzer_keeps (p : Part) (l : Fin 6) (f : Analyzer → Analyzer) (h : Keeps st bd a p) :
    Keeps st bd a (p.modAnalyzer l f) := by
  unfold Part.modAnalyzer; simp (maxDischargeDepth := 40) +contextual [h]

@[simp] theorem Part.clearAnalyzer_keeps (p : Part) (l : Fin 6) (h : Keeps st bd a p) :
    Keeps st bd a (p.clearAnalyzer l) := by
  unfold Part.clearAnalyzer; simp (maxDischargeDepth := 40) +contextual [h]

@[simp] theorem Part.imageRaise_keeps (p : Part) (l : Fin 6) (k : FaultKind) (frame : Nat) (site : Option (Nat × Nat))
    (h : Keeps st bd a p) :
    Keeps st bd a (p.imageRaise l k frame site).1 := by
  unfold Part.imageRaise; split <;> simp (maxDischargeDepth := 40) +contextual [h]

@[simp] theorem Part.checkSuspect_keeps (p : Part) (l : Fin 6) (letter : Nat) (t : Tracker) (h : Keeps st bd a p) :
    Keeps st bd a (p.checkSuspect l letter t).1 := by
  unfold Part.checkSuspect; split
  · exact h.keys rfl rfl rfl rfl (tmod_keys _ _ _) rfl
  · simp (maxDischargeDepth := 40) +contextual [h]

@[simp] theorem suspects_keeps (l : Fin 6) (letter limit : Nat) (ts : List (Option Tracker)) (n : Nat) (p : Part)
    (h : Keeps st bd a p) : Keeps st bd a (Part.suspects l letter limit ts n p).1 := by
  induction ts generalizing n p with
  | nil => exact h
  | cons t ts ih =>
    cases t with
    | none => exact ih _ _ h
    | some t =>
      unfold Part.suspects; split
      · exact unlessTrip_keeps _ _ (fun q hq => ih _ q hq)
          (Part.checkSuspect_keeps _ _ _ _ (Part.modAnalyzer_keeps _ _ _ h))
      · exact ih _ _ h

@[simp] theorem Part.updateTrackers_keeps (p : Part) (l : Fin 6) (clip letter frame : Nat)
    (extremes : List (Nat × Nat × Nat)) (h : Keeps st bd a p) :
    Keeps st bd a (p.updateTrackers l clip letter frame extremes).1 := by
  unfold Part.updateTrackers
  refine unlessTrip_keeps _ _ (fun q hq => ?_) (suspects_keeps _ _ _ _ _ _ ?_) <;>
    simp (maxDischargeDepth := 40) +contextual [*]

@[simp] theorem Part.detectClipped_keeps (p : Part) (l : Fin 6) (frame : Nat) (met : Bool) (h : Keeps st bd a p) :
    Keeps st bd a (p.detectClipped l frame met).1 := by
  unfold Part.detectClipped; dsimp only; split <;> simp (maxDischargeDepth := 40) +contextual [h]

@[simp] theorem Part.detectBlack_keeps (p : Part) (l : Fin 6) (frame : Nat) (met : Bool) (h : Keeps st bd a p) :
    Keeps st bd a (p.detectBlack l frame met).1 := by
  unfold Part.detectBlack; dsimp only; split <;> simp (maxDischargeDepth := 40) +contextual [h]

@[simp] theorem Part.checkTimecode_keeps (p : Part) (l : Fin 6) (c : Clip) (frame : Nat) (t : Timecode)
    (h : Keeps st bd a p) :
    Keeps st bd a (p.checkTimecode l c frame t).1 := by
  unfold Part.checkTimecode; dsimp only; (repeat' split)
  all_goals simp (maxDischargeDepth := 40) +contextual [h]

@[simp] theorem Part.evaluateFrame_keeps (p : Part) (l : Fin 6) (clip : Nat) (c : Clip) (acc : FrameAcc)
    (h : Keeps st bd a p) : Keeps st bd a (p.evaluateFrame l clip c acc).1 := by
  unfold Part.evaluateFrame
  refine unlessTrip_keeps _ _ (fun q hq => by simp [hq]) (unlessTrip_keeps _ _ (fun q hq => by simp [hq])
    (unlessTrip_keeps _ _ (fun q hq => by simp [hq]) ?_))
  split
  all_goals simp (maxDischargeDepth := 40) +contextual [h]

@[simp] theorem Part.analyze_keeps (p : Part) (l : Fin 6) (clip : Nat) (c : Clip) (b : Block) (lastBlock : Bool)
    (h : Keeps st bd a p) :
    Keeps st bd a (p.analyze l clip c b lastBlock).1 := by
  unfold Part.analyze; dsimp only; split <;> simp (maxDischargeDepth := 40) +contextual [h]

@[simp] theorem Part.mergePending_keeps (p : Part) (l : Fin 6) (clip : Nat) (h : Keeps st bd a p) :
    Keeps st bd a (p.mergePending l clip) := by
  unfold Part.mergePending; simp (maxDischargeDepth := 40) +contextual [h]

@[simp] theorem Part.modOffload_keeps (p : Part) (l : Fin 6) (f : OffloadCtx → OffloadCtx) (h : Keeps st bd a p) :
    Keeps st bd a (p.modOffload l f) := by
  unfold Part.modOffload; simp (maxDischargeDepth := 40) +contextual [h]

@[simp] theorem Part.leaveTally_keeps (p : Part) (clip v : Nat) (written : Bool) (h : Keeps st bd a p) :
    Keeps st bd a (p.leaveTally clip v written) := by
  unfold Part.leaveTally; (repeat' split)
  all_goals simp (maxDischargeDepth := 40) +contextual [h]

@[simp] theorem Part.setProgress_keeps (p : Part) (clip v : Nat) (x : Option CopyProgress) (h : Keeps st bd a p) :
    Keeps st bd a (p.setProgress clip v x) := by
  unfold Part.setProgress; split <;> simp (maxDischargeDepth := 40) +contextual [h]

@[simp] theorem Part.removeWriting_keeps (p : Part) (clip v : Nat) (h : Keeps st bd a p) :
    Keeps st bd a (p.removeWriting clip v) := by
  unfold Part.removeWriting; split <;> simp (maxDischargeDepth := 40) +contextual [h]

@[simp] theorem Part.formFanOut_keeps (p : Part) (clip : Nat) (plan : Plan) (h : Keeps st bd a p) :
    Keeps st bd a (p.formFanOut clip plan).1 := by
  unfold Part.formFanOut
  generalize ([] : List Nat) = taken
  generalize plan.volumes = vs
  induction vs generalizing p taken with
  | nil => exact h
  | cons v vs ih =>
    refine ih (fanOutStep clip (p, taken) v).1 ?_ (fanOutStep clip (p, taken) v).2
    unfold fanOutStep; dsimp only; (repeat' split)
    all_goals first
      | exact h
      | exact Part.modClip_keeps _ _ _ h

@[simp] theorem Part.takeUp_keeps (p : Part) (l : Fin 6) (clip pos : Nat) (c : Clip) (fanOut : List Nat)
    (h : Keeps st bd a p) :
    Keeps st bd a (p.takeUp l clip pos c fanOut) := by
  unfold Part.takeUp; simp (maxDischargeDepth := 40) +contextual [h]

@[simp] theorem considerFrom_keeps (l : Fin 6) (fuel : Nat) (p : Part) (h : Keeps st bd a p) :
    Keeps st bd a (Part.considerFrom l fuel p) := by
  induction fuel generalizing p with
  | zero => exact h
  | succ n ih =>
    unfold Part.considerFrom; dsimp only; (repeat' split)
    all_goals simp (maxDischargeDepth := 40) +contextual [h, ih]

@[simp] theorem Part.consider_keeps (p : Part) (l : Fin 6) (h : Keeps st bd a p) : Keeps st bd a (p.consider l) :=
  considerFrom_keeps l 252 p h

@[simp] theorem Part.startOffload_keeps (p : Part) (l : Fin 6) (card : Nat) (h : Keeps st bd a p) :
    Keeps st bd a (p.startOffload l card) := by
  unfold Part.startOffload; simp (maxDischargeDepth := 40) +contextual [h]

@[simp] theorem Part.dropOffload_keeps (p : Part) (l : Fin 6) (dst : ReaderState) (h : Keeps st bd a p) :
    Keeps st bd a (p.dropOffload l dst) := by
  unfold Part.dropOffload; simp (maxDischargeDepth := 40) +contextual [h]

@[simp] theorem Part.endOffload_keeps (p : Part) (l : Fin 6) (dst : ReaderState) (cls : TermClass) (cause : Cause)
    (detail : Detail) (h : Keeps st bd a p) :
    Keeps st bd a (p.endOffload l dst cls cause detail) := by
  unfold Part.endOffload; split <;> simp (maxDischargeDepth := 40) +contextual [h]

@[simp] theorem Part.endTripped_keeps (p : Part) (l : Fin 6) (trip : Trip) (h : Keeps st bd a p) :
    Keeps st bd a (p.endTripped l trip) := by
  unfold Part.endTripped; split <;> simp (maxDischargeDepth := 40) +contextual [h]

@[simp] theorem Part.cancelClip_keeps (p : Part) (l : Fin 6) (clip : Nat) (h : Keeps st bd a p) :
    Keeps st bd a (p.cancelClip l clip) := by
  unfold Part.cancelClip; simp (maxDischargeDepth := 40) +contextual [h]

@[simp] theorem Part.abandonClip_keeps (p : Part) (l : Fin 6) (h : Keeps st bd a p) :
    Keeps st bd a (p.abandonClip l) := by
  unfold Part.abandonClip; dsimp only; (repeat' split)
  all_goals simp (maxDischargeDepth := 40) +contextual [h]

@[simp] theorem Part.clipFailed_keeps (p : Part) (l : Fin 6) (h : Keeps st bd a p) :
    Keeps st bd a (p.clipFailed l) := by
  unfold Part.clipFailed; (repeat' split)
  all_goals simp (maxDischargeDepth := 40) +contextual [h]

@[simp] theorem Part.stopOffload_keeps (p : Part) (l : Fin 6) (dst : ReaderState) (cls : TermClass)
    (cause : Cause) (detail : Detail) (h : Keeps st bd a p) :
    Keeps st bd a (p.stopOffload l dst cls cause detail) := by
  unfold Part.stopOffload; simp (maxDischargeDepth := 40) +contextual [h]

@[simp] theorem Part.tripReading_keeps (p : Part) (l : Fin 6) (trip : Trip) (h : Keeps st bd a p) :
    Keeps st bd a (p.tripReading l trip) := by
  unfold Part.tripReading; simp (maxDischargeDepth := 40) +contextual [h]

@[simp] theorem Part.abandonFault_keeps (p : Part) (l : Fin 6) (k : FaultKind) (block : Nat) (h : Keeps st bd a p) :
    Keeps st bd a (p.abandonFault l k block) := by
  unfold Part.abandonFault; dsimp only; (repeat' split)
  all_goals simp (maxDischargeDepth := 40) +contextual [h]

@[simp] theorem Part.sourceMismatch_keeps (p : Part) (l : Fin 6) (clip : Nat) (h : Keeps st bd a p) :
    Keeps st bd a (p.sourceMismatch l clip).1 := by
  unfold Part.sourceMismatch; simp (maxDischargeDepth := 40) +contextual [h]

@[simp] theorem Part.ingestComplete_keeps (p : Part) (l : Fin 6) (cur : Current) (c : Clip) (digest : BitVec 64)
    (h : Keeps st bd a p) :
    Keeps st bd a (p.ingestComplete l cur c digest) := by
  unfold Part.ingestComplete; dsimp only; (repeat' split)
  all_goals simp (maxDischargeDepth := 40) +contextual [h]

@[simp] theorem Part.offloadBlock_keeps (p : Part) (l : Fin 6) (b : Block) (h : Keeps st bd a p) :
    Keeps st bd a (p.offloadBlock l b) := by
  unfold Part.offloadBlock; dsimp only; (repeat' split)
  all_goals simp (maxDischargeDepth := 40) +contextual [h]

@[simp] theorem Part.offloadUnreadable_keeps (p : Part) (l : Fin 6) (h : Keeps st bd a p) :
    Keeps st bd a (p.offloadUnreadable l) := by
  unfold Part.offloadUnreadable; split <;> simp (maxDischargeDepth := 40) +contextual [h]

@[simp] theorem Part.drainEnd_keeps (p : Part) (l : Fin 6) (h : Keeps st bd a p) :
    Keeps st bd a (p.drainEnd l) := by
  unfold Part.drainEnd; (repeat' split)
  all_goals simp (maxDischargeDepth := 40) +contextual [h]

@[simp] theorem Part.shrinkFanOut_keeps (p : Part) (l : Fin 6) (v : Nat) (spare : Option Nat) (h : Keeps st bd a p) :
    Keeps st bd a (p.shrinkFanOut l v spare) := by
  unfold Part.shrinkFanOut; dsimp only; (repeat' split)
  all_goals simp (maxDischargeDepth := 40) +contextual [h]

@[simp] theorem Part.losePlanVolume_keeps (p : Part) (l : Fin 6) (v : Nat) (h : Keeps st bd a p) :
    Keeps st bd a (p.losePlanVolume l v) := by
  unfold Part.losePlanVolume; split <;> simp (maxDischargeDepth := 40) +contextual [h]

@[simp] theorem Part.losePlanVolumeAll_keeps (p : Part) (v : Nat) (h : Keeps st bd a p) :
    Keeps st bd a (p.losePlanVolumeAll v) := by
  unfold Part.losePlanVolumeAll; simp (maxDischargeDepth := 40) +contextual [h]

@[simp] theorem Part.removeWritingOn_keeps (p : Part) (v : Nat) (h : Keeps st bd a p) :
    Keeps st bd a (p.removeWritingOn v) := by
  unfold Part.removeWritingOn; simp (maxDischargeDepth := 40) +contextual [h]

@[simp] theorem Part.writeEnd_keeps (p : Part) (clip v : Nat) (digest : BitVec 64) (h : Keeps st bd a p) :
    Keeps st bd a (p.writeEnd clip v digest) := by
  unfold Part.writeEnd; split <;> simp (maxDischargeDepth := 40) +contextual [h]

@[simp] theorem Part.slotWritten_keeps (p : Part) (s : Slot) (v : Nat) (isOrphan : Bool) (h : Keeps st bd a p) :
    Keeps st bd a (p.slotWritten s v isOrphan) := by
  unfold Part.slotWritten; (repeat' split)
  all_goals simp (maxDischargeDepth := 40) +contextual [h]

@[simp] theorem Part.slotUnwritten_keeps (p : Part) (s : Slot) (v : Nat) (isOrphan : Bool) (h : Keeps st bd a p) :
    Keeps st bd a (p.slotUnwritten s v isOrphan) := by
  unfold Part.slotUnwritten; simp (maxDischargeDepth := 40) +contextual [h]

@[simp] theorem Part.setSweep_keeps (p : Part) (d : Fin 4) (x : Option VerifyCtx) (h : Keeps st bd a p) :
    Keeps st bd a (p.setSweep d x) := by
  unfold Part.setSweep; simp (maxDischargeDepth := 40) +contextual [h]

@[simp] theorem Part.setExplicit_keeps (p : Part) (d : Fin 4) (x : Option ExplicitOp) (h : Keeps st bd a p) :
    Keeps st bd a (p.setExplicit d x) := by
  unfold Part.setExplicit; simp (maxDischargeDepth := 40) +contextual [h]

@[simp] theorem Part.setVerify_keeps (p : Part) (d : Fin 4) (explicit : Bool) (x : Option VerifyCtx)
    (h : Keeps st bd a p) :
    Keeps st bd a (p.setVerify d explicit x) := by
  unfold Part.setVerify; simp (maxDischargeDepth := 40) +contextual [h]

@[simp] theorem Part.queueVerify_keeps (p : Part) (d : Fin 4) (explicit : Bool) (clip index : Nat)
    (h : Keeps st bd a p) :
    Keeps st bd a (p.queueVerify d explicit clip index) := by
  unfold Part.queueVerify; split <;> simp (maxDischargeDepth := 40) +contextual [h]

@[simp] theorem Part.startVerify_keeps (p : Part) (d : Fin 4) (explicit : Bool) (clip v : Nat) (prior : CopyState)
    (h : Keeps st bd a p) :
    Keeps st bd a (p.startVerify d explicit clip v prior) := by
  unfold Part.startVerify; simp (maxDischargeDepth := 40) +contextual [h]

@[simp] theorem Part.verifyTerm_keeps (p : Part) (d : Fin 4) (explicit : Bool) (t : Termination)
    (h : Keeps st bd a p) :
    Keeps st bd a (p.verifyTerm d explicit t) := by
  unfold Part.verifyTerm; simp (maxDischargeDepth := 40) +contextual [h]

@[simp] theorem Part.verifyResult_keeps (p : Part) (d : Fin 4) (explicit : Bool) (x : VerifyCtx)
    (bad : Option Mismatch) (h : Keeps st bd a p) :
    Keeps st bd a (p.verifyResult d explicit x bad) := by
  unfold Part.verifyResult; dsimp only; (repeat' split)
  all_goals simp (maxDischargeDepth := 40) +contextual [h]

@[simp] theorem Part.verifyAnswer_keeps (p : Part) (d : Fin 4) (explicit : Bool) (b : Option Block)
    (h : Keeps st bd a p) :
    Keeps st bd a (p.verifyAnswer d explicit b) := by
  unfold Part.verifyAnswer; (repeat' split)
  all_goals simp (maxDischargeDepth := 40) +contextual [h]

@[simp] theorem Part.listHead_keeps (p : Part) (v clip : Nat) (h : Keeps st bd a p) :
    Keeps st bd a (p.listHead v clip) := by
  unfold Part.listHead; simp (maxDischargeDepth := 40) +contextual [h]

@[simp] theorem Part.returnVerify_keeps (p : Part) (d : Fin 4) (explicit : Bool) (h : Keeps st bd a p) :
    Keeps st bd a (p.returnVerify d explicit) := by
  unfold Part.returnVerify; split <;> simp (maxDischargeDepth := 40) +contextual [h]

@[simp] theorem Part.takeSweep_keeps (p : Part) (d : Fin 4) (h : Keeps st bd a p) : Keeps st bd a (p.takeSweep d) := by
  unfold Part.takeSweep; dsimp only; (repeat' split)
  all_goals first
    | exact h
    | (refine Part.startVerify_keeps _ _ _ _ _ _ (Part.modVolume_keeps_of _ _ _ (fun b _ _ => ?_) (fun _ _ => rfl) h)
       have := b.2.2.2.2 _ (tget_mem ‹_›)
       simp_all)

@[simp] theorem Part.resumeSweep_keeps (p : Part) (d : Fin 4) (h : Keeps st bd a p) : Keeps st bd a (p.resumeSweep d) := by
  unfold Part.resumeSweep; split <;> simp [h]

@[simp] theorem Part.recopyRead_keeps (p : Part) (d : Fin 4) (h : Keeps st bd a p) :
    Keeps st bd a (p.recopyRead d) := by
  unfold Part.recopyRead; (repeat' split)
  all_goals simp (maxDischargeDepth := 40) +contextual [h]

@[simp] theorem Part.startRecopy_keeps (p : Part) (d : Fin 4) (clip target : Nat) (source : RecopySource)
    (h : Keeps st bd a p) :
    Keeps st bd a (p.startRecopy d clip target source) := by
  unfold Part.startRecopy; split <;> simp (maxDischargeDepth := 40) +contextual [h]

@[simp] theorem Part.modRecopy_keeps (p : Part) (d : Fin 4) (f : RecopyCtx → RecopyCtx) (h : Keeps st bd a p) :
    Keeps st bd a (p.modRecopy d f) := by
  unfold Part.modRecopy; simp (maxDischargeDepth := 40) +contextual [h]

@[simp] theorem Part.recopyAnswer_keeps (p : Part) (d : Fin 4) (b : Option Block) (h : Keeps st bd a p) :
    Keeps st bd a (p.recopyAnswer d b) := by
  unfold Part.recopyAnswer; (repeat' split)
  all_goals simp (maxDischargeDepth := 40) +contextual [h]

@[simp] theorem Part.recopyEnd_keeps (p : Part) (d : Fin 4) (x : RecopyCtx) (digest : BitVec 64)
    (h : Keeps st bd a p) :
    Keeps st bd a (p.recopyEnd d x digest) := by
  unfold Part.recopyEnd; split <;> simp (maxDischargeDepth := 40) +contextual [h]

@[simp] theorem Part.recopyWritten_keeps (p : Part) (d : Fin 4) (b : Block) (h : Keeps st bd a p) :
    Keeps st bd a (p.recopyWritten d b) := by
  unfold Part.recopyWritten; (repeat' split)
  all_goals simp (maxDischargeDepth := 40) +contextual [h]

@[simp] theorem Part.recopyCardBlock_keeps (p : Part) (l : Fin 6) (d : Fin 4) (b : Block) (h : Keeps st bd a p) :
    Keeps st bd a (p.recopyCardBlock l d b) := by
  unfold Part.recopyCardBlock; (repeat' split)
  all_goals simp (maxDischargeDepth := 40) +contextual [h]

@[simp] theorem Part.recopyCardUnreadable_keeps (p : Part) (d : Fin 4) (h : Keeps st bd a p) :
    Keeps st bd a (p.recopyCardUnreadable d) := by
  unfold Part.recopyCardUnreadable; split <;> simp (maxDischargeDepth := 40) +contextual [h]

@[simp] theorem Part.recopyReaderFailed_keeps (p : Part) (l : Fin 6) (h : Keeps st bd a p) :
    Keeps st bd a (p.recopyReaderFailed l) := by
  unfold Part.recopyReaderFailed; split <;> simp (maxDischargeDepth := 40) +contextual [h]

@[simp] theorem Part.unbindCard_keeps (p : Part) (l : Fin 6) (h : Keeps st bd a p) :
    Keeps st bd a (p.unbindCard l) := by
  unfold Part.unbindCard; split <;> simp (maxDischargeDepth := 40) +contextual [h]

@[simp] theorem Part.bodySerial_keeps (p : Part) (letter : Nat) (body : BitVec 64) (h : Keeps st bd a p) :
    Keeps st bd a (p.bodySerial letter body) := by
  unfold Part.bodySerial; split
  · exact h.keys rfl rfl (by simp only [tmod_keys]) rfl rfl rfl
  · cases ht : tfree p.cameras Config.cameras with
    | none => exact h
    | some i =>
      exact h.trans ⟨fun _ => rfl, fun _ => rfl,
        fun t => ⟨t.1, t.2.1, twf_tset _ _ _ _ t.2.2.1 (tfree_lt ht), t.2.2.2⟩, fun b => b⟩

@[simp] theorem Part.bindCard_keeps (p : Part) (l : Fin 6) (i : Nat) (hd : CardHeader) (h : Keeps st bd a p) :
    Keeps st bd a (p.bindCard l i hd) := by
  unfold Part.bindCard; simp (maxDischargeDepth := 40) +contextual [h]

@[simp] theorem registerClips_keeps (card : Nat) (id : CardId) (look : Option Nat) (dir : List DirEntry) (p : Part)
    (h : Keeps st bd a p) : Keeps st bd a (registerClips card id look dir p).1 := by
  induction dir generalizing p with
  | nil => exact h
  | cons e t ih =>
    unfold registerClips
    cases ht : tfree p.clips Config.clips with
    | none => exact h
    | some i =>
      exact ih _ (Part.refTake_keeps _ _ _ (h.trans ⟨fun _ => rfl, fun _ => rfl,
        fun t => ⟨t.1, twf_tset _ _ _ _ t.2.1 (tfree_lt ht), t.2.2⟩, fun b => b⟩))

theorem Part.createCard_keeps (p : Part) (l : Fin 6) (i : Nat) (hd : CardHeader) (dir : List DirEntry) (hi : i < 32)
    (h : Keeps st bd a p) : Keeps st bd a (p.createCard l i hd dir) := by
  unfold Part.createCard; dsimp only
  exact Part.bindCard_keeps _ _ _ _ ((registerClips_keeps _ _ _ _ _ (Part.bodySerial_keeps _ _ _ h)).trans
    ⟨fun _ => rfl, fun _ => rfl, fun t => ⟨twf_tset _ _ _ _ t.1 hi, t.2⟩, fun b => b⟩)

@[simp] theorem Part.startMount_keeps (p : Part) (l : Fin 6) (h : Keeps st bd a p) :
    Keeps st bd a (p.startMount l) := by
  unfold Part.startMount; simp (maxDischargeDepth := 40) +contextual [h]

@[simp] theorem Part.failMount_keeps (p : Part) (l : Fin 6) (dst : ReaderState) (cls : TermClass) (cause : Cause)
    (ref : Reference) (counts : List Nat) (detail : Detail) (h : Keeps st bd a p) :
    Keeps st bd a (p.failMount l dst cls cause ref counts detail) := by
  unfold Part.failMount; simp (maxDischargeDepth := 40) +contextual [h]

@[simp] theorem Part.endMount_keeps (p : Part) (l : Fin 6) (i : Nat) (h : Keeps st bd a p) :
    Keeps st bd a (p.endMount l i) := by
  unfold Part.endMount; dsimp only; (repeat' split)
  all_goals simp (maxDischargeDepth := 40) +contextual [h]

@[simp] theorem Part.unbindOther_keeps (p : Part) (l : Fin 6) (id : CardId) (h : Keeps st bd a p) :
    Keeps st bd a (p.unbindOther l id) := by
  unfold Part.unbindOther; split <;> simp (maxDischargeDepth := 40) +contextual [h]

@[simp] theorem Part.decideMount_keeps (p : Part) (l : Fin 6) (hd : CardHeader) (b : Option Block)
    (code : Option (BitVec 16)) (h : Keeps st bd a p) : Keeps st bd a (p.decideMount l hd b code) := by
  have h1 := Part.unbindOther_keeps p l hd.id h
  unfold Part.decideMount; dsimp only; (repeat' split)
  all_goals first
    | exact Part.failMount_keeps _ _ _ _ _ _ _ _ h1
    | exact Part.endMount_keeps _ _ _ (Part.bindCard_keeps _ _ _ _ h1)
    | exact Part.endMount_keeps _ _ _ (Part.createCard_keeps _ _ _ _ _ (tfree_lt ‹_›) h1)

@[simp] theorem Part.mountBlock_keeps (p : Part) (l : Fin 6) (b : Block) (h : Keeps st bd a p) :
    Keeps st bd a (p.mountBlock l b) := by
  unfold Part.mountBlock; (repeat' split)
  all_goals simp (maxDischargeDepth := 40) +contextual [h]

@[simp] theorem Part.mountUnreadable_keeps (p : Part) (l : Fin 6) (code : Option (BitVec 16)) (h : Keeps st bd a p) :
    Keeps st bd a (p.mountUnreadable l code) := by
  unfold Part.mountUnreadable; (repeat' split) <;> simp (maxDischargeDepth := 40) +contextual [h]

@[simp] theorem Part.startErase_keeps (p : Part) (l : Fin 6) (card : Nat) (h : Keeps st bd a p) :
    Keeps st bd a (p.startErase l card) := by
  unfold Part.startErase; simp (maxDischargeDepth := 40) +contextual [h]

@[simp] theorem Part.eraseAnswered_keeps (p : Part) (l : Fin 6) (h : Keeps st bd a p) :
    Keeps st bd a (p.eraseAnswered l) := by
  unfold Part.eraseAnswered; (repeat' split)
  all_goals simp (maxDischargeDepth := 40) +contextual [h]

@[simp] theorem Part.dropErase_keeps (p : Part) (l : Fin 6) (dst : ReaderState) (h : Keeps st bd a p) :
    Keeps st bd a (p.dropErase l dst) := by
  unfold Part.dropErase; split <;> simp (maxDischargeDepth := 40) +contextual [h]

@[simp] theorem Part.endErase_keeps (p : Part) (l : Fin 6) (dst : ReaderState) (cls : TermClass) (cause : Cause)
    (detail : Detail) (h : Keeps st bd a p) :
    Keeps st bd a (p.endErase l dst cls cause detail) := by
  unfold Part.endErase; split <;> simp (maxDischargeDepth := 40) +contextual [h]

@[simp] theorem Part.readGood_keeps (p : Part) (l : Fin 6) (o : ReaderOwner) (b : Block) (h : Keeps st bd a p) :
    Keeps st bd a (p.readGood l o b) := by
  unfold Part.readGood; split <;> simp (maxDischargeDepth := 40) +contextual [h]

@[simp] theorem Part.readUnreadable_keeps (p : Part) (l : Fin 6) (o : ReaderOwner) (code : Option (BitVec 16))
    (h : Keeps st bd a p) :
    Keeps st bd a (p.readUnreadable l o code) := by
  unfold Part.readUnreadable; split <;> simp (maxDischargeDepth := 40) +contextual [h]

@[simp] theorem Part.readerFailed_keeps (p : Part) (l : Fin 6) (h : Keeps st bd a p) :
    Keeps st bd a (p.readerFailed l) := by
  unfold Part.readerFailed; dsimp only; (repeat' split)
  all_goals simp (maxDischargeDepth := 40) +contextual [h]

@[simp] theorem Part.stepFailed_keeps (p : Part) (l : Fin 6) (o : ReaderOut) (s : ReaderStep) (code : Option
    (BitVec 16)) (h : Keeps st bd a p) :
    Keeps st bd a (p.stepFailed l o s code) := by
  unfold Part.stepFailed; simp (maxDischargeDepth := 40) +contextual [h]

@[simp] theorem Part.reinitFailed_keeps (p : Part) (l : Fin 6) (o : ReaderOut) (again : ReaderStep)
    (h : Keeps st bd a p) :
    Keeps st bd a (p.reinitFailed l o again) := by
  unfold Part.reinitFailed; simp (maxDischargeDepth := 40) +contextual [h]

@[simp] theorem Part.reinitDone_keeps (p : Part) (l : Fin 6) (o : ReaderOut) (again : ReaderStep)
    (h : Keeps st bd a p) :
    Keeps st bd a (p.reinitDone l o again) := by
  unfold Part.reinitDone; simp (maxDischargeDepth := 40) +contextual [h]

@[simp] theorem Part.insertion_keeps (p : Part) (l : Fin 6) (h : Keeps st bd a p) :
    Keeps st bd a (p.insertion l) := by
  unfold Part.insertion; simp (maxDischargeDepth := 40) +contextual [h]

@[simp] theorem Part.removal_keeps (p : Part) (l : Fin 6) (h : Keeps st bd a p) :
    Keeps st bd a (p.removal l) := by
  unfold Part.removal; dsimp only; split <;> simp (maxDischargeDepth := 40) +contextual [h]

@[simp] theorem Part.lockChange_keeps (p : Part) (l : Fin 6) (locked : Bool) (h : Keeps st bd a p) :
    Keeps st bd a (p.lockChange l locked) := by
  unfold Part.lockChange; dsimp only; split <;> simp (maxDischargeDepth := 40) +contextual [h]

@[simp] theorem Part.recordSlot_keeps (p : Part) (l : Fin 6) (present locked : Bool) (count : Byte)
    (h : Keeps st bd a p) :
    Keeps st bd a (p.recordSlot l present locked count) := by
  unfold Part.recordSlot; simp (maxDischargeDepth := 40) +contextual [h]

@[simp] theorem Part.slotReport_keeps (p : Part) (l : Fin 6) (present locked : Bool) (count : Byte)
    (h : Keeps st bd a p) :
    Keeps st bd a (p.slotReport l present locked count) := by
  unfold Part.slotReport; simp (maxDischargeDepth := 40) +contextual [h]

@[simp] theorem Part.remountDecided_keeps (p : Part) (l : Fin 6) (h : Keeps st bd a p) :
    Keeps st bd a (p.remountDecided l) := by
  unfold Part.remountDecided; simp (maxDischargeDepth := 40) +contextual [h]

@[simp] theorem Part.presenceAnswered_keeps (p : Part) (l : Fin 6) (present locked : Bool) (count : Byte)
    (h : Keeps st bd a p) :
    Keeps st bd a (p.presenceAnswered l present locked count) := by
  unfold Part.presenceAnswered; simp (maxDischargeDepth := 40) +contextual [h]

@[simp] theorem Part.presenceFailed_keeps (p : Part) (l : Fin 6) (h : Keeps st bd a p) :
    Keeps st bd a (p.presenceFailed l) := by
  unfold Part.presenceFailed; simp (maxDischargeDepth := 40) +contextual [h]

@[simp] theorem Part.readerLost_keeps (p : Part) (l : Fin 6) (h : Keeps st bd a p) :
    Keeps st bd a (p.readerLost l) := by
  unfold Part.readerLost; simp (maxDischargeDepth := 40) +contextual [h]

@[simp] theorem Part.readerFound_keeps (p : Part) (l : Fin 6) (h : Keeps st bd a p) :
    Keeps st bd a (p.readerFound l) := by
  unfold Part.readerFound; simp (maxDischargeDepth := 40) +contextual [h]

@[simp] theorem Part.readerStall_keeps (p : Part) (l : Fin 6) (h : Keeps st bd a p) :
    Keeps st bd a (p.readerStall l) := by
  unfold Part.readerStall; (repeat' split)
  all_goals simp (maxDischargeDepth := 40) +contextual [h]

@[simp] theorem Part.serveReader_keeps (p : Part) (l : Fin 6) (h : Keeps st bd a p) :
    Keeps st bd a (p.serveReader l) := by
  unfold Part.serveReader; dsimp only; (repeat' split)
  all_goals simp (maxDischargeDepth := 40) +contextual [h]

@[simp] theorem Part.joinQueue_keeps (p : Part) (h : Keeps st bd a p) : Keeps st bd a p.joinQueue := by
  refine Part.each_keeps _ _ _ (fun q l hq => ?_) h
  split
  · exact hq.queue (fun k => addOnce k l) fun k => (nodup_addOnce _ _).2 k
  · exact hq

/-- A slot granted: its number is free, and its lane holds fewer than 16. -/
theorem Keeps.grant {p : Part} (h : Keeps st bd a p) (s : Slot) (hid : p.freeSlotId = some s.id)
    (hl : (p.slotsOf s.lane).length < Config.slotsPerLane) : Keeps st bd a (p.setSlots fun ss => ss ++ [s]) := by
  refine h.trans ⟨fun _ => rfl, fun _ => rfl, id, ?_⟩
  rintro ⟨h1, h2, h3, h4, h5⟩
  have hid' := hid
  unfold Part.freeSlotId at hid
  have hlt : s.id < Config.slots := by
    have := List.mem_of_find?_eq_some hid
    simpa using this
  have hnew : ∀ x ∈ p.pool.slots, x.id ≠ s.id := by
    have := List.find?_some hid
    simp only [Part.slot, Option.isNone_iff_eq_none, List.find?_eq_none, beq_iff_eq] at this
    exact this
  refine ⟨?_, fun x hx => ?_, fun l => ?_, h4, h5⟩
  · simp only [Part.setSlots, List.map_append, List.map_cons, List.map_nil]
    rw [List.nodup_append]
    refine ⟨h1, by simp, fun x hx y hy e => ?_⟩
    obtain ⟨z, hz, rfl⟩ := List.mem_map.1 hx
    simp only [List.mem_cons, List.not_mem_nil, or_false] at hy
    exact hnew z hz (e.trans hy)
  · simp only [Part.setSlots, List.mem_append, List.mem_cons, List.not_mem_nil, or_false] at hx
    rcases hx with hx | rfl
    · exact h2 x hx
    · exact hlt
  · have := h3 l
    simp only [Part.slotsOf, Part.setSlots, List.filter_append, List.length_append] at this hl ⊢
    by_cases e : s.lane = l
    · subst e; simp only [beq_self_eq_true, List.filter_cons_of_pos, List.filter_nil, List.length_singleton]; omega
    · have : (s.lane == l) = false := by simpa using e
      simp only [this, Bool.false_eq_true, not_false_eq_true, List.filter_cons_of_neg, List.filter_nil, List.length_nil]
      omega

theorem Part.newSlot_place {p : Part} {l : Fin 6} {id : Nat} {s : Slot} (h : p.newSlot l id = some s) :
    s.id = id ∧ s.lane = l := by
  unfold Part.newSlot at h; dsimp only at h
  (repeat' split at h)
  all_goals first
    | cases h
    | (obtain ⟨c, _, rfl⟩ := Option.map_eq_some_iff.1 h
       exact ⟨rfl, rfl⟩)

@[simp] theorem grantSlots_keeps (fuel : Nat) (p : Part) (h : Keeps st bd a p) :
    Keeps st bd a (Part.grantSlots fuel p) := by
  induction fuel generalizing p with
  | zero => exact h
  | succ n ih =>
    unfold Part.grantSlots; split
    · rename_i l id hl hid
      dsimp only; split
      · rename_i s hs
        obtain ⟨e1, e2⟩ := Part.newSlot_place hs
        refine ih _ (Keeps.grant (Part.leaveQueue_keeps _ _ h) s ?_ ?_)
        · rw [e1]; exact hid
        · rw [e2]
          exact of_decide_eq_true (List.find?_some (p := fun l => decide ((p.slotsOf l).length < Config.slotsPerLane)) hl)
      · exact ih _ (Part.leaveQueue_keeps _ _ h)
    · exact h

@[simp] theorem Part.freeLaneSlots_keeps (p : Part) (l : Fin 6) (h : Keeps st bd a p) :
    Keeps st bd a (p.freeLaneSlots l) := by
  unfold Part.freeLaneSlots; simp (maxDischargeDepth := 40) +contextual [h]

@[simp] theorem Part.resetOffload_keeps (p : Part) (l : Fin 6) (h : Keeps st bd a p) :
    Keeps st bd a (p.resetOffload l) := by
  have h1 : Keeps st bd a ((((p.modReader l fun r => { r with out := none, retries := 0 }).clearAnalyzer l).modOffload l
      fun x => { x with current := none, tally := [] }).freeLaneSlots l) := by
    simp (maxDischargeDepth := 40) +contextual [h]
  unfold Part.resetOffload; dsimp only; split
  · refine Part.holdCard_keeps _ _ (Part.modReader_keeps _ _ _ (Part.leaveQueue_keeps _ _ ?_))
    split
    · refine Part.each_keeps _ _ _ (fun q k hq => ?_) h1
      split
      · exact Part.each_keeps _ _ _ (fun q v hq => Part.removeWriting_keeps _ _ _ hq) hq
      · exact hq
    · exact h1
  · exact Part.leaveQueue_keeps _ _ h1

@[simp] theorem Part.clearReader_keeps (p : Part) (l : Fin 6) (h : Keeps st bd a p) :
    Keeps st bd a (p.clearReader l) := by
  unfold Part.clearReader; simp (maxDischargeDepth := 40) +contextual [h]

@[simp] theorem Part.restartReader_keeps (p : Part) (l : Fin 6) (h : Keeps st bd a p) :
    Keeps st bd a (p.restartReader l) := by
  unfold Part.restartReader; simp (maxDischargeDepth := 40) +contextual [h]

@[simp] theorem Part.resetReader_keeps (p : Part) (l : Fin 6) (h : Keeps st bd a p) :
    Keeps st bd a (p.resetReader l) := by
  unfold Part.resetReader; simp (maxDischargeDepth := 40) +contextual [h]

@[simp] theorem Part.enterFull_keeps (p : Part) (d : Fin 4) (v : Nat) (h : Keeps st bd a p) :
    Keeps st bd a (p.enterFull d v) := by
  unfold Part.enterFull; simp (maxDischargeDepth := 40) +contextual [h]

@[simp] theorem Part.exitFull_keeps (p : Part) (d : Fin 4) (h : Keeps st bd a p) :
    Keeps st bd a (p.exitFull d) := by
  unfold Part.exitFull; simp (maxDischargeDepth := 40) +contextual [h]

@[simp] theorem Part.setFree_keeps (p : Part) (d : Fin 4) (n : Nat) (h : Keeps st false a p) :
    Keeps st false a (p.setFree d n) := by
  unfold Part.setFree; dsimp only; (repeat' split)
  all_goals simp (maxDischargeDepth := 40) +contextual [h]

@[simp] theorem Part.verifyDetached_keeps (p : Part) (d : Fin 4) (h : Keeps st bd a p) :
    Keeps st bd a (p.verifyDetached d) := by
  unfold Part.verifyDetached; split <;> simp (maxDischargeDepth := 40) +contextual [h]

@[simp] theorem Part.detach_keeps (p : Part) (d : Fin 4) (v : Nat) (h : Keeps st false a p) :
    Keeps st false a (p.detach d v) := by
  unfold Part.detach; simp (maxDischargeDepth := 40) +contextual [h]

@[simp] theorem Part.detachNotice_keeps (p : Part) (d : Fin 4) (h : Keeps st false a p) :
    Keeps st false a (p.detachNotice d) := by
  unfold Part.detachNotice; split <;> simp (maxDischargeDepth := 40) +contextual [h]

@[simp] theorem Part.startIdentify_keeps (p : Part) (d : Fin 4) (h : Keeps st bd a p) :
    Keeps st bd a (p.startIdentify d) := by
  unfold Part.startIdentify; simp (maxDischargeDepth := 40) +contextual [h]

@[simp] theorem Part.arrival_keeps (p : Part) (d : Fin 4) (h : Keeps st false a p) :
    Keeps st false a (p.arrival d) := by
  unfold Part.arrival; simp (maxDischargeDepth := 40) +contextual [h]

@[simp] theorem Part.handAttach_keeps (p : Part) (v : Nat) (h : Keeps st bd a p) :
    Keeps st bd a (p.handAttach v) := by
  unfold Part.handAttach; simp (maxDischargeDepth := 40) +contextual [h]

@[simp] theorem Part.attach_keeps (p : Part) (d : Fin 4) (v : Nat) (isProtected : Bool) (free : Nat)
    (h : Keeps st false a p) :
    Keeps st false a (p.attach d v isProtected free) := by
  unfold Part.attach; simp (maxDischargeDepth := 40) +contextual [h]

@[simp] theorem Part.refuseVolume_keeps (p : Part) (d : Fin 4) (cause : Cause) (ref : Reference) (detail : Detail)
    (h : Keeps st bd a p) :
    Keeps st bd a (p.refuseVolume d cause ref detail) := by
  unfold Part.refuseVolume; simp (maxDischargeDepth := 40) +contextual [h]

@[simp] theorem Part.decideVolume_keeps (p : Part) (d : Fin 4) (label : List Byte) (serial : BitVec 64)
    (isProtected : Bool) (free : Nat) (h : Keeps st false a p) :
    Keeps st false a (p.decideVolume d label serial isProtected free) := by
  unfold Part.decideVolume; split
  · split
    · exact Part.refuseVolume_keeps _ _ _ _ _ h
    · exact Part.attach_keeps _ _ _ _ _ h
  · cases ht : tfree p.volumes Config.volumes with
    | none => exact Part.refuseVolume_keeps _ _ _ _ _ h
    | some v =>
      refine Part.attach_keeps _ _ _ _ _ (h.trans ⟨fun _ => rfl, fun e => by simp at e,
        fun t => ⟨t.1, t.2.1, t.2.2.1, twf_tset _ _ _ _ t.2.2.2.1 (tfree_lt ht), t.2.2.2.2⟩, ?_⟩)
      rintro ⟨h1, h2, h3, h4, h5⟩
      refine ⟨h1, h2, h3, h4, fun e he => ?_⟩
      rcases mem_tset he with rfl | he
      · exact List.nodup_nil
      · exact h5 e he

@[simp] theorem Part.refreshVolume_keeps (p : Part) (d : Fin 4) (v : Nat) (isProtected : Bool) (free : Nat)
    (h : Keeps st false a p) :
    Keeps st false a (p.refreshVolume d v isProtected free) := by
  unfold Part.refreshVolume; simp (maxDischargeDepth := 40) +contextual [h]

@[simp] theorem Part.identified_keeps (p : Part) (d : Fin 4) (label : List Byte) (serial : BitVec 64)
    (isProtected : Bool) (free : Nat) (h : Keeps st false a p) :
    Keeps st false a (p.identified d label serial isProtected free) := by
  unfold Part.identified; dsimp only; (repeat' split)
  all_goals simp (maxDischargeDepth := 40) +contextual [h]

@[simp] theorem Part.identifyFailed_keeps (p : Part) (d : Fin 4) (detail : Detail) (h : Keeps st false a p) :
    Keeps st false a (p.identifyFailed d detail) := by
  unfold Part.identifyFailed; dsimp only; split <;> simp (maxDischargeDepth := 40) +contextual [h]

@[simp] theorem Part.sendRelease_keeps (p : Part) (d : Fin 4) (k : CopyKey) (h : Keeps st bd a p) :
    Keeps st bd a (p.sendRelease d k) := by
  unfold Part.sendRelease; simp (maxDischargeDepth := 40) +contextual [h]

@[simp] theorem Part.sendVerify_keeps (p : Part) (d : Fin 4) (i : VerifyItem) (h : Keeps st bd a p) :
    Keeps st bd a (p.sendVerify d i) := by
  unfold Part.sendVerify; simp (maxDischargeDepth := 40) +contextual [h]

@[simp] theorem Part.sendRecopy_keeps (p : Part) (d : Fin 4) (v : Nat) (i : RecopyItem) (h : Keeps st bd a p) :
    Keeps st bd a (p.sendRecopy d v i) := by
  unfold Part.sendRecopy; dsimp only; (repeat' split)
  all_goals simp (maxDischargeDepth := 40) +contextual [h]

@[simp] theorem Part.sendRender_keeps (p : Part) (d : Fin 4) (i : RenderItem) (h : Keeps st bd a p) :
    Keeps st bd a (p.sendRender d i) := by
  unfold Part.sendRender; split <;> simp (maxDischargeDepth := 40) +contextual [h]

@[simp] theorem Part.arbitrate_keeps (p : Part) (d : Fin 4) (v : Nat) (h : Keeps st bd a p) :
    Keeps st bd a (p.arbitrate d v) := by
  unfold Part.arbitrate; dsimp only; (repeat' split)
  all_goals simp (maxDischargeDepth := 40) +contextual [h]

@[simp] theorem Part.serveDest_keeps (p : Part) (d : Fin 4) (h : Keeps st bd a p) :
    Keeps st bd a (p.serveDest d) := by
  unfold Part.serveDest; dsimp only; (repeat' split)
  all_goals simp (maxDischargeDepth := 40) +contextual [h]

@[simp] theorem Part.writeStored_keeps (p : Part) (d : Fin 4) (v : Nat) (o : WriteOwner) (key : CopyKey) (b : Stored)
    (h : Keeps st bd a p) :
    Keeps st bd a (p.writeStored d v o key b) := by
  unfold Part.writeStored; (repeat' split)
  all_goals simp (maxDischargeDepth := 40) +contextual [h]

@[simp] theorem Part.writeUnwritten_keeps (p : Part) (d : Fin 4) (v : Nat) (o : WriteOwner)
    (recopyEnds renderEnds : Cause) (detail : Detail) (h : Keeps st bd a p) :
    Keeps st bd a (p.writeUnwritten d v o recopyEnds renderEnds detail) := by
  unfold Part.writeUnwritten; (repeat' split)
  all_goals simp (maxDischargeDepth := 40) +contextual [h]

@[simp] theorem Part.writeAnswered_keeps (p : Part) (d : Fin 4) (o : WriteOwner) (key : CopyKey) (b : Stored)
    (stored : Bool) (free : Nat) (h : Keeps st false a p) :
    Keeps st false a (p.writeAnswered d o key b stored free) := by
  unfold Part.writeAnswered; split <;> simp (maxDischargeDepth := 40) +contextual [h]

@[simp] theorem Part.readAnswered_keeps (p : Part) (d : Fin 4) (o : ReadOwner) (b : Option Block)
    (h : Keeps st bd a p) :
    Keeps st bd a (p.readAnswered d o b) := by
  unfold Part.readAnswered; (repeat' split)
  all_goals simp (maxDischargeDepth := 40) +contextual [h]

@[simp] theorem Part.volumeFault_keeps (p : Part) (d : Fin 4) (o : VolumeOut) (code : BitVec 16)
    (h : Keeps st false a p) :
    Keeps st false a (p.volumeFault d o code) := by
  unfold Part.volumeFault; dsimp only; (repeat' split)
  all_goals simp (maxDischargeDepth := 40) +contextual [h]

@[simp] theorem Part.verifyStalled_keeps (p : Part) (d : Fin 4) (h : Keeps st bd a p) :
    Keeps st bd a (p.verifyStalled d) := by
  unfold Part.verifyStalled; split <;> simp (maxDischargeDepth := 40) +contextual [h]

@[simp] theorem Part.tellStalled_keeps (p : Part) (d : Fin 4) (v : Nat) (q : VolumeRequest) (h : Keeps st bd a p) :
    Keeps st bd a (p.tellStalled d v q) := by
  unfold Part.tellStalled; split <;> simp (maxDischargeDepth := 40) +contextual [h]

@[simp] theorem Part.loseStalled_keeps (p : Part) (d : Fin 4) (v : Nat) (q : VolumeRequest) (h : Keeps st false a p) :
    Keeps st false a (p.loseStalled d v q) := by
  unfold Part.loseStalled; dsimp only; split <;> simp (maxDischargeDepth := 40) +contextual [h]

@[simp] theorem Part.destStall_keeps (p : Part) (d : Fin 4) (h : Keeps st false a p) :
    Keeps st false a (p.destStall d) := by
  unfold Part.destStall; dsimp only; (repeat' split)
  all_goals simp (maxDischargeDepth := 40) +contextual [h]

@[simp] theorem Part.ejectVolume_keeps (p : Part) (d : Fin 4) (v : Nat) (h : Keeps st false a p) :
    Keeps st false a (p.ejectVolume d v) := by
  unfold Part.ejectVolume; simp (maxDischargeDepth := 40) +contextual [h]

@[simp] theorem Part.dropExplicit_keeps (p : Part) (d : Fin 4) (h : Keeps st bd a p) :
    Keeps st bd a (p.dropExplicit d) := by
  unfold Part.dropExplicit; simp (maxDischargeDepth := 40) +contextual [h]

@[simp] theorem Part.clearTraffic_keeps (p : Part) (d : Fin 4) (v : Nat) (h : Keeps st bd a p) :
    Keeps st bd a (p.clearTraffic d v) := by
  unfold Part.clearTraffic; simp (maxDischargeDepth := 40) +contextual [h]

@[simp] theorem Part.clearBound_keeps (p : Part) (d : Fin 4) (v : Nat) (h : Keeps st bd a p) :
    Keeps st bd a (p.clearBound d v) := by
  unfold Part.clearBound; simp (maxDischargeDepth := 40) +contextual [h]

@[simp] theorem Part.reidentify_keeps (p : Part) (d : Fin 4) (h : Keeps st bd a p) :
    Keeps st bd a (p.reidentify d) := by
  unfold Part.reidentify; split <;> simp (maxDischargeDepth := 40) +contextual [h]

@[simp] theorem Part.resetDest_keeps (p : Part) (d : Fin 4) (h : Keeps st bd a p) :
    Keeps st bd a (p.resetDest d) := by
  unfold Part.resetDest; split <;> simp (maxDischargeDepth := 40) +contextual [h]

@[simp] theorem Part.settle_keeps (p : Part) (h : Keeps st bd a p) : Keeps st bd a p.settle := by
  unfold Part.settle; simp (maxDischargeDepth := 40) +contextual [h]

@[simp] theorem Part.quiet_keeps (p : Part) (h : Keeps st bd a p) :
    Keeps st bd a p.quiet := h.same rfl

@[simp] theorem Part.refuse_keeps (p : Part) (s : Status) (h : Keeps st bd a p) : Keeps st bd a (p.refuse s).1 := h

@[simp] theorem Part.accept_keeps (p : Part) (h : Keeps st bd a p) : Keeps st bd a (p.accept).1 := h

@[simp] theorem Part.answerWith_keeps (p : Part) (bs : List Byte) (h : Keeps st bd a p) : Keeps st bd a (p.answerWith bs).1 :=
  h

@[simp] theorem Part.setCardPlan_keeps (p : Part) (i : Nat) (x : PlanArg) (h : Keeps st bd a p) :
    Keeps st bd a (p.setCardPlan i x).1 := by
  unfold Part.setCardPlan; (repeat' split)
  all_goals simp (maxDischargeDepth := 40) +contextual [h]

@[simp] theorem Part.setStandingPlan_keeps (p : Part) (x : PlanArg) (h : Keeps false bd a p) :
    Keeps false bd a (p.setStandingPlan x).1 := by
  unfold Part.setStandingPlan; split
  · exact h
  · exact h.trans ⟨fun e => by simp at e, fun _ => rfl, id, id⟩

@[simp] theorem Part.startRequest_keeps (p : Part) (i : Nat) (h : Keeps st bd a p) :
    Keeps st bd a (p.startRequest i).1 := by
  unfold Part.startRequest; dsimp only; (repeat' split)
  all_goals simp (maxDischargeDepth := 40) +contextual [h]

@[simp] theorem Part.stopRequest_keeps (p : Part) (i option : Nat) (h : Keeps st bd a p) :
    Keeps st bd a (p.stopRequest i option).1 := by
  unfold Part.stopRequest; (repeat' split)
  all_goals simp (maxDischargeDepth := 40) +contextual [h]

@[simp] theorem Part.clearTrip_keeps (p : Part) (i : Nat) (h : Keeps st bd a p) :
    Keeps st bd a (p.clearTrip i).1 := by
  unfold Part.clearTrip; (repeat' split)
  all_goals simp (maxDischargeDepth := 40) +contextual [h]

@[simp] theorem Part.releaseCard_keeps (p : Part) (i : Nat) (h : Keeps st bd a p) :
    Keeps st bd a (p.releaseCard i).1 := by
  unfold Part.releaseCard; (repeat' split)
  all_goals simp (maxDischargeDepth := 40) +contextual [h]

@[simp] theorem Part.eraseRequest_keeps (p : Part) (i : Nat) (h : Keeps st bd a p) :
    Keeps st bd a (p.eraseRequest i).1 := by
  unfold Part.eraseRequest; dsimp only; (repeat' split)
  all_goals simp (maxDischargeDepth := 40) +contextual [h]

@[simp] theorem Part.retireClip_keeps (p : Part) (clip : Nat) (h : Keeps st bd a p) :
    Keeps st bd a (p.retireClip clip) := by
  unfold Part.retireClip; dsimp only
  exact (Part.refRelease_keeps _ _ _ (h.volumes (fun _ r => { r with verifyList := r.verifyList.filter (· != clip) })
    (fun _ _ _ hr => hr.filter _) fun _ _ _ => rfl)).trans
    ⟨fun _ => rfl, fun _ => rfl, fun t => ⟨t.1, twf_tdel _ _ _ t.2.1, t.2.2⟩, fun b => b⟩

@[simp] theorem Part.retireCard_keeps (p : Part) (i : Nat) (h : Keeps st bd a p) :
    Keeps st bd a (p.retireCard i).1 := by
  unfold Part.retireCard; (repeat' split)
  all_goals first
    | exact h
    | exact (Part.each_keeps _ _ _ (fun _ _ hq => Part.retireClip_keeps _ _ hq) h).trans
        ⟨fun _ => rfl, fun _ => rfl, fun t => ⟨twf_tdel _ _ _ t.1, t.2⟩, fun b => b⟩

@[simp] theorem Part.remountRequest_keeps (p : Part) (lane : Nat) (h : Keeps st bd a p) :
    Keeps st bd a (p.remountRequest lane).1 := by
  unfold Part.remountRequest; dsimp only; (repeat' split)
  all_goals simp (maxDischargeDepth := 40) +contextual [h]

@[simp] theorem Part.setCustody_keeps (p : Part) (i : Nat) (c : Custody) (h : Keeps st bd a p) :
    Keeps st bd a (p.setCustody i c) := by
  unfold Part.setCustody; simp (maxDischargeDepth := 40) +contextual [h]

@[simp] theorem Part.waiveClip_keeps (p : Part) (i : Nat) (h : Keeps st bd a p) :
    Keeps st bd a (p.waiveClip i).1 := by
  unfold Part.waiveClip; (repeat' split)
  all_goals simp (maxDischargeDepth := 40) +contextual [h]

@[simp] theorem Part.unwaiveClip_keeps (p : Part) (i : Nat) (h : Keeps st bd a p) :
    Keeps st bd a (p.unwaiveClip i).1 := by
  unfold Part.unwaiveClip; (repeat' split)
  all_goals simp (maxDischargeDepth := 40) +contextual [h]

@[simp] theorem Part.assignLook_keeps (p : Part) (i : Nat) (look : Option Nat) (h : Keeps st bd a p) :
    Keeps st bd a (p.assignLook i look).1 := by
  unfold Part.assignLook; (repeat' split)
  all_goals simp (maxDischargeDepth := 40) +contextual [h]

@[simp] theorem Part.acknowledgeFault_keeps (p : Part) (i kind vol : Nat) (h : Keeps st bd a p) :
    Keeps st bd a (p.acknowledgeFault i kind vol).1 := by
  unfold Part.acknowledgeFault; dsimp only; (repeat' split)
  all_goals simp (maxDischargeDepth := 40) +contextual [h]

@[simp] theorem Part.acceptVerify_keeps (p : Part) (d : Fin 4) (clip vol : Nat) (prior : CopyState)
    (h : Keeps st bd a p) :
    Keeps st bd a (p.acceptVerify d clip vol prior) := by
  unfold Part.acceptVerify; simp (maxDischargeDepth := 40) +contextual [h]

@[simp] theorem Part.verifyRequest_keeps (p : Part) (clip vol : Nat) (h : Keeps st bd a p) :
    Keeps st bd a (p.verifyRequest clip vol).1 := by
  unfold Part.verifyRequest; (repeat' split)
  all_goals simp (maxDischargeDepth := 40) +contextual [h]

@[simp] theorem Part.recopyRequest_keeps (p : Part) (clip vol : Nat) (h : Keeps st bd a p) :
    Keeps st bd a (p.recopyRequest clip vol).1 := by
  unfold Part.recopyRequest; (repeat' split)
  all_goals simp (maxDischargeDepth := 40) +contextual [h]

@[simp] theorem Part.changeVerifyMode_keeps (p : Part) (v : Nat) (m : VerifyMode) (h : Keeps st bd a p) :
    Keeps st bd a (p.changeVerifyMode v m) := by
  unfold Part.changeVerifyMode; dsimp only; (repeat' split)
  all_goals simp (maxDischargeDepth := 40) +contextual [h]

@[simp] theorem Part.setVerifyMode_keeps (p : Part) (vol mode : Nat) (h : Keeps st bd a p) :
    Keeps st bd a (p.setVerifyMode vol mode).1 := by
  unfold Part.setVerifyMode; (repeat' split)
  all_goals simp (maxDischargeDepth := 40) +contextual [h]

@[simp] theorem Part.setRole_keeps (p : Part) (vol role : Nat) (h : Keeps st false a p) :
    Keeps st false a (p.setRole vol role).1 := by
  unfold Part.setRole; (repeat' split)
  all_goals simp (maxDischargeDepth := 40) +contextual [h]

@[simp] theorem Part.ejectRequest_keeps (p : Part) (vol : Nat) (h : Keeps st false a p) :
    Keeps st false a (p.ejectRequest vol).1 := by
  unfold Part.ejectRequest; (repeat' split)
  all_goals simp (maxDischargeDepth := 40) +contextual [h]

@[simp] theorem Part.forgetVolume_keeps (p : Part) (v : Nat) (h : Keeps false bd a p) :
    Keeps false bd a (p.forgetVolume v) := by
  unfold Part.forgetVolume; dsimp only
  refine Part.each_keeps _ _ _ (fun q x hq => Part.evaluate_keeps _ _ hq) (h.trans ⟨fun e => by simp at e, fun _ => rfl,
    fun t => ?_, fun b => b⟩)
  obtain ⟨t1, t2, t3⟩ := t
  exact ⟨(twf_mapped _ _ _).trans t1, (twf_mapped _ _ _).trans t2, t3⟩

@[simp] theorem Part.retireVolume_keeps (p : Part) (vol : Nat) (h : Keeps false false a p) :
    Keeps false false a (p.retireVolume vol).1 := by
  unfold Part.retireVolume; (repeat' split)
  all_goals first
    | exact h
    | exact (Part.forgetVolume_keeps p vol h).trans ⟨fun e => by simp at e, fun e => by simp at e,
        fun t => ⟨t.1, t.2.1, t.2.2.1, twf_tdel _ _ _ t.2.2.2.1, t.2.2.2.2⟩,
        fun ⟨h1, h2, h3, h4, h5⟩ => ⟨h1, h2, h3, h4, fun e he => h5 e (List.mem_of_mem_filter he)⟩⟩

@[simp] theorem Part.setLaneMode_keeps (p : Part) (lane mode : Nat) (h : Keeps st bd a p) :
    Keeps st bd a (p.setLaneMode lane mode).1 := by
  unfold Part.setLaneMode; split <;> simp (maxDischargeDepth := 40) +contextual [h]

@[simp] theorem Part.setTimingReader_keeps (p : Part) (lane count exponent retry : Nat) (h : Keeps st bd a p) :
    Keeps st bd a (p.setTimingReader lane count exponent retry).1 := by
  unfold Part.setTimingReader; (repeat' split)
  all_goals simp (maxDischargeDepth := 40) +contextual [h]

@[simp] theorem Part.setTimingDestination_keeps (p : Part) (lane count exponent : Nat) (h : Keeps st bd a p) :
    Keeps st bd a (p.setTimingDestination lane count exponent).1 := by
  unfold Part.setTimingDestination; (repeat' split)
  all_goals simp (maxDischargeDepth := 40) +contextual [h]

@[simp] theorem Part.resetRender_keeps (p : Part) (h : Keeps st bd a p) :
    Keeps st bd a p.resetRender := by
  unfold Part.resetRender; simp (maxDischargeDepth := 40) +contextual [h]

@[simp] theorem Part.resetChannel_keeps (p : Part) (c : Fin 2) (h : Keeps st bd a p) :
    Keeps st bd a (p.resetChannel c) := by
  unfold Part.resetChannel; simp (maxDischargeDepth := 40) +contextual [h]

@[simp] theorem Part.resetUnit_keeps (p : Part) (n : Nat) (h : Keeps st bd a p) :
    Keeps st bd a (p.resetUnit n).1 := by
  unfold Part.resetUnit; split <;> simp (maxDischargeDepth := 40) +contextual [h]

@[simp] theorem Part.senseReader_keeps (p : Part) (l : Fin 6) (h : Keeps st bd a p) :
    Keeps st bd a (p.senseReader l) := by
  unfold Part.senseReader; simp (maxDischargeDepth := 40) +contextual [h]

@[simp] theorem Part.senseDest_keeps (p : Part) (d : Fin 4) (h : Keeps st bd a p) :
    Keeps st bd a (p.senseDest d) := by
  unfold Part.senseDest; simp (maxDischargeDepth := 40) +contextual [h]

@[simp] theorem Part.senseRender_keeps (p : Part) (h : Keeps st bd a p) :
    Keeps st bd a p.senseRender := by
  unfold Part.senseRender; simp (maxDischargeDepth := 40) +contextual [h]

@[simp] theorem Part.senseChannel_keeps (p : Part) (c : Fin 2) (h : Keeps st bd a p) :
    Keeps st bd a (p.senseChannel c) := by
  unfold Part.senseChannel; simp (maxDischargeDepth := 40) +contextual [h]

@[simp] theorem Part.senseUnit_keeps (p : Part) (n : Nat) (h : Keeps st bd a p) :
    Keeps st bd a (p.senseUnit n).1 := by
  unfold Part.senseUnit; split <;> simp (maxDischargeDepth := 40) +contextual [h]

@[simp] theorem Part.setCameraDefault_keeps (p : Part) (letter : Nat) (look : Option Nat) (h : Keeps st bd a p) :
    Keeps st bd a (p.setCameraDefault letter look).1 := by
  unfold Part.setCameraDefault; (repeat' split)
  all_goals first
    | exact h
    | exact Part.refMove_keeps _ _ _ _ (h.keys rfl rfl (by simp only [tmod_keys]) rfl rfl rfl)

@[simp] theorem Part.retireCamera_keeps (p : Part) (letter : Nat) (h : Keeps st bd a p) :
    Keeps st bd a (p.retireCamera letter).1 := by
  unfold Part.retireCamera; (repeat' split)
  all_goals first
    | exact h
    | exact Part.refRelease_keeps _ _ _ (h.trans ⟨fun _ => rfl, fun _ => rfl,
        fun t => ⟨t.1, t.2.1, twf_tdel _ _ _ t.2.2.1, t.2.2.2⟩, fun b => b⟩)

@[simp] theorem Part.setPolicy_keeps (p : Part) (kind : Nat) (x : Policy) (h : Keeps false bd a p) :
    Keeps false bd a (p.setPolicy kind x).1 := by
  have h1 : ∀ ps : List Policy, ps.length = p.fault.policy.length →
      Keeps false bd a { p with fault := { p.fault with policy := ps } } := fun ps e =>
    h.trans ⟨fun e => by simp at e, fun _ => rfl,
      fun ⟨t1, t2, t3, t4, t5, t6, t7⟩ => ⟨t1, t2, t3, t4, t5, t6, e.trans t7⟩, fun b => b⟩
  unfold Part.setPolicy; (repeat' split)
  all_goals first
    | exact h
    | exact h1 _ (List.length_set ..)
    | exact Part.evaluateAll_keeps _ (h1 _ (List.length_set ..))

theorem Part.takeDefect_keeps (p : Part) (d : Defect) (r : Part × Nat) (he : p.takeDefect d = .inr r)
    (h : Keeps st bd a p) : Keeps st bd a r.1 := by
  unfold Part.takeDefect at he; split at he
  · cases he
  · cases ht : tfree p.fault.defects Config.defects with
    | none => rw [ht] at he; cases he
    | some i =>
      rw [ht] at he; cases he
      exact h.trans ⟨fun _ => rfl, fun _ => rfl, fun ⟨t1, t2, t3, t4, t5, t6, t7⟩ =>
        ⟨t1, t2, t3, t4, t5, twf_tset _ _ _ _ t6 (tfree_lt ht), t7⟩, fun b => b⟩

@[simp] theorem Part.addDefect_keeps (p : Part) (letter x y xmask ymask : Nat) (h : Keeps st bd a p) :
    Keeps st bd a (p.addDefect letter x y xmask ymask).1 := by
  unfold Part.addDefect; (repeat' split)
  all_goals first
    | exact h
    | exact Part.takeDefect_keeps p _ _ ‹_› h

@[simp] theorem Part.removeDefect_keeps (p : Part) (i : Nat) (h : Keeps st bd a p) :
    Keeps st bd a (p.removeDefect i).1 := by
  unfold Part.removeDefect; (repeat' split)
  all_goals first
    | exact h
    | exact h.trans ⟨fun _ => rfl, fun _ => rfl, fun ⟨t1, t2, t3, t4, t5, t6, t7⟩ =>
        ⟨t1, t2, t3, t4, t5, twf_tdel _ _ _ t6, t7⟩, fun b => b⟩

@[simp] theorem Part.adoptDefect_keeps (p : Part) (clip : Nat) (h : Keeps st bd a p) :
    Keeps st bd a (p.adoptDefect clip).1 := by
  unfold Part.adoptDefect; (repeat' split)
  all_goals first
    | exact h
    | exact Part.acknowledge_keeps _ _ _ _ (Part.takeDefect_keeps p _ _ ‹_› h)

@[simp] theorem Part.senseFaults_keeps (p : Part) (h : Keeps st bd a p) : Keeps st bd a p.senseFaults.1 := h.same rfl

@[simp] theorem Part.createLook_keeps (p : Part) (tag : List Byte) (look : Option Nat) (h : Keeps st bd a p) :
    Keeps st bd a (p.createLook tag look).1 := by
  unfold Part.createLook; split
  · exact h
  split
  · exact h
  split
  · exact h
  · rename_i hr _ _ l hl
    refine h.trans ⟨fun _ => rfl, fun _ => rfl, fun ⟨t1, t2, t3, t4, t5, t6⟩ =>
      ⟨t1, t2, t3, t4, twf_tset _ _ _ _ t5 ?_, t6⟩, fun b => b⟩
    cases look with
    | none => exact tfree_lt hl
    | some m =>
      simp only [Part.lookId, Option.some.injEq] at hl
      simp only [lookAbove, decide_eq_true_eq, not_or] at hr
      omega

@[simp] theorem Part.retireLook_keeps (p : Part) (look : Nat) (h : Keeps st bd a p) :
    Keeps st bd a (p.retireLook look).1 := by
  unfold Part.retireLook; (repeat' split)
  all_goals first
    | exact h
    | exact h.trans ⟨fun _ => rfl, fun _ => rfl, fun ⟨t1, t2, t3, t4, t5, t6⟩ =>
        ⟨t1, t2, t3, t4, twf_tdel _ _ _ t5, t6⟩, fun b => b⟩

@[simp] theorem Part.setLook_keeps (p : Part) (look : Nat) (k : Look) (h : Keeps st bd a p) :
    Keeps st bd a (p.setLook look k) := by
  unfold Part.setLook; simp (maxDischargeDepth := 40) +contextual [h]

@[simp] theorem Part.stageParameter_keeps (p : Part) (look param : Nat) (v : Int) (h : Keeps st bd a p) :
    Keeps st bd a (p.stageParameter look param v).1 := by
  unfold Part.stageParameter; dsimp only; (repeat' split)
  all_goals simp (maxDischargeDepth := 40) +contextual [h]

@[simp] theorem Part.setCommitMask_keeps (p : Part) (look : Nat) (params : BitVec 16) (h : Keeps st bd a p) :
    Keeps st bd a (p.setCommitMask look params).1 := by
  unfold Part.setCommitMask; (repeat' split)
  all_goals simp (maxDischargeDepth := 40) +contextual [h]

@[simp] theorem Part.commitLook_keeps (p : Part) (look : Nat) (h : Keeps st bd a p) :
    Keeps st bd a (p.commitLook look).1 := by
  unfold Part.commitLook; (repeat' split)
  all_goals simp (maxDischargeDepth := 40) +contextual [h]

@[simp] theorem Part.discardStaging_keeps (p : Part) (look : Nat) (h : Keeps st bd a p) :
    Keeps st bd a (p.discardStaging look).1 := by
  unfold Part.discardStaging; (repeat' split)
  all_goals simp (maxDischargeDepth := 40) +contextual [h]

@[simp] theorem Part.enqueueRender_keeps (p : Part) (clip : Nat) (look : Option Nat) (target : Nat)
    (h : Keeps st bd a p) :
    Keeps st bd a (p.enqueueRender clip look target).1 := by
  unfold Part.enqueueRender; (repeat' split)
  all_goals simp (maxDischargeDepth := 40) +contextual [h]

@[simp] theorem Part.cancelRender_keeps (p : Part) (tag : Nat) (h : Keeps st bd a p) :
    Keeps st bd a (p.cancelRender tag).1 := by
  unfold Part.cancelRender; split <;> simp (maxDischargeDepth := 40) +contextual [h]

@[simp] theorem Part.rebind_keeps (p : Part) (c : Fin 2) (clip : Nat) (look : Option Nat) (h : Keeps st bd a p) :
    Keeps st bd a (p.rebind c clip look) := by
  unfold Part.rebind; simp (maxDischargeDepth := 40) +contextual [h]

@[simp] theorem Part.bindSource_keeps (p : Part) (c : Fin 2) (clip : Nat) (h : Keeps st bd a p) :
    Keeps st bd a (p.bindSource c clip) := by
  unfold Part.bindSource; split <;> simp (maxDischargeDepth := 40) +contextual [h]

@[simp] theorem Part.bindPreview_keeps (p : Part) (channel clip : Nat) (look : Option Nat) (h : Keeps st bd a p) :
    Keeps st bd a (p.bindPreview channel clip look).1 := by
  unfold Part.bindPreview; (repeat' split)
  all_goals simp (maxDischargeDepth := 40) +contextual [h]

@[simp] theorem Part.unbindPreview_keeps (p : Part) (channel : Nat) (h : Keeps st bd a p) :
    Keeps st bd a (p.unbindPreview channel).1 := by
  unfold Part.unbindPreview; split <;> simp (maxDischargeDepth := 40) +contextual [h]

@[simp] theorem Part.seekTo_keeps (p : Part) (c : Fin 2) (frame : Nat) (h : Keeps st bd a p) :
    Keeps st bd a (p.seekTo c frame) := by
  unfold Part.seekTo; simp (maxDischargeDepth := 40) +contextual [h]

@[simp] theorem Part.play_keeps (p : Part) (channel : Nat) (loop : Bool) (h : Keeps st bd a p) :
    Keeps st bd a (p.play channel loop).1 := by
  unfold Part.play; dsimp only; (repeat' split)
  all_goals simp (maxDischargeDepth := 40) +contextual [h]

@[simp] theorem Part.pause_keeps (p : Part) (channel : Nat) (h : Keeps st bd a p) :
    Keeps st bd a (p.pause channel).1 := by
  unfold Part.pause; dsimp only; (repeat' split)
  all_goals simp (maxDischargeDepth := 40) +contextual [h]

@[simp] theorem Part.seek_keeps (p : Part) (channel frame : Nat) (h : Keeps st bd a p) :
    Keeps st bd a (p.seek channel frame).1 := by
  unfold Part.seek; dsimp only; (repeat' split)
  all_goals simp (maxDischargeDepth := 40) +contextual [h]

@[simp] theorem Part.readScope_keeps (p : Part) (channel : Nat) (h : Keeps st bd a p) :
    Keeps st bd a (p.readScope channel).1 := by
  unfold Part.readScope; split <;> simp (maxDischargeDepth := 40) +contextual [h]

@[simp] theorem Part.replaceMask_keeps (p : Part) (mask : BitVec 16) (h : Keeps false bd a p) :
    Keeps false bd a (p.replaceMask mask) := h.trans ⟨fun e => by simp at e, fun _ => rfl, id, id⟩

@[simp] theorem Part.setMask_keeps (p : Part) (mask : BitVec 16) (h : Keeps false bd a p) :
    Keeps false bd a (p.setMask mask).1 := Part.replaceMask_keeps p mask h

@[simp] theorem Part.senseCustody_keeps (p : Part) (h : Keeps st bd a p) : Keeps st bd a p.senseCustody.1 := h.same rfl

@[simp] theorem Part.takePresence_keeps (p : Part) (l : Fin 6) (tag : Option Byte) (present locked : Bool)
    (count : Byte) (h : Keeps st bd a p) :
    Keeps st bd a (p.takePresence l tag present locked count) := by
  unfold Part.takePresence; (repeat' split)
  all_goals simp (maxDischargeDepth := 40) +contextual [h]

@[simp] theorem Part.takeBlock_keeps (p : Part) (l : Fin 6) (tag : Byte) (b : Block) (h : Keeps st bd a p) :
    Keeps st bd a (p.takeBlock l tag b) := by
  unfold Part.takeBlock; (repeat' split)
  all_goals simp (maxDischargeDepth := 40) +contextual [h]

@[simp] theorem Part.takeReaderFault_keeps (p : Part) (l : Fin 6) (tag : Byte) (code : BitVec 16)
    (h : Keeps st bd a p) :
    Keeps st bd a (p.takeReaderFault l tag code) := by
  unfold Part.takeReaderFault; (repeat' split)
  all_goals simp (maxDischargeDepth := 40) +contextual [h]

@[simp] theorem Part.takeReinit_keeps (p : Part) (l : Fin 6) (tag : Byte) (ready : Bool) (h : Keeps st bd a p) :
    Keeps st bd a (p.takeReinit l tag ready) := by
  unfold Part.takeReinit; (repeat' split)
  all_goals simp (maxDischargeDepth := 40) +contextual [h]

@[simp] theorem Part.takeErase_keeps (p : Part) (l : Fin 6) (tag : Byte) (h : Keeps st bd a p) :
    Keeps st bd a (p.takeErase l tag) := by
  unfold Part.takeErase; (repeat' split)
  all_goals simp (maxDischargeDepth := 40) +contextual [h]

@[simp] theorem Part.freeLink_keeps (p : Part) (d : Fin 4) (h : Keeps st bd a p) :
    Keeps st bd a (p.freeLink d) := by
  unfold Part.freeLink; simp (maxDischargeDepth := 40) +contextual [h]

@[simp] theorem Part.takeIdentify_keeps (p : Part) (d : Fin 4) (tag : Byte) (label : List Byte) (serial : BitVec 64)
    (isProtected : Bool) (free : Nat) (h : Keeps st false a p) :
    Keeps st false a (p.takeIdentify d tag label serial isProtected free) := by
  unfold Part.takeIdentify; (repeat' split)
  all_goals simp (maxDischargeDepth := 40) +contextual [h]

@[simp] theorem Part.takeWrite_keeps (p : Part) (d : Fin 4) (tag : Byte) (stored : Bool) (free : Nat)
    (h : Keeps st false a p) :
    Keeps st false a (p.takeWrite d tag stored free) := by
  unfold Part.takeWrite; (repeat' split)
  all_goals simp (maxDischargeDepth := 40) +contextual [h]

@[simp] theorem Part.takeRead_keeps (p : Part) (d : Fin 4) (tag : Byte) (b : Option Block) (h : Keeps st bd a p) :
    Keeps st bd a (p.takeRead d tag b) := by
  unfold Part.takeRead; (repeat' split)
  all_goals simp (maxDischargeDepth := 40) +contextual [h]

@[simp] theorem Part.takeRelease_keeps (p : Part) (d : Fin 4) (tag : Byte) (free : Nat) (h : Keeps st false a p) :
    Keeps st false a (p.takeRelease d tag free) := by
  unfold Part.takeRelease; (repeat' split)
  all_goals simp (maxDischargeDepth := 40) +contextual [h]

@[simp] theorem Part.takeEject_keeps (p : Part) (d : Fin 4) (tag : Byte) (h : Keeps st bd a p) :
    Keeps st bd a (p.takeEject d tag) := by
  unfold Part.takeEject; (repeat' split)
  all_goals simp (maxDischargeDepth := 40) +contextual [h]

@[simp] theorem Part.takeVolumeFault_keeps (p : Part) (d : Fin 4) (tag : Byte) (code : BitVec 16)
    (h : Keeps st false a p) :
    Keeps st false a (p.takeVolumeFault d tag code) := by
  unfold Part.takeVolumeFault; split <;> simp (maxDischargeDepth := 40) +contextual [h]

@[simp] theorem Part.clearAttention_keeps (p : Part) (h : Keeps st bd a p) : Keeps st bd a p.clearAttention := h.same rfl

@[simp] theorem Part.portResetRender_keeps (p : Part) (h : Keeps st bd a p) :
    Keeps st bd a p.portResetRender := by
  unfold Part.portResetRender; simp (maxDischargeDepth := 40) +contextual [h]

@[simp] theorem Part.portResetVerify_keeps (p : Part) (d : Fin 4) (h : Keeps st bd a p) :
    Keeps st bd a (p.portResetVerify d) := by
  unfold Part.portResetVerify; simp (maxDischargeDepth := 40) +contextual [h]

@[simp] theorem Part.portResetReader_keeps (p : Part) (l : Fin 6) (h : Keeps st bd a p) :
    Keeps st bd a (p.portResetReader l) := by
  unfold Part.portResetReader; dsimp only; split <;> simp (maxDischargeDepth := 40) +contextual [h]

@[simp] theorem Part.portReset_keeps (p : Part) (h : Keeps st bd a p) : Keeps st bd a p.portReset := by
  unfold Part.portReset; simp (maxDischargeDepth := 40) +contextual [h]

@[simp] theorem Part.resetAttention_keeps (p : Part) (h : Keeps st bd a p) : Keeps st bd a p.resetAttention := by
  unfold Part.resetAttention; simp (maxDischargeDepth := 40) +contextual [h]

@[simp] theorem Part.dropRecopiesFrom_keeps (p : Part) (v : Nat) (h : Keeps st bd a p) :
    Keeps st bd a (p.dropRecopiesFrom v) := by
  unfold Part.dropRecopiesFrom
  refine Part.each_keeps _ _ _ (fun q t hq => ?_) h
  split <;> simp (maxDischargeDepth := 40) +contextual [hq]

@[simp] theorem Part.portResetDest_keeps (p : Part) (d : Fin 4) (h : Keeps st bd a p) :
    Keeps st bd a (p.portResetDest d) := by
  unfold Part.portResetDest; split <;> simp (maxDischargeDepth := 40) +contextual [h]

@[simp] theorem Part.takeReset_keeps (p : Part) (b : ResetBlock) (h : Keeps st bd a p) :
    Keeps st bd a (p.takeReset b) := by
  unfold Part.takeReset; (repeat' split)
  all_goals simp (maxDischargeDepth := 40) +contextual [h]

/-! ### Commands -/

/-- A request keeps what its effect keeps. -/
theorem State.takeRequest_keeps (s : State) (i : Instr) (f : Part → Reply)
    (hf : ∀ p, Keeps st bd p (f p).1) : Keeps st bd s.part (s.takeRequest i f).part := by
  have h0 : Keeps st bd s.part s.part.quiet := Part.quiet_keeps _ (Keeps.refl _)
  unfold State.takeRequest; split
  · exact h0
  · dsimp only; split
    · exact h0
    · exact Part.reformVector_keeps _ (Part.settle_keeps _ (h0.trans (hf _)))

/-- A request that only reads keeps all. -/
theorem State.takeQuery_keeps (s : State) (i : Instr) (f : Part → Answer) :
    Keeps st bd s.part (s.takeQuery i f).part := by
  rw [State.takeQuery_part]; exact Part.quiet_keeps _ (Keeps.refl _)

/-- An event beside the port keeps what its effect keeps. -/
theorem State.event_keeps (s : State) (f : Part → Part) (hf : ∀ p, Keeps st bd p (f p)) :
    Keeps st bd s.part (s.event f).part :=
  Part.reformVector_keeps _ (Part.settle_keeps _ ((Part.quiet_keeps _ (Keeps.refl _)).trans (hf _)))

end Sys2Proof.Machine
end

