-- ==== Sys2Proof/Laws/Offload.lean ====
section
/-! SUPPORT. What considering a clip does: the fan-out touches clips alone, and the bound on the positions looked at does
not show. -/

namespace Sys2Proof.Machine

/-- Forming a fan-out changes clips alone. -/
theorem Part.formFanOut_frame (p : Part) (i : Nat) (plan : Plan) :
    (p.formFanOut i plan).1 = { p with clips := (p.formFanOut i plan).1.clips } := by
  suffices h : ∀ (vs : List Nat) (s : Part × List Nat),
      (vs.foldl (fanOutStep i) s).1 = { s.1 with clips := (vs.foldl (fanOutStep i) s).1.clips } from
    h plan.volumes (p, [])
  intro vs
  induction vs with
  | nil => exact fun _ => rfl
  | cons v vs ih =>
    intro s
    have h1 : (fanOutStep i s v).1 = { s.1 with clips := (fanOutStep i s v).1.clips } := by
      unfold fanOutStep; split
      · split <;> rfl
      · rfl
    rw [List.foldl_cons, ih (fanOutStep i s v), h1]

/-- Changing a card record that is in use. -/
theorem Part.card_modCard_self (p : Part) (i : Nat) (f : Card → Card) (c : Card) (h : p.card i = some c) :
    (p.modCard i f).card i = some (f c) := by
  unfold Part.card Part.modCard at *
  rw [tget_tmod]; simp [h]

/-- The positions of the clip list that the offload of a lane has not yet considered. -/
def Part.positionsLeft (p : Part) (l : Fin 6) : Nat :=
  match (p.reader l).offload.bind fun x => p.card x.card with
  | some card => card.clips.length - card.nextPos
  | none => 0

theorem Part.positionsLeft_of (p : Part) (l : Fin 6) (x : OffloadCtx) (card : Card)
    (h : (p.reader l).offload = some x) (hc : p.card x.card = some card) :
    p.positionsLeft l = card.clips.length - card.nextPos := by
  simp [Part.positionsLeft, h, hc]

/-- Any two bounds above the number of positions left consider the same. -/
theorem Part.considerFrom_fuel (l : Fin 6) :
    ∀ (n m : Nat) (p : Part), p.positionsLeft l < n → p.positionsLeft l < m →
      Part.considerFrom l n p = Part.considerFrom l m p := by
  intro n
  induction n with
  | zero => intro m p h; omega
  | succ n ih =>
    intro m p h1 h2
    cases m with
    | zero => omega
    | succ m =>
      unfold Part.considerFrom
      cases ho : (p.reader l).offload with
      | none => rfl
      | some x =>
        dsimp only
        cases hc : p.card x.card with
        | none => rfl
        | some card =>
          dsimp only
          rw [p.positionsLeft_of l x card ho hc] at h1 h2
          cases hs : x.stop with
          | true => rfl
          | false =>
            cases hk : card.clips[card.nextPos]? with
            | none => rfl
            | some i =>
              dsimp only
              have hlt : card.nextPos < card.clips.length := by
                by_contra hn
                rw [List.getElem?_eq_none (by omega)] at hk; cases hk
              have key (q : Part) (c : Card) (hq : q.readers = p.readers) (hcard : q.card x.card = some c)
                  (hclips : c.clips = card.clips) (hnext : c.nextPos = card.nextPos + 1) :
                  Part.considerFrom l n q = Part.considerFrom l m q := by
                have hoff : (q.reader l).offload = some x := by unfold Part.reader; rw [hq]; exact ho
                have hleft := q.positionsLeft_of l x c hoff hcard
                apply ih <;> rw [hleft, hclips, hnext] <;> omega
              have h0 := p.card_modCard_self x.card (fun c => { c with nextPos := card.nextPos + 1 }) card hc
              cases hcl : (p.modCard x.card fun c => { c with nextPos := card.nextPos + 1 }).clip i with
              | none => exact key _ _ rfl h0 rfl rfl
              | some c =>
                dsimp only
                have hskip (q : Part) (hr : q.readers = p.readers)
                    (hq : q.card x.card = some { card with nextPos := card.nextPos + 1 }) :
                    Part.considerFrom l n (q.modCard x.card fun c => { c with skipped := c.skipped + 1 }) =
                      Part.considerFrom l m (q.modCard x.card fun c => { c with skipped := c.skipped + 1 }) :=
                  key _ _ hr (q.card_modCard_self _ _ _ hq) rfl rfl
                split
                · exact hskip _ rfl h0
                · split
                  · exact hskip _ rfl h0
                  · split
                    · refine key _ { card with nextPos := card.nextPos + 1 } ?_ ?_ rfl rfl
                      · rw [Part.formFanOut_frame]; rfl
                      · rw [Part.formFanOut_frame]; exact h0
                    · rfl

end Sys2Proof.Machine
end

