-- ==== Sys2Proof/WellFormed.lean ====
section
/-! DEFINITION. Well-formed commands: every operand fits the width its message gives it (R201, 11.3, 11.4), and every
byte string has its length. -/

namespace Sys2Proof

def isByte (n : Nat) : Bool := decide (n < 256)
def isHalf (n : Nat) : Bool := decide (n < 65536)
def isWord (n : Nat) : Bool := decide (n < 4294967296)
def isFree (n : Nat) : Bool := decide (n < 281474976710656)
def isSignedHalf (v : Int) : Bool := decide (-32768 ≤ v) && decide (v < 32768)
def isOptByte (o : Option Nat) : Bool := match o with
  | some n => isByte n
  | none => true

/-- A write of a few bytes at an offset that stays inside an item of the window. DESIGN CHOICE (log 57): one host write that
spans two items, of which R178 says nothing, is no command of its own; it enters the queue as one write for each item. -/
def inside (size offset : Nat) (bytes : List Byte) : Bool :=
  decide (0 < bytes.length) && decide (offset + bytes.length ≤ size)

/-- A byte that a write leaves without effect: at an offset that holds no word or buffer, in one whose writes are ignored,
or in the port control word with none of its four bits set (R178, R181). -/
def ignoredByte (o : Nat) (b : Byte) : Bool :=
  decide (o < 512) && !(decide (o = 4) && decide (b.toNat % 16 ≠ 0)) && !(decide (12 ≤ o) && decide (o < 16)) &&
    !(decide (64 ≤ o) && decide (o < 128))

def CardId.wf (id : CardId) : Bool := isByte id.letter && isHalf id.roll

/-- A stored block: a 64-byte header and a canonical payload of at most 4,194,304 bytes. -/
def Block.wf (b : Block) : Bool :=
  decide (b.header.length = Config.headerBytes) && decide (b.payload.length ≤ Config.payloadBytes) &&
    (match b.payload.getLast? with
     | some x => x != 0
     | none => true)

def CardRef.wf : CardRef → Bool
  | .index c => isByte c
  | .identity id => id.wf

def ClipRef.wf : ClipRef → Bool
  | .index c => isHalf c
  | .name t => decide (t.length = 8)

def ClipScan.wf : ClipScan → Bool
  | .card c s => isByte c && isHalf s
  | .table s => isHalf s

def FaultScan.wf : FaultScan → Bool
  | .clip c s => isHalf c && isByte s
  | .table s => isHalf s

def PlanArg.wf (p : PlanArg) : Bool :=
  isByte p.count && decide (p.slots.length = 4) && p.slots.all isByte && isByte p.required

/-- The check, command by command. -/
def Instr.wf : Instr → Bool
  | .powerOnReset | .portReset _ | .portGo _ _ | .portDone _ | .collisionClear => true
  | .requestBufferWrite o bs => inside Config.requestBytes o bs
  | .attentionMaskWordWrite o bs => inside 4 o bs
  | .windowWriteIgnored o bs =>
    decide (0 < bs.length) && (List.range bs.length).all fun k => ignoredByte (o + k) (bs.getD k 0)
  | .lookupCard c => c.wf
  | .listCards s f => isHalf s && isOptByte f
  | .setCardPlan c p => isByte c && p.wf
  | .setStandingPlan p => p.wf
  | .startOffload c | .clearTrip c | .releaseCard c | .eraseCard c | .retireCard c => isByte c
  | .stopOffload c o => isByte c && isByte o
  | .remount l => isByte l
  | .lookupClip c => c.wf
  | .listClips s => s.wf
  | .waiveClip c | .unwaiveClip c => isHalf c
  | .assignLook c l => isHalf c && isOptByte l
  | .listOpenFaults s => s.wf
  | .acknowledgeFault c k v => isHalf c && isByte k && isByte v
  | .verifyCopy c v | .recopy c v => isHalf c && isByte v
  | .setVerifyMode v m => isByte v && isByte m
  | .listVolumes s => isHalf s
  | .lookupVolume v | .eject v | .retireVolume v => isByte v
  | .setRole v r => isByte v && isByte r
  | .setLaneMode l m => isByte l && isByte m
  | .setLaneTimingReader l c p r => isByte l && isByte c && isByte p && isByte r
  | .setLaneTimingDestination l c p => isByte l && isByte c && isByte p
  | .resetUnit u | .senseUnit u => isByte u
  | .listCameras s => isHalf s
  | .setCameraDefault c l => isByte c && isOptByte l
  | .retireCamera c => isByte c
  | .setPolicy k _ _ t a b => isByte k && isByte t && isHalf a && isHalf b
  | .readPolicy k => isByte k
  | .addDefect l x y xm ym => isByte l && isHalf x && isHalf y && isHalf xm && isHalf ym
  | .removeDefect i => isByte i
  | .listDefects s f => isHalf s && isOptByte f
  | .adoptDefect c => isHalf c
  | .senseFaults | .senseCustody => true
  | .createLook t l => decide (t.length = 8) && isOptByte l
  | .readLook l | .setCommitMask l _ | .commitLook l | .discardStaging l | .retireLook l => isByte l
  | .stageParameter l n v => isByte l && isByte n && isSignedHalf v
  | .enqueueRender c l t => isHalf c && isOptByte l && isByte t
  | .cancelRender t => isHalf t
  | .listRenderQueue s => isHalf s
  | .bindPreview c k l => isByte c && isHalf k && isOptByte l
  | .unbindPreview c | .play c _ | .pause c | .readScope c => isByte c
  | .seek c f => isByte c && isWord f
  | .setMask _ => true
  | .readerLinkUp _ | .readerLinkDown _ | .presenceNotice _ _ _ _ _ | .holdAnswer _ _ | .readerFaultAnswer _ _ _
  | .reinitAnswer _ _ _ | .eraseAnswer _ _ | .readerStallExpiry _ => true
  | .blockAnswer _ _ b => b.wf
  | .unknownReaderMessage _ t _ => !(decide (0x81 ≤ t.toNat) && decide (t.toNat ≤ 0x86))
  | .arrivalNotice _ | .detachNotice _ | .volumeLinkDown _ | .ejectAnswer _ _ | .volumeFaultAnswer _ _ _
  | .destStallExpiry _ => true
  | .identifyAnswer _ _ label _ _ free => decide (label.length = 16) && isFree free
  | .writeAnswer _ _ _ free => isFree free
  | .readAnswer _ _ b => match b with
    | some b => b.wf
    | none => true
  | .releaseAnswer _ _ freed free => isWord freed && isFree free
  | .freeReport _ free => isFree free
  | .unknownVolumeMessage _ t _ => !(decide (0x91 ≤ t.toNat) && decide (t.toNat ≤ 0x99))
  | .outputFrameRequest _ => true

end Sys2Proof
end

