-- ==== Sys2Proof/Tests/Slice0.lean ====
section
/-! SUPPORT. Checks of the model's own work: the ill-formed commands are refused, the check values of the spec come out, the
envelopes decode, every request answers the code of each of its clauses at the edges of its ranges, and the hypotheses of
every statement are met by a state and operands. -/

namespace Sys2Proof.Machine.Tests

set_option Elab.async false

/-! ### WellFormed: one ill-formed command for each check -/

theorem test_wellFormed_refuses :
    [ Instr.requestBufferWrite 63 [1, 2], .requestBufferWrite 0 [], .attentionMaskWordWrite 3 [1, 2],
      .windowWriteIgnored 4 [1], .windowWriteIgnored 11 [1, 2], .windowWriteIgnored 512 [1],
      .lookupCard (.index 256), .lookupCard (.identity ⟨256, 1, 0⟩), .lookupCard (.identity ⟨65, 65536, 0⟩),
      .listCards 65536 none, .listCards 0 (some 256), .setCardPlan 256 ⟨1, [0, 0, 0, 0], 1, false⟩,
      .setStandingPlan ⟨1, [0, 0, 0], 1, false⟩, .setStandingPlan ⟨1, [0, 0, 0, 256], 1, false⟩, .startOffload 256,
      .stopOffload 0 256, .clearTrip 256, .releaseCard 256, .eraseCard 256, .retireCard 256, .remount 256,
      .lookupClip (.name [1]), .lookupClip (.index 65536), .listClips (.card 256 0), .listClips (.table 65536),
      .waiveClip 65536, .unwaiveClip 65536, .assignLook 0 (some 256), .listOpenFaults (.clip 0 256),
      .listOpenFaults (.table 65536), .acknowledgeFault 0 256 0, .verifyCopy 65536 0, .recopy 0 256, .setVerifyMode 0 256,
      .listVolumes 65536, .lookupVolume 256, .eject 256, .retireVolume 256, .setRole 0 256, .setLaneMode 256 0,
      .setLaneTimingReader 0 0 0 256, .setLaneTimingDestination 0 256 0, .resetUnit 256, .senseUnit 256,
      .listCameras 65536, .setCameraDefault 65 (some 256), .retireCamera 256, .setPolicy 1 true true 0 65536 0,
      .readPolicy 256, .addDefect 65 0 0 0 65536, .removeDefect 256, .listDefects 0 (some 256), .adoptDefect 65536,
      .createLook [1] none, .readLook 256, .setCommitMask 256 0, .commitLook 256, .discardStaging 256, .retireLook 256,
      .stageParameter 0 0 32768, .stageParameter 0 0 (-32769), .enqueueRender 0 none 256, .cancelRender 65536,
      .listRenderQueue 65536, .bindPreview 256 0 none, .unbindPreview 256, .play 256 true, .pause 256, .readScope 256,
      .seek 0 4294967296, .blockAnswer 0 0 ⟨[], [], 0⟩, .blockAnswer 0 0 ⟨List.replicate 64 0, [1, 0], 0⟩,
      .unknownReaderMessage 0 0x81 [], .unknownReaderMessage 0 0x86 [], .unknownVolumeMessage 0 0x91 [],
      .unknownVolumeMessage 0 0x99 [], .identifyAnswer 0 0 [1] 0 false 0,
      .identifyAnswer 0 0 (List.replicate 16 32) 0 false 281474976710656, .writeAnswer 0 0 true 281474976710656,
      .readAnswer 0 0 (some ⟨[], [], 0⟩), .releaseAnswer 0 0 4294967296 0, .freeReport 0 281474976710656 ].all
      (fun i => !i.wf) = true := by decide +kernel

theorem test_wellFormed_accepts :
    [ Instr.requestBufferWrite 63 [1], .attentionMaskWordWrite 0 [1, 2, 3, 4], .windowWriteIgnored 511 [1],
      .windowWriteIgnored 16 [1], .windowWriteIgnored 4 [16], .windowWriteIgnored 5 [255],
      .lookupCard (.index 255), .stageParameter 0 0 (-32768), .seek 0 4294967295,
      .blockAnswer 0 0 ⟨List.replicate 64 0, [0, 1], 0⟩, .unknownReaderMessage 0 0x87 [], .unknownVolumeMessage 0 0x90 [],
      .freeReport 0 281474976710655 ].all Instr.wf = true := by decide +kernel

/-! ### Checks, digests, envelopes (11) -/

/-- The nine ASCII bytes of R203. -/
def nine : List Byte := [0x31, 0x32, 0x33, 0x34, 0x35, 0x36, 0x37, 0x38, 0x39]

theorem test_blockCheck : ~~~ crcBytes checkPoly (BitVec.allOnes 32) nine = 0xFC891918 := by decide +kernel

theorem test_clipDigest : ~~~ crcBytes digestPoly (BitVec.allOnes 64) nine = 0x62EC59E3F1A4F00A := by decide +kernel

theorem test_zerosAtOnce :
    crcZeros checkPoly 0xDEADBEEF 37 = crcBytes checkPoly 0xDEADBEEF (List.replicate 37 0) ∧
      crcZeros digestPoly 0xDEADBEEF12345678 5 = crcBytes digestPoly 0xDEADBEEF12345678 (List.replicate 5 0) := by
  constructor <;> decide +kernel

theorem test_identityLook :
    [(0, 0, 0), (1023, 1023, 1023), (1, 512, 1022)].all (fun e => applyLook identityValues e == e) = true := by
  decide +kernel

/-- A tie of step 6 is rounded up: trim -8 with power 2 takes code 1023 to 1/2 exactly (R137). -/
theorem test_lookTie :
    applyLook [1024, 1024, 1024, 0, 0, 0, 2048, 1024, 1024, 1024, -8, 0] (1023, 0, 0) = (512, 0, 0) := by
  decide +kernel

/-- One write of the control word with several bits is one command; what is not a bit of it is ignored (R178, R181). -/
theorem test_controlWord :
    controlCommand 0 [0x0F] = .portReset .whole ∧ controlCommand 0 [7, 0, 0, 0] = .portGo true true ∧
      controlCommand 0 [2] = .portDone false ∧ controlCommand 0 [4, 255] = .collisionClear ∧
      controlCommand 0 [16] = .windowWriteIgnored 4 [16] ∧ controlCommand 1 [15] = .windowWriteIgnored 5 [15] := by
  decide +kernel

/-- Messages in bytes, the low byte of a number first (R201, 11.4). -/
theorem test_messages :
    readerCommand 0 [0x81, 0, 1, 9, 1, 0, 3] = .presenceNotice 0 (some 9) true false 3 ∧
      readerCommand 2 [0x84, 7, 0x34, 0x12] = .readerFaultAnswer 2 7 0x1234 ∧
      volumeCommand 0 [0x92, 7, 0, 5, 1, 0, 0, 0, 0] = .writeAnswer 0 7 true 261 ∧
      volumeCommand 0 [0x92, 7, 0, 5, 1, 0, 0, 0, 0, 9] = .writeAnswer 0 7 true 261 ∧
      volumeCommand 0 [0x90, 7, 1] = .unknownVolumeMessage 0 0x90 [7, 1] ∧
      (Message.reader 0 5 (.step (.block 258))).bytes = some [0x02, 5, 2, 1, 0, 0] ∧
      (Message.reader 0 5 (.step (.erase (.run 1 300)))).bytes = some [0x04, 5, 0, 1, 0, 0, 0, 0x2C, 1, 0, 0] ∧
      (Message.volume 1 6 (.release { id := ⟨65, 258, 7⟩, number := 3, proxy := true })).bytes =
        some [0x14, 6, 65, 2, 1, 7, 0, 0, 0, 0, 0, 0, 0, 3, 0, 2] ∧
      trimmed [0, 1, 0, 0] = [0, 1] := by decide +kernel

/-- The two envelopes of 11.6, the wrong length of its text, an unknown identifier, a bad selector and a bad marker. -/
theorem test_envelopes :
    decodeEnvelope (padTo 64 [0x51, 0x03, 0x02, 9, 0, 2, 50, 4, 5]) = .request (.setLaneTimingReader 2 50 4 5) ∧
      decodeEnvelope (padTo 64 [0x51, 0x03, 0x02, 9, 1, 2, 50, 4, 5]) = .malformed 3 ∧
      decodeEnvelope (padTo 64 [0x82, 0, 0, 8, 12, 10, 0x0C, 0]) = .request (.stageParameter 12 10 12) ∧
      decodeEnvelope (padTo 64 [0x82, 0, 0, 8, 12, 10, 0xE8, 0xFF]) = .request (.stageParameter 12 10 (-24)) ∧
      decodeEnvelope (padTo 64 [0x27, 0, 0, 4]) = .unknown ∧
      decodeEnvelope (padTo 64 [0x51, 0, 0, 9, 2]) = .malformed 4 ∧
      decodeEnvelope (padTo 64 [0x24, 0, 0, 8, 0, 0, 2]) = .malformed 6 ∧
      decodeEnvelope (padTo 64 [0xB1, 0, 0, 4]) = .request .senseCustody := by decide +kernel

/-! ### A small part -/

def id1 (roll : Nat) : CardId := { letter := 65, roll := roll, serial := 7 }

def card1 (roll : Nat) (st : CardState) (lane : Option (Fin 6)) (clips : List Nat) : Card :=
  { id := id1 roll, state := st, lane := lane, writeProtected := false,
    plan := { volumes := [0], required := 1, skipMarked := false }, clips := clips, erased := false,
    eraseIncomplete := false, nextPos := 0, copied := 0, failed := 0, skipped := 0 }

def clip1 (card : Nat) : Clip :=
  { card := card, ident := id1 (card + 1), number := 1, firstBlock := 2, blockCount := 1, frameCount := 1,
    start := Timecode.zero, rate := 0, marked := false, cameraDigest := none, ingestDigest := none, custody := .normal,
    look := none, copies := [], faults := [], proxy := none, trackerOverflow := false }

def fault1 (k : FaultKind) (vol : Nat) (st : FaultState) : FaultEntry :=
  { kind := k, vol := vol, state := st, count := 1, saturated := false, firstFrame := none, firstSite := none,
    detail := none }

def vol1 (role : Role) (lane : Option (Fin 4)) (attach : Attachment) : Volume :=
  { label := List.replicate 16 0x41, serial := 5, role := role, lane := lane, attach := attach, free := 9, mode := .auto,
    verifyList := [] }

def look1 (staging : Int) (mask : BitVec 12) (pins : Nat) (held : Option LookSlot) (refs : Nat) : Look :=
  { tag := List.replicate 8 0x41, staging := staging :: identityValues.tail, mask := mask,
    live := { values := identityValues, version := 1, pins := pins }, held := held, refClips := refs, refCameras := 0,
    refRenders := 0, refChannels := 0 }

def slot1 : LookSlot := { values := identityValues, version := 65535, pins := 1 }

def frame1 (last : Bool) : Frame :=
  { number := 0, last := last, after := 1, picture := { width := 1, height := 1, elements := [(1, 2, 3)] } }

def offload1 (card : Nat) : OffloadCtx := { card := card, current := none, stop := false, done := none, tally := [] }

/-- Cards in every state, clips, volumes in each attachment, looks in each case of a commit, an unsensed termination on one
unit of each kind. -/
def shop : Part :=
  let p : Part :=
    { Part.reset with
      cards :=
        [(0, card1 1 .ready (some 0) [0, 1]), (1, card1 2 .held none [2]), (2, card1 3 .tripped (some 1) []),
          (3, card1 4 .secured none []), (4, card1 5 .released (some 2) [4]), (5, card1 6 .offloading (some 3) []),
          (6, card1 7 .tripped none []), (7, { card1 8 .held (some 4) [] with plan := { volumes := [], required := 0, skipMarked := false } }),
          (8, { card1 9 .released none [] with erased := true }), (9, card1 10 .released none []),
          (10, { card1 11 .released (some 5) [] with writeProtected := true }), (31, card1 12 .erasing none [5])]
      clips :=
        [(0, clip1 0),
          (1, { clip1 0 with
            ingestDigest := some 1, copies := [⟨0, .written, .offload⟩, ⟨3, .failed .digest, .offload⟩],
            faults := [{ fault1 .stuckSite 0 .opened with firstSite := some (3, 4) }, fault1 .frameGap 0 .acknowledged,
              fault1 .copyMismatch 7 .opened] }),
          (2, { clip1 1 with custody := .waived .host, look := some 5 }), (4, clip1 4), (5, clip1 31),
          (6, { clip1 0 with ingestDigest := some 1, copies := [⟨1, .written, .offload⟩, ⟨2, .written, .offload⟩,
            ⟨3, .written, .offload⟩, ⟨4, .written, .offload⟩] }),
          (1023, { clip1 0 with ingestDigest := some 1 })]
      cameras := [(0, ⟨65, 1, none⟩), (7, ⟨90, 2, some 5⟩)]
      volumes :=
        [(0, vol1 .archive (some 0) .online), (1, { vol1 .proxy (some 1) .online with serial := 6 }),
          (2, { vol1 .archive none .detached with serial := 7 }),
          (3, { vol1 .archive (some 2) .onlineReadonly with serial := 8 }),
          (7, { vol1 .proxy none .detached with serial := 9 })]
      looks :=
        [(0, look1 1024 0xFFF 0 none 0), (1, look1 512 0xFFE 0 none 0), (2, look1 512 0xFFF 1 none 0),
          (3, look1 512 0xFFF 1 (some slot1) 0), (4, look1 1024 0xFFF 1 (some slot1) 0), (5, look1 1024 0xFFF 0 none 2)]
      fault := { Part.reset.fault with defects := [(0, ⟨65, 1, 2, 8191, 8191, 0⟩), (127, ⟨90, 0, 0, 0, 0, 3⟩)] }
      render := { queue := [⟨1, 0, some 5, 1⟩, ⟨2, 1, none, 1⟩], nextTag := 2, active := none, term := TermSlot.none }
      attention := { custody := true, faults := true, mask := 0, vector := 10 } }
  let p := p.modReader 0 fun r => { r with state := .bound }
  let p := p.modReader 1 fun r => { r with state := .empty }
  let p := p.modReader 2 fun r => { r with state := .bound }
  let p := p.modReader 3 fun r => { r with state := .offloading, offload := some (offload1 5) }
  let p := p.modReader 4 fun r => { r with state := .bound }
  let p := p.modReader 5 fun r => { r with state := .bound, term := { r.term with unsensed := true } }
  let p := p.modDest 0 fun r => { r with state := .online, present := true }
  let p := p.modDest 1 fun r => { r with state := .online, present := true }
  let p := p.modDest 2 fun r => { r with state := .onlineReadonly, present := true }
  let p := p.modDest 3 fun r => { r with term := { r.term with unsensed := true } }
  p.modChannel 1 fun c => { c with state := .paused, clip := some 0, shown := some (frame1 true) }

/-! ### Requests at the edges of their ranges -/

/-- A state with a request outstanding. -/
def asked (p : Part) (i : Instr) : State :=
  { pending := [], port := { Port.reset with state := .busy ⟨0, 0, 0, i⟩ }, owed := [], part := p }

/-- The premise of the request statements holds there, for every request. -/
theorem test_asked_dispatched (p : Part) (i : Instr) : Dispatched (asked p i) ⟨0, 0, 0, i⟩ i := ⟨rfl, rfl⟩

/-- The status code of a request's answer. -/
def answerCode (p : Part) (i : Instr) : Nat :=
  match exec i (asked p i) with
  | .next t => if t.port.state = .result then (byteAt t.port.result 4).toNat else 255
  | _ => 255

def answers (p : Part) (xs : List (Instr × Status)) : Bool := xs.all fun e => answerCode p e.1 == e.2.code

theorem test_answers_reads :
    answers shop
      [(.lookupCard (.index 31), .ok), (.lookupCard (.index 30), .notFound), (.lookupCard (.identity (id1 12)), .ok),
       (.lookupCard (.identity (id1 13)), .notFound), (.lookupClip (.index 1023), .ok), (.lookupClip (.index 3), .notFound),
       (.lookupClip (.name (clip1 0).name), .ok), (.lookupClip (.name []), .notFound), (.lookupVolume 7, .ok),
       (.lookupVolume 8, .range), (.lookupVolume 6, .notFound), (.readLook 63, .ok), (.readLook 0, .ok),
       (.readLook 64, .range), (.readPolicy 0, .range), (.readPolicy 1, .ok), (.readPolicy 8, .ok), (.readPolicy 9, .range),
       (.listCards 31 none, .ok), (.listCards 32 none, .range), (.listCards 0 (some 5), .ok),
       (.listClips (.card 30 0), .notFound), (.listClips (.card 0 249), .ok), (.listClips (.card 0 250), .range),
       (.listClips (.table 1023), .ok), (.listClips (.table 1024), .range), (.listVolumes 7, .ok), (.listVolumes 8, .range),
       (.listCameras 7, .ok), (.listCameras 8, .range), (.listDefects 127 (some 90), .ok), (.listDefects 127 none, .ok),
       (.listDefects 128 none, .range), (.listDefects 0 (some 64), .range), (.listDefects 0 (some 65), .ok),
       (.listDefects 0 (some 91), .range), (.listOpenFaults (.clip 1023 1), .ok), (.listOpenFaults (.clip 1 0), .ok),
       (.listOpenFaults (.clip 1024 0), .range), (.listOpenFaults (.clip 1 2), .range),
       (.listOpenFaults (.clip 3 0), .notFound), (.listOpenFaults (.table 1023), .ok),
       (.listOpenFaults (.table 1024), .range), (.listRenderQueue 15, .ok), (.listRenderQueue 16, .range)] = true := by
  decide +kernel

def plan1 (count : Nat) (vs : List Nat) (required : Nat) : PlanArg :=
  { count := count, slots := vs, required := required, skipMarked := false }

theorem test_answers_cards :
    answers shop
      [(.setStandingPlan (plan1 4 [0, 1, 2, 7] 4), .ok), (.setStandingPlan (plan1 1 [0, 0, 0, 0] 1), .ok),
       (.setStandingPlan (plan1 0 [0, 1, 2, 7] 1), .range), (.setStandingPlan (plan1 5 [0, 1, 2, 7] 1), .range),
       (.setStandingPlan (plan1 2 [0, 0, 2, 7] 1), .range), (.setStandingPlan (plan1 1 [8, 0, 0, 0] 1), .range),
       (.setStandingPlan (plan1 1 [0, 0, 0, 0] 0), .range), (.setStandingPlan (plan1 1 [0, 0, 0, 0] 2), .range),
       (.setStandingPlan (plan1 1 [6, 0, 0, 0] 1), .notFound), (.setCardPlan 30 (plan1 1 [0, 0, 0, 0] 1), .notFound),
       (.setCardPlan 2 (plan1 1 [0, 0, 0, 0] 1), .wrongState), (.setCardPlan 0 (plan1 0 [0, 0, 0, 0] 1), .range),
       (.setCardPlan 0 (plan1 1 [6, 0, 0, 0] 1), .notFound), (.setCardPlan 0 (plan1 1 [0, 0, 0, 0] 1), .ok),
       (.setCardPlan 1 (plan1 1 [0, 0, 0, 0] 1), .ok), (.startOffload 32, .range), (.startOffload 30, .notFound),
       (.startOffload 1, .notPresent), (.startOffload 2, .busy), (.startOffload 10, .unsensed), (.startOffload 4, .wrongState),
       (.startOffload 7, .planInvalid), (.startOffload 0, .accepted), (.stopOffload 32 0, .range), (.stopOffload 5 2, .range),
       (.stopOffload 30 1, .notFound), (.stopOffload 31 0, .wrongState), (.stopOffload 5 0, .ok), (.stopOffload 5 1, .ok),
       (.clearTrip 32, .range), (.clearTrip 30, .notFound), (.clearTrip 31, .wrongState), (.clearTrip 2, .ok),
       (.clearTrip 6, .ok), (.releaseCard 30, .notFound), (.releaseCard 1, .wrongState), (.releaseCard 3, .ok),
       (.retireCard 30, .notFound), (.retireCard 3, .wrongState), (.retireCard 4, .inUse), (.retireCard 9, .ok),
       (.eraseCard 32, .range), (.eraseCard 30, .notFound), (.eraseCard 3, .wrongState), (.eraseCard 8, .wrongState),
       (.eraseCard 9, .notPresent), (.eraseCard 10, .unsensed), (.eraseCard 4, .accepted), (.remount 6, .range),
       (.remount 1, .notPresent), (.remount 3, .busy), (.remount 5, .unsensed), (.remount 0, .accepted)] = true := by
  decide +kernel

/-- The clauses that need another state: a lane busy with a recopy, a protected card, a lane with a mount pending. -/
theorem test_answers_cards_more :
    answers (shop.modReader 2 fun r => { r with serves := some 0 }) [(.eraseCard 4, .busy), (.remount 2, .busy)] = true ∧
      answers (shop.modReader 5 fun r => { r with term := TermSlot.none }) [(.eraseCard 10, .isProtected)] = true ∧
      answers (shop.modReader 1 fun r => { r with mountPending := true }) [(.remount 1, .accepted)] = true ∧
      answers (shop.modReader 1 fun r => { r with state := .noReader }) [(.remount 1, .notPresent)] = true ∧
      answers (shop.modReader 5 fun r => { r with state := .equipment }) [(.remount 5, .busy)] = true := by
  decide +kernel

theorem test_answers_clips :
    answers shop
      [(.waiveClip 3, .notFound), (.waiveClip 4, .wrongState), (.waiveClip 5, .wrongState), (.waiveClip 1023, .ok),
       (.unwaiveClip 3, .notFound), (.unwaiveClip 0, .wrongState), (.unwaiveClip 2, .ok), (.assignLook 0 (some 64), .range),
       (.assignLook 3 (some 0), .notFound), (.assignLook 0 (some 63), .notFound), (.assignLook 0 (some 0), .ok),
       (.assignLook 2 none, .ok), (.setCameraDefault 64 none, .range), (.setCameraDefault 91 none, .range),
       (.setCameraDefault 65 (some 64), .range), (.setCameraDefault 66 none, .notFound),
       (.setCameraDefault 65 (some 63), .notFound), (.setCameraDefault 65 (some 0), .ok), (.setCameraDefault 90 none, .ok),
       (.retireCamera 66, .notFound), (.retireCamera 65, .inUse), (.retireCamera 90, .ok),
       (.acknowledgeFault 1 0 0, .range), (.acknowledgeFault 1 9 0, .range), (.acknowledgeFault 1024 1 0, .range),
       (.acknowledgeFault 1 6 8, .range), (.acknowledgeFault 1023 1 0, .notFound), (.acknowledgeFault 3 8 0, .notFound),
       (.acknowledgeFault 1 1 255, .ok), (.acknowledgeFault 1 4 0, .ok), (.acknowledgeFault 1 6 7, .ok)] = true := by
  decide +kernel

theorem test_answers_faults :
    answers shop
      [(.setPolicy 0 true true 0 0 0, .range), (.setPolicy 9 true true 0 0 0, .range), (.setPolicy 1 true true 16 8 0, .range),
       (.setPolicy 1 true true 15 8 1023, .ok), (.setPolicy 1 false false 0 255 0, .ok), (.setPolicy 1 true true 0 7 0, .range),
       (.setPolicy 1 true true 0 256 0, .range), (.setPolicy 1 true true 0 8 1024, .range),
       (.setPolicy 2 true true 0 0 1, .range), (.setPolicy 2 true true 0 1 0, .range), (.setPolicy 2 true true 0 1001 1, .range),
       (.setPolicy 2 true true 0 1000 256, .range), (.setPolicy 2 true true 0 1 1, .ok), (.setPolicy 2 true true 0 1000 255, .ok),
       (.setPolicy 3 true true 0 1024 1, .range), (.setPolicy 3 true true 0 0 0, .range), (.setPolicy 3 true true 0 0 256, .range),
       (.setPolicy 3 true true 0 0 1, .ok), (.setPolicy 3 true true 0 1023 255, .ok), (.setPolicy 4 false false 15 9 9, .ok),
       (.setPolicy 5 false true 0 0 0, .range), (.setPolicy 5 true true 15 0 0, .ok), (.setPolicy 8 true false 0 0 0, .range),
       (.setPolicy 8 true true 0 0 0, .ok), (.setPolicy 6 true true 1 0 0, .range), (.setPolicy 6 true true 0 0 0, .ok),
       (.addDefect 64 0 0 0 0, .range), (.addDefect 91 0 0 0 0, .range), (.addDefect 65 8192 0 0 0, .range),
       (.addDefect 65 0 0 0 8192, .range), (.addDefect 65 1 2 8191 8191, .duplicate), (.addDefect 90 5 5 0 0, .duplicate),
       (.addDefect 65 8191 8191 8191 8191, .ok), (.addDefect 90 0 0 1 0, .ok), (.removeDefect 128, .range),
       (.removeDefect 127, .ok), (.removeDefect 126, .notFound), (.adoptDefect 1024, .range), (.adoptDefect 1023, .notFound),
       (.adoptDefect 3, .notFound), (.adoptDefect 1, .ok), (.senseFaults, .ok), (.senseCustody, .ok), (.setMask 0xFFFF, .ok)] =
      true := by decide +kernel

/-- A map with all 128 entries in use, and one with the site of clip 1 in it. -/
def fullMap : Part :=
  { shop with fault := { shop.fault with defects := (List.range 128).map fun i => (i, ⟨65, i, 0, 8191, 8191, 0⟩) } }

theorem test_answers_full :
    answers fullMap [(.addDefect 65 3 4 8191 8191, .tableFull), (.adoptDefect 1, .tableFull)] = true ∧
      answers { shop with fault := { shop.fault with defects := [(0, ⟨65, 3, 4, 8191, 8191, 0⟩)] } }
        [(.adoptDefect 1, .duplicate)] = true ∧
      answers { shop with looks := (List.range 64).map fun i => (i, look1 0 0 0 none 0) }
        [(.createLook (List.replicate 8 65) none, .tableFull)] = true ∧
      answers { shop with render := { shop.render with queue := List.replicate 16 ⟨1, 0, none, 1⟩ } }
        [(.enqueueRender 0 none 1, .queueFull)] = true := by decide +kernel

theorem test_answers_copies :
    answers shop
      [(.verifyCopy 1024 0, .range), (.verifyCopy 1 8, .range), (.verifyCopy 1023 0, .notFound), (.verifyCopy 1 7, .notFound),
       (.verifyCopy 6 2, .notPresent), (.verifyCopy 1 0, .accepted), (.verifyCopy 1 3, .accepted), (.recopy 1024 0, .range),
       (.recopy 0 8, .range), (.recopy 3 0, .notFound), (.recopy 0 6, .notFound), (.recopy 0 2, .notPresent),
       (.recopy 0 1, .readonly), (.recopy 0 3, .readonly), (.recopy 0 0, .wrongState), (.recopy 1 0, .wrongState),
       (.recopy 6 0, .copyListFull), (.recopy 1023 0, .accepted), (.setVerifyMode 8 0, .range), (.setVerifyMode 0 2, .range),
       (.setVerifyMode 6 1, .notFound), (.setVerifyMode 7 1, .ok), (.setVerifyMode 0 0, .ok), (.setRole 8 0, .range),
       (.setRole 0 2, .range), (.setRole 6 0, .notFound), (.setRole 1 0, .inUse), (.setRole 7 1, .ok), (.setRole 7 0, .ok),
       (.eject 8, .range), (.eject 6, .notFound), (.eject 7, .wrongState), (.eject 0, .ok), (.retireVolume 8, .range),
       (.retireVolume 6, .notFound), (.retireVolume 0, .inUse), (.retireVolume 1, .inUse), (.retireVolume 7, .ok)] = true := by
  decide +kernel

/-- The clauses that need a lane at work, a source that is gone, or a volume free of copies. -/
theorem test_answers_copies_more :
    answers (shop.modDest 0 fun r => { r with explicit := some (.verify ⟨1, 0, .written, 0, 0, 0⟩) })
        [(.verifyCopy 1 0, .busy), (.recopy 1023 0, .busy), (.eject 0, .inUse)] = true ∧
      answers (shop.modDest 0 fun r => { r with term := { r.term with unsensed := true } })
        [(.verifyCopy 1 0, .unsensed), (.recopy 1023 0, .unsensed)] = true ∧
      answers (shop.modReader 0 fun r => { r with state := .equipment }) [(.recopy 1023 0, .noSource)] = true ∧
      answers { shop with clips := [] } [(.setRole 0 1, .ok), (.setRole 0 0, .ok)] = true := by decide +kernel

theorem test_answers_units :
    answers shop
      [(.setLaneMode 5 1, .ok), (.setLaneMode 0 0, .ok), (.setLaneMode 6 0, .range), (.setLaneMode 0 2, .range),
       (.setLaneTimingReader 5 255 7 7, .ok), (.setLaneTimingReader 6 0 0 0, .range), (.setLaneTimingReader 0 256 0 0, .range),
       (.setLaneTimingReader 0 0 8 0, .range), (.setLaneTimingReader 0 0 0 8, .range),
       (.setLaneTimingDestination 3 255 7, .ok), (.setLaneTimingDestination 4 0 0, .range),
       (.setLaneTimingDestination 0 256 0, .range), (.setLaneTimingDestination 0 0 8, .range), (.resetUnit 0, .ok),
       (.resetUnit 3, .ok), (.resetUnit 4, .ok), (.resetUnit 9, .ok), (.resetUnit 10, .range), (.resetUnit 11, .range),
       (.resetUnit 12, .ok), (.resetUnit 13, .ok), (.resetUnit 14, .ok), (.resetUnit 15, .range), (.senseUnit 0, .ok),
       (.senseUnit 3, .ok), (.senseUnit 4, .ok), (.senseUnit 9, .ok), (.senseUnit 10, .range), (.senseUnit 11, .range),
       (.senseUnit 12, .ok), (.senseUnit 13, .ok), (.senseUnit 14, .ok), (.senseUnit 15, .range)] = true := by decide +kernel

theorem test_answers_looks :
    answers shop
      [(.createLook (List.replicate 8 0x7E) none, .ok), (.createLook (List.replicate 8 0x20) (some 63), .ok),
       (.createLook (List.replicate 8 0x1F) none, .range), (.createLook (List.replicate 8 0x7F) none, .range),
       (.createLook (List.replicate 8 65) (some 64), .range), (.createLook (List.replicate 8 65) (some 0), .inUse),
       (.retireLook 64, .range), (.retireLook 63, .notFound), (.retireLook 5, .inUse), (.retireLook 2, .inUse),
       (.retireLook 0, .ok), (.stageParameter 64 0 0, .range), (.stageParameter 0 12 0, .range),
       (.stageParameter 0 0 4097, .range), (.stageParameter 0 0 (-1), .range), (.stageParameter 0 0 4096, .committed),
       (.stageParameter 0 3 (-1024), .committed), (.stageParameter 0 5 1025, .range), (.stageParameter 0 6 255, .range),
       (.stageParameter 0 8 256, .committed), (.stageParameter 0 9 0, .committed), (.stageParameter 0 10 129, .range),
       (.stageParameter 0 10 (-128), .committed), (.stageParameter 0 11 3, .committed), (.stageParameter 0 11 4, .range),
       (.stageParameter 63 0 0, .notFound), (.stageParameter 1 0 0, .staged), (.stageParameter 3 0 0, .stagedHeld),
       (.setCommitMask 64 0, .range), (.setCommitMask 0 0x1000, .range), (.setCommitMask 0 0x8000, .range),
       (.setCommitMask 63 0, .notFound), (.setCommitMask 0 0x0FFF, .ok), (.commitLook 64, .range), (.commitLook 63, .notFound),
       (.commitLook 0, .committed), (.commitLook 1, .committed), (.commitLook 2, .committed), (.commitLook 3, .lookHeld),
       (.commitLook 4, .committed), (.discardStaging 64, .range), (.discardStaging 63, .notFound), (.discardStaging 3, .ok)] =
      true := by decide +kernel

theorem test_answers_pictures :
    answers shop
      [(.enqueueRender 1024 none 1, .range), (.enqueueRender 0 none 8, .range), (.enqueueRender 0 (some 64) 1, .range),
       (.enqueueRender 3 none 1, .notFound), (.enqueueRender 0 none 6, .notFound), (.enqueueRender 0 (some 63) 1, .notFound),
       (.enqueueRender 0 none 0, .wrongRole), (.enqueueRender 0 (some 5) 1, .ok), (.cancelRender 0, .notFound),
       (.cancelRender 1, .ok), (.cancelRender 65535, .notFound), (.bindPreview 2 0 none, .range),
       (.bindPreview 0 1024 none, .range), (.bindPreview 0 0 (some 64), .range), (.bindPreview 0 3 none, .notFound),
       (.bindPreview 0 0 (some 63), .notFound), (.bindPreview 0 1 none, .ok), (.bindPreview 0 1023 none, .ok),
       (.bindPreview 1 2 none, .ok), (.unbindPreview 2, .range), (.unbindPreview 0, .ok), (.unbindPreview 1, .ok),
       (.play 2 true, .range), (.play 0 true, .wrongState), (.play 1 true, .ok), (.play 1 false, .ok), (.pause 2, .range),
       (.pause 0, .wrongState), (.pause 1, .ok), (.seek 2 0, .range), (.seek 0 0, .wrongState), (.seek 1 0, .ok),
       (.seek 1 1, .range), (.readScope 2, .range), (.readScope 0, .ok), (.readScope 1, .ok)] = true := by decide +kernel

/-- A channel that has lost its source, one that plays, one with an unsensed termination, and a render under way. -/
theorem test_answers_pictures_more :
    answers (shop.modChannel 1 fun c => { c with state := .noSource })
        [(.play 1 true, .wrongState), (.pause 1, .wrongState), (.seek 1 0, .ok), (.seek 1 1, .range)] = true ∧
      answers (shop.modChannel 1 fun c => { c with state := .playing })
        [(.play 1 true, .ok), (.pause 1, .ok), (.seek 1 0, .ok)] = true ∧
      answers (shop.modChannel 1 fun c => { c with term := { c.term with unsensed := true } })
        [(.bindPreview 1 0 none, .unsensed), (.play 1 true, .unsensed)] = true ∧
      answers { shop with render := { shop.render with
          active := some ⟨2, 1, 0, 1, none, 0, FrameAcc.start, 0, 0, 0, 0, [], false⟩ } } [(.cancelRender 2, .ok)] = true := by
  decide +kernel

/-! ### The hypotheses of the statements, clause by clause

A request statement's premise `Dispatched` is met at `asked p i` for every part and request (`test_asked_dispatched`); the
theorems below meet its other hypotheses at `p`, at the edges of the ranges. -/

theorem test_hypotheses_step :
    ({ State.reset with pending := [.portDone false] } : State).pending = .portDone false :: [] ∧ State.reset.pending = [] ∧
      exec .powerOnReset State.reset = .next State.reset ∧
      step { State.reset with pending := [.portDone false] } = .next State.reset ∧
      State.reset.port.Sized ∧ State.reset.part.Tidy ∧ State.reset.part.VectorTrue ∧ shop.Bounded := by
  refine ⟨rfl, rfl, rfl, rfl, ⟨List.length_replicate, List.length_replicate⟩, ⟨rfl, rfl, rfl, rfl, rfl, rfl, rfl⟩, ?_, ?_⟩
  · unfold Part.VectorTrue; decide +kernel
  · unfold Part.Bounded; decide +kernel

/-- The port with a request in its buffer. -/
def ready (bs : List Byte) : State := { State.reset with port := { Port.reset with request := padTo 64 bs } }

def resultState : State := { State.reset with port := { Port.reset with state := .result, collision := true } }

theorem test_hypotheses_port :
    (ready [0xB1, 1, 2, 4]).port.state = .idle ∧
      decodeEnvelope (ready [0xB1, 1, 2, 4]).port.request = .request .senseCustody ∧
      decodeEnvelope (ready [0x00]).port.request = .unknown ∧ decodeEnvelope (ready [0xB1, 0, 0, 3]).port.request = .malformed 3 ∧
      resultState.port.state = .result ∧ resultState.port.state ≠ .idle ∧ resultState.port.collision = true ∧
      (asked shop .senseCustody).port.state = .busy ⟨0, 0, 0, .senseCustody⟩ ∧
      63 < (ready []).port.request.length ∧ (0 ≤ 63 ∧ 63 < 63 + [(1 : Byte)].length) ∧
      exec (.portDone false) (asked shop .senseCustody) =
        .next { (asked shop .senseCustody) with port := { (asked shop .senseCustody).port with collision := true } } ∧
      (Instr.portDone false).isReset = false ∧ (Instr.portDone false).clearsCollision = false ∧
        (Instr.portGo true true).clearsCollision = true ∧ (Instr.portDone false).isPortOnly = true ∧
      (Instr.arrivalNotice 0).isLink = true ∧ Instr.senseCustody.isRequest = true ∧ Instr.senseCustody.writesSettings = false := by
  refine ⟨rfl, by decide +kernel, by decide +kernel, by decide +kernel, rfl, by decide, rfl, rfl, by decide, by decide, rfl,
    rfl, rfl, rfl, rfl, rfl, rfl, rfl⟩

/-- A request that is withdrawn, one that is refused, one that only reads. -/
theorem test_hypotheses_refusals :
    (∀ d, ¬ Dispatched State.reset d .senseCustody) ∧ Instr.isQuery (.listCards 0 none) = true ∧
      Instr.isRequest (.startOffload 32) = true ∧ answerCode shop (.startOffload 32) = 15 ∧
      answerCode shop (.listCards 0 none) = 0 := by
  refine ⟨fun d h => ?_, rfl, rfl, by decide +kernel, by decide +kernel⟩
  have h1 : PortState.idle = .busy d := h.1
  cases h1

theorem test_hypotheses_attention :
    (shop.formVector = 1 + 2 ∧ shop.sourcePending 3 = true ∧ shop.attention.mask.getLsbD 3 = false ∧ (3 : Nat) < 15) ∧
      Part.reset.formVector = 15 ∧ ({ shop with attention := { shop.attention with mask := BitVec.allOnes 15 } } : Part).formVector = 15 := by
  decide +kernel

theorem test_hypotheses_lookups :
    (shop.card 31).isSome = true ∧ shop.card 30 = none ∧ (shop.cards.find? fun e => e.2.id == id1 12).isSome = true ∧
      (shop.cards.find? fun e => e.2.id == id1 13) = none ∧ (shop.clip 1023).isSome = true ∧ shop.clip 3 = none ∧
      (shop.clips.filter fun e => e.2.name == (clip1 0).name).length = 4 ∧ (shop.clips.filter fun e => e.2.name == []) = [] ∧
      (shop.volume 7).isSome = true ∧ shop.volume 6 = none ∧ shop.look 63 = none ∧ (shop.look 5).isSome = true ∧
      faultKindOf 1 = some .stuckSite ∧ faultKindOf 8 = some .headerMismatch := by decide +kernel

theorem test_hypotheses_pages :
    pageOf 2 [(0, [1]), (3, [2]), (9, [3])] = [9, 0, 1, 2] ∧ pageOf 3 [(0, [1]), (3, [2]), (9, [3])] = [255, 255, 1, 2, 3] ∧
      [(0, [(1 : Byte)]), (3, [2]), (9, [3])] = [(0, [1]), (3, [2])] ++ (9, [3]) :: [] ∧
      (twf 32 shop.cards = true ∧ nextCard shop.cards [] = none ∧ nextCard shop.cards [(3, [1])] = some 4 ∧
        nextCard shop.cards [(10, [1])] = some 31 ∧ nextCard shop.cards [(31, [1])] = none) := by decide +kernel

theorem test_hypotheses_plans :
    (PlanFits (plan1 4 [0, 1, 2, 7] 4) ∧ PlanKnown shop (plan1 4 [0, 1, 2, 7] 4)) ∧
      (PlanFits (plan1 1 [6, 0, 0, 0] 1) ∧ ¬ PlanKnown shop (plan1 1 [6, 0, 0, 0] 1)) ∧
      (¬ PlanFits (plan1 0 [0, 1, 2, 7] 1) ∧ ¬ PlanFits (plan1 5 [0, 1, 2, 7] 1) ∧ ¬ PlanFits (plan1 1 [8, 0, 0, 0] 1) ∧
        ¬ PlanFits (plan1 2 [0, 0, 0, 0] 1) ∧ ¬ PlanFits (plan1 1 [0, 0, 0, 0] 2)) ∧
      shop.card 30 = none ∧ (shop.card 0).map (·.state) = some .ready ∧ (shop.card 1).map (·.state) = some .held ∧
      (shop.card 2).map (·.state) = some .tripped := by
  unfold PlanFits PlanKnown; decide +kernel

/-- Each case of the evaluation: the cards of `shop`, and one HELD with its only clip waived. -/
theorem test_hypotheses_evaluation :
    ((shop.card 1).map fun c => (c.state, shop.secure c)) = some (.held, true) ∧
      ((shop.card 3).map fun c => (c.state, shop.secure c)) = some (.secured, true) ∧
      (shop.secure (card1 1 .secured none [0]) = false ∧ shop.secure (card1 1 .held none [0]) = false ∧
        shop.secure (card1 1 .offloading none []) = false) ∧
      (shop.card 2).map (·.state) = some .tripped ∧
      (let copy (v : Nat) (st : CopyState) : Clip := { clip1 0 with copies := [⟨v, st, .offload⟩] }
       shop.countedCopies (copy 0 .verified) = 1 ∧ shop.countedCopies (copy 3 .verified) = 1 ∧
         shop.countedCopies (copy 0 .written) = 0 ∧ shop.countedCopies (copy 1 .verified) = 0 ∧
         shop.countedCopies (copy 2 .verified) = 0 ∧ shop.countedCopies (copy 6 .verified) = 0) := by decide +kernel

/-- Start Offload, Erase Card, Clear Trip, Release, Retire: the card, its lane and the lane's state for each clause. -/
theorem test_hypotheses_cards :
    (shop.card 30 = none ∧ (shop.card 1).map (·.lane) = some none ∧ (shop.card 2).map (·.lane) = some (some 1) ∧
        (shop.reader 1).state ≠ .bound) ∧
      ((shop.card 10).map (·.lane) = some (some 5) ∧ (shop.reader 5).state = .bound ∧ (shop.reader 5).serves = none ∧
        (shop.reader 5).term.unsensed = true) ∧
      ((shop.card 7).map (fun c => (c.state, c.lane, shop.planPasses c.plan)) = some (.held, some 4, false) ∧
        (shop.reader 4).state = .bound ∧ (shop.reader 4).term.unsensed = false) ∧
      ((shop.card 0).map (fun c => (c.state, c.lane, shop.planPasses c.plan)) = some (.ready, some 0, true) ∧
        (shop.reader 0).state = .bound ∧ (shop.reader 0).serves = none ∧ (shop.reader 0).term.unsensed = false) ∧
      (shop.card 4).map (·.state) = some .released := by decide +kernel

theorem test_hypotheses_cards_more :
    ((shop.card 5).map (·.state) = some .offloading ∧ shop.offloadLane 5 = some 3 ∧
        (shop.reader 3).offload = some (offload1 5) ∧ (offload1 5).done = none) ∧
      ((shop.card 6).map (fun c => (c.state, c.lane)) = some (.tripped, none)) ∧
      ((shop.card 4).map (fun c => (c.state, c.erased, c.lane, c.writeProtected, shop.cardInUse c)) =
        some (.released, false, some 2, false, true)) ∧
      ((shop.card 8).map (·.erased) = some true ∧ (shop.card 9).map (fun c => (c.state, shop.cardInUse c)) = some (.released, false)) := by
  decide +kernel

theorem test_hypotheses_clips :
    (shop.clip 3 = none ∧ (shop.clip 4).map shop.cardDecided = some true ∧ (shop.clip 1023).map shop.cardDecided = some false ∧
        (shop.clip 2).map (fun c => (shop.cardDecided c, c.custody)) = some (false, .waived .host) ∧
        (shop.clip 0).map (·.custody) = some .normal) ∧
      (shop.look 63 = none ∧ shop.look 0 ≠ none ∧ shop.cameraOf 66 = none ∧ (shop.cameraOf 65).map (·.1) = some 0 ∧
        (shop.cameraOf 90).map (·.1) = some 7) ∧
      ((∃ e ∈ shop.cards, e.2.id.letter = 65) ∧ ∀ e ∈ shop.cards, e.2.id.letter ≠ 90) ∧
      ((some 5 : Option Nat) ≠ none ∧ (5 : Nat) ≠ 0 ∧ shop.look 5 ≠ none) := by decide +kernel

theorem test_hypotheses_faults :
    ((shop.clip 1).bind (fun c => c.faultWith .stuckSite 0)).map (·.state) = some .opened ∧
      ((shop.clip 1).bind (fun c => c.faultWith .frameGap 0)).map (·.state) = some .acknowledged ∧
      ((shop.clip 1).bind (fun c => c.faultWith .copyMismatch 7)).map (·.state) = some .opened ∧
      (shop.clip 1).map (fun c => c.faultWith .headerMismatch 0) = some none ∧ (shop.clip 0).map (·.faults) = some [] ∧
      ((shop.clip 1).bind (fun c => (c.faultWith .stuckSite 0).bind (·.firstSite))) = some (3, 4) ∧
      ((shop.clip 1023).bind (fun c => (c.faultWith .stuckSite 0).bind (·.firstSite))) = none ∧
      (shop.policy .frameGap).holds = true := by decide +kernel

/-- A clip with four COPY_MISMATCH entries, on volumes 1 to 4. -/
def crowdedClip (st : FaultState) (copies : List Copy) : Clip :=
  { clip1 0 with copies := copies, faults := [fault1 .copyMismatch 1 .opened, fault1 .copyMismatch 2 st,
      fault1 .copyMismatch 3 st, fault1 .copyMismatch 4 .opened] }

def raise1 (k : FaultKind) (v : Nat) : Raise :=
  { kind := k, vol := v, count := 1, saturated := false, firstFrame := none, firstSite := none, detail := none }

/-- The merge with each way of displacing, and a raise that is discarded (R111, R112). -/
theorem test_hypotheses_merges :
    ((shop.volume 6 = none ∧ shop.clip 3 = none ∧ shop.volume 7 ≠ none) ∧
        ((clip1 0).opens (raise1 .copyMismatch 7) = true ∧
          (crowdedClip .opened []).opens (raise1 .copyMismatch 1) = false)) ∧
      ((crowdedClip .opened []).faultWith .copyMismatch 7 = none ∧
        ((crowdedClip .opened []).faults.filter fun f => f.kind == .copyMismatch).length = 4) ∧
      ((crowdedClip .opened []).displaced = some 1 ∧ (crowdedClip .acknowledged []).displaced = some 2 ∧
        (crowdedClip .acknowledged [⟨2, .written, .offload⟩]).displaced = some 3 ∧
        (crowdedClip .opened ([1, 2, 3, 4].map fun v => ⟨v, .written, .offload⟩)).displaced = none) ∧
      (crowdedClip .opened []).faults.Pairwise (fun f g => keyBefore f.kind f.vol g.kind g.vol = true) := by
  decide +kernel

theorem test_hypotheses_defects :
    (∀ m, m < 128 → tget fullMap.fault.defects m ≠ none) ∧
      (¬ ∃ e ∈ fullMap.fault.defects, e.2.letter = 65 ∧ e.2.x = 3 ∧ e.2.y = 4 ∧ e.2.xmask = 8191 ∧ e.2.ymask = 8191) ∧
      (∃ e ∈ shop.fault.defects, e.2.letter = 65 ∧ e.2.x = 1 ∧ e.2.y = 2 ∧ e.2.xmask = 8191 ∧ e.2.ymask = 8191) ∧
      ((1 : Nat) < 128 ∧ tget shop.fault.defects 1 = none ∧ ∀ m, m < 1 → tget shop.fault.defects m ≠ none) ∧
      tget shop.fault.defects 127 ≠ none ∧ tget shop.fault.defects 126 = none := by decide +kernel

theorem test_hypotheses_copies :
    (shop.copyState 1 0 = some .written ∧ shop.copyState 1 3 = some (.failed .digest) ∧ shop.copyState 1023 0 = none ∧
        (shop.volume 0).map (fun r => (r.role, r.attach, r.lane)) = some (.archive, .online, some 0) ∧
        (shop.volume 2).map (fun r => (r.attach, r.lane)) = some (.detached, none)) ∧
      ((shop.dest 0).explicit = none ∧ (shop.dest 0).term.unsensed = false ∧ (shop.dest 0).state ≠ .full) ∧
      ((shop.clip 1023).map (fun c => (c.ingestDigest, c.copyOn 0)) = some (some 1, none) ∧
        shop.recopySource 1023 0 = some (.card 0 0) ∧ shop.recopySource 5 0 = none ∧
        (let p := shop.modClip 1 fun c => { c with copies := [⟨0, .verified, .offload⟩, ⟨3, .verified, .offload⟩] }
         p.recopySource 1 0 = some (.volume 3) ∧ p.recopySource 1 7 = some (.volume 0)) ∧ (shop.clip 6).map (·.copies.length) = some 4) ∧
      (shop.entriesOn 7 = [] ∧ shop.proxiesOn 7 = 0 ∧ shop.targeted 7 = false ∧ shop.targeted 1 = true ∧
        shop.entriesOn 0 ≠ [] ∧ shop.ejectHeld 0 0 = false ∧ shop.cardsOn 7 = 0 ∧ 0 < shop.cardsOn 0) ∧
      (shop.volumeLane 0 = some 0 ∧ (shop.clip 1).bind (·.copyOn 0) ≠ none ∧ (shop.clip 0).bind (·.copyOn 0) = none) := by
  decide +kernel

theorem test_hypotheses_looks :
    ((shop.look 0).map (fun k => decide (k.staging = k.live.values)) = some true ∧
        (shop.look 1).map (fun k => (decide (k.staging = k.live.values), k.held, k.live.pins, k.mask.getLsbD 0)) =
          some (false, none, 0, false) ∧
        (shop.look 2).map (fun k => (decide (k.staging = k.live.values), k.held, k.live.pins)) = some (false, none, 1) ∧
        (shop.look 3).map (fun k => (decide (k.staging = k.live.values), k.held, k.mask.getLsbD 0)) =
          some (false, some slot1, true) ∧
        (shop.look 4).map (fun k => (decide (k.staging = k.live.values), k.held)) = some (true, some slot1)) ∧
      ((shop.look 0).map (fun k => (k.refClips + k.refCameras + k.refRenders + k.refChannels, k.pinned)) = some (0, false) ∧
        (shop.look 5).map (·.refClips) = some 2 ∧ (shop.look 2).map (·.pinned) = some true) ∧
      (∀ m, m < 6 → shop.look m ≠ none) ∧ shop.look 6 = none ∧ shop.look 63 = none ∧
      nextVersion 65534 = 65535 ∧ nextVersion 65535 = 1 := by decide +kernel

theorem test_hypotheses_pictures :
    ((shop.volume 1).map (·.role) = some .proxy ∧ shop.render.queue.length < 16 ∧ (shop.volume 0).map (·.role) = some .archive) ∧
      ((∃ e ∈ shop.render.queue, e.tag = 2) ∧ (∀ e ∈ shop.render.queue, e.tag ≠ 0) ∧ shop.render.active = none ∧
        shop.render.takeTag = 3) ∧
      ((shop.channel 0).state = .idle ∧ (shop.channel 0).term.unsensed = false ∧ (shop.channel 1).state = .paused ∧
        (shop.channel 1).atLast = true ∧ shop.boundFrames 1 = 1) ∧
      (shop.selectSource 1 none = some (.volume 0) ∧ shop.selectSource 0 none = some (.card 0) ∧ shop.selectSource 2 none = none) ∧
      ((shop.channel 1).shown = some (frame1 true) ∧ (shop.channel 1).next = none ∧ (shop.channel 1).armed = false ∧
        (shop.channel 0).shown = none) ∧
      (let ch := (shop.modChannel 1 fun c => { c with state := .playing, next := some (frame1 false) }).channel 1
       ch.state = .playing ∧ ch.next = some (frame1 false) ∧ ch.shown = some (frame1 true)) ∧
      (let ch := (shop.modChannel 1 fun c => { c with state := .playing, armed := true }).channel 1
       ch.state = .playing ∧ ch.next = none ∧ ch.armed = true ∧ ch.shown = some (frame1 true)) ∧
      ((frame1 true).picture.codes ≠ [] ∧ shop.render.queue.length ≤ 16) := by decide +kernel

/-! ### The link statements -/

theorem test_hypotheses_presence :
    ((Part.reset.reader 0).state = .noReader) ∧
      ((shop.reader 1).state = .empty ∧ (shop.reader 1).slotPresent = false ∧ (shop.reader 1).term.unsensed = false) ∧
      (let r := (shop.modReader 1 fun r => { r with term := { r.term with unsensed := true } }).reader 1
       r.state = .empty ∧ r.slotPresent = false ∧ r.term.unsensed = true) ∧
      ((shop.modReader 0 fun r => { r with state := .equipment }).reader 0).state ≠ .empty ∧
      (let p := shop.modReader 1 fun r => { r with state := .refused, slotPresent := true, slotCount := 255 }
       let p := p.modCard 2 fun c => { c with lane := none }
       (p.reader 1).slotPresent = true ∧ (p.reader 1).slotLocked = false ∧ (p.reader 1).slotCount = 255 ∧
         p.boundCard 1 = none) ∧
      (let p := shop.modReader 0 fun r => { r with slotPresent := true, slotCount := 255 }
       (p.reader 0).slotPresent = true ∧ (p.reader 0).slotLocked = false ∧ (p.reader 0).slotCount = 255 ∧
         (0 : Byte) ≠ (p.reader 0).slotCount ∧ p.boundCard 0 = some 0) ∧
      ((shop.modReader 0 fun r => { r with out := some ⟨9, .presence, .presence, none⟩ }).reader 0).out =
        some ⟨9, .presence, .presence, none⟩ := by decide +kernel

/-- A reader lane with a request outstanding. -/
def reading (q : ReaderRequest) (w : ReaderOwner) (timer : Option Nat) : Part :=
  shop.modReader 0 fun r => { r with out := some ⟨9, q, w, timer⟩ }

def goodBlock : Block := { header := [], payload := [], check := checkOver [] [] Config.payloadBytes }

theorem test_hypotheses_reader :
    ((reading (.step (.block 1)) .offload none).reader 0).out = some ⟨9, .step (.block 1), .offload, none⟩ ∧
      (goodBlock.computedCheck = goodBlock.check ∧ ({ goodBlock with check := 0 } : Block).computedCheck ≠ 0) ∧
      ((reading .presence .presence (some 1)).reader 0).out = some ⟨9, .presence, .presence, some 1⟩ ∧
      ((reading (.reinit (.block 1)) .mount (some 1)).reader 0).out = some ⟨9, .reinit (.block 1), .mount, some 1⟩ ∧
      ((reading (.step (.erase (.run 1 1))) .erase (some 1)).reader 0).out =
        some ⟨9, .step (.erase (.run 1 1)), .erase, some 1⟩ ∧
      (((reading (.step (.erase .header)) .erase none).modReader 0 fun r => { r with erase := some ⟨0, .header, 4⟩ }).reader
        0).erase = some ⟨0, .header, 4⟩ ∧
      ((reading (.step (.block 1)) (.recopy 3) (some 1)).reader 0).out = some ⟨9, .step (.block 1), .recopy 3, some 1⟩ ∧
      ((reading (.step (.block 1)) (.preview 1) (some 1)).reader 0).out = some ⟨9, .step (.block 1), .preview 1, some 1⟩ ∧
      (shop.reader 0).out = none := by
  decide +kernel

/-- The retry clauses, at the first failure, between and at the limits, and with a limit of 0. -/
theorem test_hypotheses_retries :
    let at' (used kept limit fails : Nat) : ReaderLane :=
      (shop.modReader 0 fun r => { r with retries := used, readLimit := kept, retryLimit := limit, reinitFails := fails }).reader 0
    ((at' 0 0 1 0).retries = 0 ∧ 0 < (at' 0 0 1 0).retryLimit) ∧
      (0 < (at' 1 3 2 0).retries ∧ (at' 1 3 2 0).retries < (at' 1 3 2 0).readLimit) ∧
      ((at' 0 0 0 0).retries = 0 ∧ (at' 0 0 0 0).retryLimit = 0) ∧
      (0 < (at' 2 2 7 0).retries ∧ (at' 2 2 7 0).readLimit ≤ (at' 2 2 7 0).retries) ∧
      (at' 0 0 0 0).reinitFails = 0 ∧ 1 ≤ (at' 0 0 0 1).reinitFails := by decide +kernel

/-- R43: a limit set above the retries used leaves a read in its procedure its old one, a limit they reach replaces it. -/
theorem test_retime :
    let at' (used retry : Nat) : Nat :=
      (({ shop.reader 0 with retries := used, readLimit := 3 } : ReaderLane).retime 100 3 retry).readLimit
    at' 1 2 = 3 ∧ at' 2 2 = 2 ∧ at' 3 2 = 2 ∧ at' 0 0 = 0 ∧ at' 1 7 = 3 := by decide +kernel

/-- A destination lane with a request outstanding. -/
def sent (d : Fin 4) (q : VolumeRequest) (timer : Option Nat) : Part :=
  shop.modDest d fun r => { r with out := some ⟨9, q, timer⟩ }

theorem test_hypotheses_volumes :
    ((shop.dest 3).state = .empty ∧ (shop.dest 3).present = false ∧ (shop.dest 3).term.unsensed = true ∧
        shop.boundVolume 3 = none) ∧
      ((Part.reset.dest 3).state = .empty ∧ (Part.reset.dest 3).term.unsensed = false ∧ (Part.reset.dest 3).out = none) ∧
      ((shop.dest 0).state = .online ∧ (shop.dest 0).state ≠ .empty ∧ shop.boundVolume 0 = some 0) ∧
      ((shop.modDest 0 fun r => { r with state := .full }).dest 0).state = .full ∧
      ((shop.dest 2).state ≠ .online ∧ (shop.dest 2).state ≠ .full ∧ shop.boundVolume 2 = some 3) := by decide +kernel

theorem test_hypotheses_identify :
    (((sent 3 .identify none).dest 3).out = some ⟨9, .identify, none⟩ ∧ (sent 3 .identify none).boundVolume 3 = none) ∧
      ((shop.volumes.find? fun e => e.2.label == List.replicate 16 0x41 && e.2.serial == 7).map fun e => (e.1, e.2.lane)) =
        some (2, none) ∧
      ((shop.volumes.find? fun e => e.2.label == List.replicate 16 0x41 && e.2.serial == 5).map fun e => (e.1, e.2.lane)) =
        some (0, some 0) ∧
      (shop.volumes.find? fun e => e.2.label == List.replicate 16 0x41 && e.2.serial == 1) = none ∧
      tfree shop.volumes 8 = some 4 ∧
      tfree ((List.range 8).map fun i => (i, vol1 .archive none .detached)) 8 = none := by decide +kernel

def key1 : CopyKey := { id := id1 1, number := 1, proxy := false }

theorem test_hypotheses_volumeAnswers :
    ((sent 0 (.write .late key1 0 (.copy goodBlock)) (some 1)).dest 0).out =
        some ⟨9, .write .late key1 0 (.copy goodBlock), some 1⟩ ∧
      (sent 0 (.write .late key1 0 (.copy goodBlock)) none).boundVolume 0 = some 0 ∧
      (sent 3 (.write .late key1 0 (.copy goodBlock)) none).boundVolume 3 = none ∧
      ((sent 0 (.read .dropped key1 0) (some 1)).dest 0).out = some ⟨9, .read .dropped key1 0, some 1⟩ ∧
      ((sent 0 (.release key1) (some 1)).dest 0).out = some ⟨9, .release key1, some 1⟩ ∧
      ((sent 0 .eject (some 1)).dest 0).out = some ⟨9, .eject, some 1⟩ ∧
      ((sent 0 .identify (some 1)).dest 0).out = some ⟨9, .identify, some 1⟩ ∧ (shop.dest 0).out = none := by
  decide +kernel

theorem test_hypotheses_portReset :
    (∃ t : State, exec (.portReset .whole) State.reset = .next t) ∧
      (∃ t : State, exec (.portReset .port) State.reset = .next t ∧ .render ∈ t.owed ∧ .attention ∈ t.owed ∧
        (∀ x ∈ t.owed, resetStage .attention ≤ resetStage x) ∧ ∃ x ∈ t.owed, resetStage x < resetStage .render) ∧
      (∀ x ∈ [ResetBlock.render, .tables], resetStage .render ≤ resetStage x) ∧
      (shop.boundVolume 0 = some 0 ∧ shop.boundVolume 3 = none) ∧
      (ResetBlock.render ∉ State.reset.owed ∧ (shop.reader 0).serves = none ∧
        ((shop.modReader 0 fun r => { r with serves := some 3 }).reader 0).serves = some 3) ∧
      ((shop.clearReader 0).reader 0).state = .bound ∧ ((shop.portResetReader 0).reader 0).state = .empty ∧
      ((shop.portResetReader 0).reader 0).presenceOwed = true ∧
      ((Part.reset.clearReader 0).reader 0).state = .noReader ∧
      (((shop.modReader 0 fun r => { r with state := .equipment }).portResetReader 0).reader 0).state = .equipment :=
  ⟨⟨_, rfl⟩, ⟨_, rfl, by decide +kernel⟩, by decide +kernel, by decide +kernel, by decide +kernel⟩

/-- A recopy on lane 3 that reads from a volume ends without a termination at the port reset of the volume's lane, and with
one at its unit reset (R109). A render that reads there is left to the engine's own event (R91, R166). -/
theorem test_portReset_dest :
    let p := shop.modDest 3 fun r =>
      { r with explicit := some (.recopy ⟨1023, 2, .volume 0, 0, digestStart, 0⟩), term := TermSlot.none }
    let p : Part := { p with render := { p.render with
      active := some ⟨2, 1, 0, 1, none, 0, FrameAcc.start, 0, 0, 0, 0, [], false⟩ } }
    ((p.takeReset (.dest 0)).dest 3).explicit = none ∧ ((p.takeReset (.dest 0)).dest 3).term = TermSlot.none ∧
      ((p.resetDest 0).dest 3).term.unsensed = true ∧ (p.takeReset (.dest 0)).render = p.render ∧
      (p.resetDest 0).render.term.unsensed = true := by decide +kernel

/-- The control word: Done with Go from RESULT with a request in the buffer. -/
theorem test_hypotheses_control :
    let s : State :=
      { State.reset with port := { Port.reset with state := .result, request := padTo 64 [0xB1, 1, 2, 4] } }
    s.port.state = .result ∧ decodeEnvelope s.port.request = .request .senseCustody ∧
      (∃ t, exec (.portDone false) s = .next t) ∧ (∃ t, exec .collisionClear s = .next t) := by
  refine ⟨rfl, by decide +kernel, ⟨_, rfl⟩, ⟨_, rfl⟩⟩

/-- A unit reset of a lane with a volume, with none, with one not yet known; of an engine at work and one with an eligible
entry. -/
theorem test_hypotheses_unitResets :
    (((shop.boundVolume 0).map fun v => (shop.clearBound 0 v).boundVolume 0) = some (some 0) ∧
        (shop.dest 0).state = .online) ∧
      (shop.boundVolume 3 = none ∧ (shop.dest 3).state = .empty ∧ (shop.dest 3).present = false) ∧
      (let p := shop.modDest 3 fun r => { r with present := true }
       p.boundVolume 3 = none ∧ (p.dest 3).present = true) ∧
      (let p := shop.modClip 1 fun c => { c with copies := [⟨0, .verified, .offload⟩] }
       p.render.active = none ∧ p.render.queue.find? p.eligible = some ⟨2, 1, none, 1⟩ ∧
         shop.render.queue.find? shop.eligible = none) ∧
      ({ shop.render with active := some ⟨2, 1, 0, 1, none, 0, FrameAcc.start, 0, 0, 0, 0, [], false⟩ } : RenderEngine).active ≠
        none := by decide +kernel

/-! ### What the requesters make of the blocks -/

/-- A block of clip 1 of card A001 at an index, with a timecode that no frame base admits. -/
def cardBlock (index : Byte) (payload : List Byte) : Block :=
  { header := padTo 64 [0, 0, 65, 0, 1, 0, 1, 0, 7, 0, 0, 0, 0, 0, 0, 0, index, 0, 0, 0, 0, 0, 0, 0, 255, 0, 0, 0],
    payload := payload, check := 0 }

def current1 (reread : Bool) : Current :=
  { clip := 0, pos := 0, reread := reread, fanOut := [0], barred := false, digest := digestStart, next := 2 }

/-- An offload that reads clip 0, with every trip limit at `trip`. -/
def offloading (reread : Bool) (trip : Nat) : Part :=
  { (shop.modReader 3 fun r => { r with offload := some { offload1 5 with current := some (current1 reread) } }) with
    fault := { shop.fault with policy := List.replicate 8 ⟨true, true, trip, 0, 1⟩ } }

theorem test_hypotheses_offloadBlock :
    (((offloading false 0).reader 3).offload.bind (·.current) = some (current1 false) ∧
        ((offloading true 0).reader 3).offload.bind (·.current) = some (current1 true)) ∧
      ((clip1 0).headerCheck 0 (cardBlock 0 []) = true ∧ (clip1 0).headerCheck 0 (cardBlock 1 []) = false) ∧
      (((offloading false 0).analyze 3 0 { clip1 0 with rate := 1 } (cardBlock 0 []) true).2 = none ∧
        ((offloading false 1).analyze 3 0 { clip1 0 with rate := 1 } (cardBlock 0 []) true).2.isSome = true) ∧
      (decide ((clip1 0).firstBlock + (clip1 0).blockCount ≤ (current1 false).next + 1) = true ∧
        decide ((clip1 0).firstBlock + ({ clip1 0 with blockCount := 2 } : Clip).blockCount ≤ (current1 false).next + 1) =
          false) := by decide +kernel

/-- An offload that considers clip 0: stopped, at the end of its list, and with the clip as given. -/
def considering (stop : Bool) (position : Nat) (f : Clip → Clip) (skip : Bool) : Part :=
  ((shop.modReader 3 fun r => { r with offload := some { offload1 5 with stop := stop } }).modCard 5 fun c =>
    { c with clips := [0], nextPos := position, plan := { c.plan with skipMarked := skip } }).modClip 0 f

/-- What considering leaves: the current clip, clips skipped, whether the reading is done. -/
def considered (p : Part) : Option (Option Nat × Nat × Option Bool) :=
  let q := p.consider 3
  (q.reader 3).offload.bind fun x => (q.card 5).map fun c => (x.current.map (·.clip), c.skipped, x.done)

/-- What is considered: a stop, the end, a stop held at the end (log 22), a waived clip, a marked one, one with its digest and no room, one to read. -/
theorem test_hypotheses_consider :
    [considering true 0 id false, considering false 1 id false, considering true 1 id false,
      considering false 0 (fun c => { c with custody := .waived .host }) false,
      considering false 0 (fun c => { c with marked := true }) true,
      considering false 0 (fun c => { c with ingestDigest := some 1, copies := [⟨0, .written, .offload⟩] }) false,
      considering false 0 id false].map considered =
    [some (none, 0, some true), some (none, 0, some false), some (none, 0, some true), some (none, 1, some false),
      some (none, 1, some false),
      some (none, 0, some false), some (some 0, 0, none)] := by decide +kernel

theorem test_hypotheses_fanOut :
    (shop.usable 0 = true ∧ shop.usable 1 = false ∧ (clip1 0).writeClaimTaken 0 = true ∧
      ({ clip1 0 with copies := [⟨0, .written, .offload⟩] } : Clip).writeClaimTaken 0 = false) := by decide +kernel

/-- A removal in each state that ends an operation, with a recopy in BOUND. -/
theorem test_hypotheses_removal :
    ((shop.reader 1).state = .empty ∧ (Part.reset.reader 0).state = .noReader ∧ shop.boundCard 0 = some 0) ∧
      ((shop.modReader 0 fun r => { r with state := .mounting, mount := some none }).reader 0).state = .mounting ∧
      (let r := (shop.modReader 5 fun r => { r with state := .erasing, erase := some ⟨10, .header, 0⟩ }).reader 5
       r.state = .erasing ∧ r.erase = some ⟨10, .header, 0⟩) ∧
      (let p := (shop.modReader 0 fun r => { r with serves := some 0 }).modDest 0 fun r =>
         { r with explicit := some (.recopy ⟨1023, 0, .card 0 0, 0, digestStart, 0⟩) }
       (p.reader 0).state = .bound ∧ (p.reader 0).serves = some 0 ∧
         p.recopyOf 0 = some ⟨1023, 0, .card 0 0, 0, digestStart, 0⟩) ∧
      (((offloading false 0).reader 3).state = .offloading ∧
        ((offloading false 0).reader 3).offload = some { offload1 5 with current := some (current1 false) }) ∧
      (State.reset.part.attention.vector ≤ 15) := by decide +kernel

/-- Ingest: a first read with no camera digest, one that agrees, one that differs; a re-read that agrees or differs. -/
theorem test_hypotheses_ingest :
    ((clip1 0).ingestDigest = none ∧ (current1 false).reread = false ∧ (clip1 0).cameraDigest = none) ∧
      ({ clip1 0 with cameraDigest := some 1 } : Clip).cameraDigest = some (1 : BitVec 64) ∧
      ({ clip1 0 with ingestDigest := some 1 } : Clip).ingestDigest = some (1 : BitVec 64) ∧
      (current1 true).reread = true ∧ (1 : BitVec 64) ≠ 2 := by decide +kernel

def payloadBlock (payload : List Byte) : Block := { header := [], payload := payload, check := 0 }

/-- The header of a card of letter A with one clip on 100 blocks. -/
def headerBlock : Block :=
  payloadBlock
    [0x55, 0x43, 0x52, 0x44, 0, 65, 2, 0, 7, 0, 0, 0, 0, 0, 0, 0, 1, 0, 0, 0, 0, 0, 0, 0, 1, 0, 100, 0, 0, 0, 2, 0, 2]

/-- A directory of one clip, of the number given, of one block from block 2 on. -/
def dirBlock (number : Byte) : Block :=
  payloadBlock ([1, 0, 0, 0, 0, 0, 0, 0, 0, 0, 0, 0, 0, 0, 0, 0] ++ [number, 0, 0, 0, 2, 0, 0, 0, 1])

theorem test_hypotheses_mountHeader :
    (((shop.modReader 1 fun r => { r with mount := some none }).reader 1).mount = some none ∧
        ((shop.modReader 1 fun r => { r with mount := some (some headerBlock.cardHeader) }).reader 1).mount =
          some (some headerBlock.cardHeader)) ∧
      ((payloadBlock []).blankHeader = true ∧ headerBlock.blankHeader = false ∧ headerBlock.goodHeader = true ∧
        (payloadBlock [1]).blankHeader = false ∧ (payloadBlock [1]).goodHeader = false) ∧
      headerBlock.cardHeader.id = id1 2 := by decide +kernel

/-- The cases of R38, on lane 1, whose bound card is another one. -/
theorem test_hypotheses_mountDecision :
    let q := shop.unbindOther 1 (id1 2)
    ((q.cardWith (id1 2)).map (fun e => (e.1, e.2.lane, e.2.state)) = some (1, none, .held) ∧
        (q.cardWith (id1 5)).map (fun e => (e.1, e.2.lane, e.2.state)) = some (4, some 2, .released) ∧
        (q.cardWith (id1 9)).map (fun e => (e.1, e.2.lane, e.2.state)) = some (8, none, .released) ∧
        q.cardWith (id1 99) = none) ∧
      ((dirBlock 1).goodDirectory headerBlock.cardHeader = true ∧ (dirBlock 0).goodDirectory headerBlock.cardHeader = false ∧
        (payloadBlock []).erasedPattern = true ∧ (dirBlock 0).erasedPattern = false) ∧
      ((q.card 1).map (fun c => (q.sameDirectory c (dirBlock 1).dirEntries, q.sameDirectory c (dirBlock 2).dirEntries)) =
        some (true, false)) ∧
      (q.cameraOf 65 ≠ none ∧ q.cameraOf 66 = none ∧ tfree q.cameras 8 = some 1 ∧ tfree q.cards 32 = some 11 ∧
        (dirBlock 1).dirEntries.length ≤ 1024 - q.clips.length) := by decide +kernel

theorem test_hypotheses_mountFull :
    tfree ((List.range 8).map fun i => (i, (⟨66 + i, 1, none⟩ : Camera))) 8 = none ∧
      tfree ((List.range 32).map fun i => (i, card1 i .ready none [])) 32 = none ∧
      1024 - (List.range 1024).length < (dirBlock 1).dirEntries.length := by decide +kernel

theorem test_hypotheses_mountEnd :
    ((shop.card 0).map (fun c => (c.state, shop.planPasses c.plan)) = some (.ready, true) ∧ (shop.reader 0).mode = .manual ∧
        ((shop.modReader 0 fun r => { r with mode := .auto }).reader 0).mode = .auto) ∧
      ((shop.modCard 0 fun c => { c with plan := ⟨[], 0, false⟩ }).card 0).map
        (fun c => (c.state, shop.planPasses c.plan)) = some (.ready, false) := by decide +kernel

/-- Bytes that a message can carry. -/
theorem test_hypotheses_bytes :
    (List.replicate 16 (0x41 : Byte)).length = 16 ∧ (281474976710655 : Nat) < 2 ^ 48 ∧ (4294967295 : Nat) < 2 ^ 32 ∧
      (0x80 : Byte).toNat < 0x81 ∧ 0x86 < (0x87 : Byte).toNat ∧ (0x90 : Byte).toNat < 0x91 ∧ 0x99 < (0x9A : Byte).toNat ∧
      (let b : Block := ⟨List.replicate 64 0, [0, 1], 5⟩
       b.header.length = 64 ∧ b.payload.length ≤ 4194304 ∧ b.payload.getLast? ≠ some 0) := by decide +kernel

/-- A volume bound that is detached beside others; the identification after a reset, by each state before and after. -/
theorem test_hypotheses_reidentified :
    (shop.boundVolume 0 = some 0 ∧ (shop.volume 0).map (fun r => (r.label, r.serial)) = some (List.replicate 16 0x41, 5) ∧
        (shop.volume 1).isSome = true ∧ (sent 0 .identify none).boundVolume 0 = some 0) ∧
      ((shop.dest 0).state = .online ∧ (shop.dest 0).state ≠ .full ∧ (shop.dest 0).state ≠ .onlineReadonly) ∧
      ((List.replicate 16 0x41 ≠ List.replicate 16 (0x42 : Byte)) ∧ (5 : BitVec 64) ≠ 6) := by decide +kernel

def slotOf (orphan : Bool) : Slot :=
  { id := 4, lane := 3, clip := 0, key := key1, block := 2, index := 0, recopy := false, data := some goodBlock,
    writes := [⟨0, true, orphan⟩] }

theorem test_hypotheses_stored :
    (let p : Part := { shop with pool := { slots := [slotOf false], queue := [] } }
     p.slot 4 = some (slotOf false) ∧ (slotOf false).writes.find? (fun w => w.vol == 0) = some ⟨0, true, false⟩ ∧
       (slotOf true).writes.find? (fun w => w.vol == 0) = some ⟨0, true, true⟩ ∧ p.clip 0 = some (clip1 0) ∧
       (p.progressOf 0 0).written = 0 ∧ (clip1 0).blockCount ≤ 0 + 1 ∧
       0 + 1 < ({ clip1 0 with blockCount := 2 } : Clip).blockCount) ∧
      (({ clip1 0 with copies := [⟨0, .writing, .offload⟩] } : Clip).offloadWriting 0 = true ∧
        (clip1 0).offloadWriting 0 = false) ∧
      ((shop.clip 1).map (·.ingestDigest) = some (some 1) ∧ shop.copyState 1 0 = some .written ∧ shop.copyState 0 0 = none) :=
  by decide +kernel

/-- A copy changed while a render reads it, and while none does. -/
theorem test_hypotheses_handOn :
    shop.render.active = none ∧
      (let p : Part :=
        { shop with render := { shop.render with
            active := some ⟨2, 1, 0, 1, none, 0, FrameAcc.start, 0, 0, 0, 0, [], false⟩ } }
       p.render.active.map (fun x => (x.source, x.clip)) = some (0, 1)) := by decide +kernel

def verify1 (next : Nat) : VerifyCtx := { clip := 1, vol := 0, prior := .written, next := next, digest := digestStart, read := 0 }

def recopy1 (src : RecopySource) : RecopyCtx :=
  { clip := 1023, target := 0, source := src, next := 0, digest := digestStart, written := 0 }

/-- A verify of either kind and a recopy from either source, at the last block and before it. -/
theorem test_hypotheses_copyWork :
    ((shop.modDest 0 fun r => { r with explicit := some (.verify (verify1 0)) }).verifyOf 0 true = some (verify1 0) ∧
        (shop.modDest 0 fun r => { r with sweep := some (verify1 0) }).verifyOf 0 false = some (verify1 0) ∧
        (shop.clip 1).map (·.blockCount) = some 1 ∧ shop.copyState 1 0 ≠ none ∧ (shop.volume 0).isSome = true) ∧
      ((shop.modDest 0 fun r => { r with explicit := some (.recopy (recopy1 (.card 0 0))) }).recopyOf 0 =
          some (recopy1 (.card 0 0)) ∧
        (shop.modDest 0 fun r => { r with explicit := some (.recopy (recopy1 (.volume 3))) }).recopyOf 0 =
          some (recopy1 (.volume 3)) ∧
        shop.recopyOf 0 = none ∧ (shop.clip 1023).map (·.ingestDigest) = some (some 1)) ∧
      (digestFinal (digestAdd digestStart goodBlock) ≠ 1 ∧ (1 : Nat) ≤ 0 + 1) := by decide +kernel

/-- A lane that has read the header of a card of the roll given. -/
def mounting (roll : Nat) : Part :=
  shop.modReader 1 fun r =>
    { r with state := .mounting, mount := some (some { headerBlock.cardHeader with id := id1 roll }) }

/-- How mounts end: a RELEASED record with an unreadable directory and with a malformed one, a HELD one with each, a
RELEASED one in another lane, none of the identity. -/
def mounts : List Part :=
  [(mounting 9).readUnreadable 1 .mount (some 5), (mounting 9).readGood 1 .mount (dirBlock 0),
    (mounting 2).readUnreadable 1 .mount (some 5), (mounting 2).readGood 1 .mount (dirBlock 0),
    (mounting 5).readUnreadable 1 .mount (some 5), (mounting 99).readUnreadable 1 .mount none]

/-- A RELEASED record binds with an unreadable and with a malformed directory, another does not, and one in another lane is
a duplicate (R205, log 48). -/
theorem test_mount_released :
    mounts.map (fun p => ((p.reader 1).state, p.boundCard 1)) =
      [(.bound, some 8), (.bound, some 8), (.refused, none), (.refused, none), (.refused, none), (.refused, none)] ∧
    mounts.map (fun p => (p.reader 1).term.record.map fun t => (t.cause, t.counts)) =
      [some (.mounted, [0]), some (.mounted, [0]), some (.directoryUnreadable, []), some (.directoryUnreadable, [1]),
        some (.duplicatePresent, []), some (.directoryUnreadable, [])] ∧
    mounts.map (fun p => (p.reader 1).term.record.map (·.detail)) =
      [some .none, some .none, some (.code 5), some .none, some .none, some .none] := by
  decide +kernel

theorem test_hypotheses_unreadable :
    ((mounting 9).reader 1).mount = some (some { headerBlock.cardHeader with id := id1 9 }) ∧
      (∀ h, (shop.reader 1).mount ≠ some (some h)) ∧
      (let q := (mounting 9).unbindOther 1 (id1 9)
       (q.cardWith (id1 9)).map (fun e => (e.1, e.2.lane, e.2.state)) = some (8, none, .released)) ∧
      (let q := (mounting 5).unbindOther 1 (id1 5)
       (q.cardWith (id1 5)).map (fun e => (e.1, e.2.lane, e.2.state)) = some (4, some 2, .released)) ∧
      (let q := (mounting 2).unbindOther 1 (id1 2)
       (q.cardWith (id1 2)).map (fun e => (e.1, e.2.lane, e.2.state)) = some (1, none, .held)) ∧
      (let q := (mounting 99).unbindOther 1 (id1 99)
       q.cardWith (id1 99) = none) := by
  refine ⟨rfl, fun h => ?_, by decide +kernel⟩
  have h1 : (shop.reader 1).mount = none := by decide +kernel
  rw [h1]; intro h2; cases h2

/-- A recopy in BOUND through lane 0. -/
def serving (next : Nat) : Part :=
  (shop.modReader 0 fun r => { r with serves := some 0 }).modDest 0 fun r =>
    { r with explicit := some (.recopy ⟨1023, 0, .card 0 0, next, digestStart, 0⟩) }

/-- What a failure of the reader ends: the lane's termination, the recopy's, the card's state. -/
def failing (p : Part) (l : Fin 6) (card : Nat) : Option (Operation × Detail) × Option Detail × Option CardState :=
  let q := p.readerFailed l
  ((q.reader l).term.record.map fun t => (t.op, t.detail), (q.dest 0).term.record.map (·.detail),
    (q.card card).map (·.state))

theorem test_readerFailed :
    [failing (mounting 9) 1 2,
      failing ((shop.modReader 5 fun r => { r with state := .erasing, erase := some ⟨10, .header, 0⟩ })) 5 10,
      failing (serving 0) 0 0, failing ((offloading false 0).modReader 3 fun r => { r with lastFault := some 7 }) 3 5,
      failing shop 0 0] =
    [(some (.mount, .none), none, some .tripped), (some (.erase, .none), none, some .released),
      (none, some (.equipment 2), some .ready), (some (.offload, .code 7), none, some .secured),
      (none, none, some .ready)] := by decide +kernel

theorem test_hypotheses_readerFailed :
    ((mounting 9).reader 1).state = .mounting ∧
      ((serving 0).reader 0).state = .bound ∧ ((serving 0).reader 0).serves = some 0 ∧
      (serving 0).recopyOf 0 = some ⟨1023, 0, .card 0 0, 0, digestStart, 0⟩ ∧
      (let p := shop.modChannel 1 fun c => { c with source := some (.card 0) }
       p.boundCard 0 = some 0 ∧ ((p.readerFailed 0).channel 1).clip = some 0 ∧
         ((p.readerFailed 0).channel 1).source = none) := by decide +kernel

def slot2 (id : Nat) (data : Option Block) : Slot :=
  { slotOf false with id := id, lane := 0, data := data, writes := [⟨0, false, false⟩] }

/-- What a free reader link asks for, by the state of its lane. -/
theorem test_laneRequest :
    let with' (f : ReaderLane → ReaderLane) : Part := shop.modReader 0 f
    [with' fun r => { r with state := .mounting, mount := some none }, with' id,
      with' fun r => { r with state := .erasing, erase := some ⟨0, .run 1 1, 0⟩ }, serving 0,
      { serving 0 with pool := { slots := [slot2 0 none], queue := [] } }].map (fun p => p.laneRequest 0) =
    [some (.block 0, .mount), none, some (.erase (.run 1 1), .erase), none, some (.block 2, .recopy 0)] ∧
    (mounting 9).laneRequest 1 = some (.block 1, .mount) ∧ (offloading false 0).laneRequest 3 = none ∧
    ({ offloading false 0 with pool := { slots := [{ slot2 0 none with lane := 3 }], queue := [] } } : Part).laneRequest 3 =
      some (.block 2, .offload) := by decide +kernel

theorem test_hypotheses_serveReader :
    ((shop.reader 0).out = none ∧ (shop.reader 0).state ≠ .noReader ∧ (shop.reader 0).state ≠ .equipment ∧
        (shop.reader 0).presenceOwed = false ∧ (shop.reader 0).previews = []) ∧
      ((shop.modReader 0 fun r => { r with presenceOwed := true }).reader 0).presenceOwed = true ∧
      ((shop.modReader 0 fun r => { r with previews := [⟨1, 2⟩] }).reader 0).previews = [⟨1, 2⟩] := by decide +kernel

/-! ### The frame analyzer -/

/-- A frame of 5 by 5 sites with one extreme site, at its centre. -/
def speck : List Nat := List.replicate 12 500 ++ [1023] ++ List.replicate 12 500

theorem test_extremeSites :
    extremeSites (rowsOf 5 5 speck) 5 5 100 = [(2, 2, 1023)] ∧ extremeSites (rowsOf 5 5 speck) 5 5 523 = [] ∧
      siteAt (rowsOf 5 5 speck) 2 2 = 1023 := by decide +kernel

def tracker1 (run : Nat) (suspect : Bool) : Tracker :=
  { x := 2, y := 2, code := 1023, run := run, first := 4, suspect := suspect }

/-- A lane whose first tracker is as given, the kinds enabled and the stuck run threshold 8. -/
def tracking (t : Option Tracker) (defects : Table Defect) : Part :=
  let p : Part := { shop with fault := { shop.fault with policy := List.replicate 8 ⟨true, true, 0, 8, 100⟩, defects := defects } }
  p.modReader 0 fun r => { r with analyzer := { r.analyzer with trackers := t :: r.analyzer.trackers.tail } }

/-- The first tracker, the buffer's kinds and the hits of the map after a whole frame with the sites given. -/
def tracked (p : Part) (sites : List (Nat × Nat × Nat)) : Option (Nat × Bool) × List (FaultKind × Nat) × List Nat :=
  let q := (p.updateTrackers 0 0 65 9 sites).1
  ((q.reader 0).analyzer.trackers.head?.join.map fun t => (t.run, t.suspect),
    (q.reader 0).analyzer.buffer.map fun f => (f.kind, f.firstFrame), q.fault.defects.map (·.2.hits))

theorem test_trackers :
    [tracked (tracking (some (tracker1 6 false)) []) [(2, 2, 1023)],
      tracked (tracking (some (tracker1 7 false)) []) [(2, 2, 1023)],
      tracked (tracking (some (tracker1 7 false)) [(3, ⟨65, 2, 2, 8191, 8191, 255⟩)]) [(2, 2, 1023)],
      tracked (tracking (some (tracker1 255 true)) []) [(2, 2, 1023)], tracked (tracking (some (tracker1 7 false)) []) [],
      tracked (tracking (some (tracker1 7 false)) []) [(2, 2, 0)], tracked (tracking none []) [(1, 1, 0)]] =
    [(some (7, false), [], []), (some (8, true), [(.stuckSite, 4)], []), (some (8, true), [], [255]),
      (some (255, true), [], []), (none, [], []), (some (1, false), [], []), (some (1, false), [], [])] := by decide +kernel

theorem test_hypotheses_trackers :
    (((tracking (some (tracker1 7 false)) []).updateTrackers 0 0 65 9 [(2, 2, 1023)]).2 = none ∧
        (let p := tracking (some (tracker1 7 false)) []
         ({ p with fault := { p.fault with policy := List.replicate 8 ⟨true, true, 1, 8, 100⟩ } } : Part).updateTrackers 0 0
           65 9 [(2, 2, 1023)]).2 = some (.stuckSite, 1)) ∧
      (takeSite 9 (List.replicate 16 (some (tracker1 1 false)), false) (1, 1, 0)).2 = true ∧
      takeSite 9 ([some (tracker1 1 false), none], false) (2, 2, 1023) = ([some (tracker1 1 false), none], false) ∧
      (tracker1 7 false).suspect = false ∧ (none : Option Tracker) ∉ [some (tracker1 1 false)] := by decide +kernel

/-- The detectors: below the threshold, at it, disarmed, armed anew; a disabled kind stays armed, and raises in the same run
once enabled (log 44). -/
theorem test_detectors :
    let at' (run : Nat) (armed : Bool) (enabled met : Bool) : Nat × Bool × Nat :=
      let p := (tracking none []).modReader 0 fun r => { r with analyzer := { r.analyzer with clipRun := run, clipArmed := armed } }
      let p : Part := { p with fault := { p.fault with policy := List.replicate 8 ⟨enabled, true, 0, 8, 2⟩ } }
      let a := ((p.detectClipped 0 9 met).1.reader 0).analyzer
      (a.clipRun, a.clipArmed, a.buffer.length)
    [at' 0 true true true, at' 1 true true true, at' 2 false true true, at' 255 false true true, at' 2 false true false,
      at' 1 true false true, at' 2 true true true] =
    [(1, true, 0), (2, false, 1), (3, false, 0), (255, false, 0), (0, true, 0), (2, true, 0), (3, false, 1)] := by decide +kernel

def time1 (h m s f : Nat) : Timecode := { hours := h, minutes := m, seconds := s, frames := f }

/-- The timecode check of a frame at base 24 after a reference: the raises and the reference left. -/
theorem test_timecodes :
    let at' (rate : Nat) (ref : Option Timecode) (frame : Nat) (t : Timecode) : Nat × Option Timecode :=
      let p := (tracking none []).modReader 0 fun r => { r with analyzer := { r.analyzer with reference := ref } }
      let a := ((p.checkTimecode 0 { clip1 0 with rate := rate } frame t).1.reader 0).analyzer
      (a.buffer.length, a.reference)
    [at' 1 (some (time1 23 59 59 23)) 5 (time1 0 0 0 0), at' 1 (some (time1 1 0 0 0)) 5 (time1 1 0 0 0),
      at' 1 none 5 (time1 1 0 0 0), at' 1 none 0 (time1 0 0 0 0), at' 1 none 0 (time1 0 0 0 1), at' 1 none 5 (time1 0 0 0 24),
      at' 7 none 5 (time1 0 0 0 24), at' 2 none 5 (time1 0 0 0 24)] =
    [(0, some (time1 0 0 0 0)), (1, some (time1 1 0 0 0)), (0, some (time1 1 0 0 0)), (0, some (time1 0 0 0 0)),
      (1, some (time1 0 0 0 1)), (1, none), (0, none), (0, some (time1 0 0 0 24))] ∧
    frameBase 6 = some 60 ∧ (time1 23 59 59 23).oneOn 24 = time1 0 0 0 0 ∧ (time1 23 59 59 23).valid 24 = true := by
  decide +kernel

/-- A block that closes a frame and one that does not; a buffer with an entry of the kind and one without. -/
theorem test_hypotheses_frames :
    (cardBlock 0 []).frameEnd = false ∧ ({ cardBlock 0 [] with header := [0, 0, 0, 1] } : Block).frameEnd = true ∧
      ((shop.reader 0).analyzer.acc.add (cardBlock 0 [])).blocks = 1 ∧
      bufferRaise [⟨.clipHigh, 127, false, 3, none⟩] .clipHigh 9 none = [⟨.clipHigh, 127, true, 3, none⟩] ∧
      bufferRaise [⟨.clipHigh, 1, false, 3, none⟩] .stuckSite 9 (some (1, 2)) =
        [⟨.stuckSite, 1, false, 9, some (1, 2)⟩, ⟨.clipHigh, 1, false, 3, none⟩] ∧
      (shop.policy .stuckSite).enabled = true ∧
      (Part.policy { shop with fault := { shop.fault with policy := [] } } .stuckSite).enabled = false := by decide +kernel

/-! ### Slots, the arbiter and the render engine -/

/-- Lanes 0 and 3 want a slot and wait; lane 0 holds 16 already. -/
theorem test_grants :
    let p : Part := { offloading false 0 with
      pool := { slots := (List.range 16).map fun i => { slot2 i (some goodBlock) with clip := 0 }, queue := [0] } }
    let q := Part.grantSlots 54 p.joinQueue
    (p.joinQueue.pool.queue, q.pool.queue, q.pool.slots.map (fun s => (s.id, s.lane)) |>.drop 16,
      (q.awaited 3).map (·.writes)) =
    ([0, 3], [0], [(16, 3)], some [⟨0, false, false⟩]) := by decide +kernel

theorem test_hypotheses_slots :
    ((offloading false 0).wantsSlot 3 = true ∧ (serving 0).wantsSlot 0 = true ∧ (serving 1).wantsSlot 0 = false ∧
        shop.wantsSlot 0 = false ∧ shop.freeSlotId = some 0 ∧ (shop.newSlot 0 0) = none ∧
        ((offloading false 0).newSlot 3 0).isSome = true ∧ ((serving 0).newSlot 0 0).isSome = true) ∧
      (Part.freeSlotId { shop with pool := { slots := (List.range 48).map fun i => slot2 i none, queue := [0] } } = none) ∧
      (({ offload1 5 with done := some true } : OffloadCtx).done = some true ∧ shop.slotsOf 3 = [] ∧
        ({ shop with pool := { slots := [slot2 0 none], queue := [] } } : Part).slotsOf 0 ≠ []) ∧
      (let p := shop.modVolume 0 fun r => { r with verifyList := [1] }
       p.boundVolume 0 = some 0 ∧ (p.volume 0).map (fun r => (r.verifyList, r.attach, r.mode)) =
           some ([1], .online, .auto) ∧
         (p.dest 0).sweep = none ∧ (p.dest 0).reidentify = false ∧ ((p.takeSweep 0).dest 0).sweep.isSome = true ∧
         (shop.volume 0).map (·.verifyList) = some []) := by decide +kernel

def verifyItem1 : VerifyItem := { explicit := false, key := key1, index := 5 }
def previewItem1 : PreviewItem := { channel := 1, key := key1, index := 6 }

/-- What the arbiter of lane 0 sends, and the guard after it. -/
def sends (f : DestLane → DestLane) (slots : List Slot) : Option VolumeRequest × Nat :=
  let p : Part := (({ shop with pool := { slots := slots, queue := [] } } : Part).modDest 0 f).serveDest 0
  ((p.dest 0).out.map (·.request), (p.dest 0).guard)

theorem test_arbiter :
    [sends (fun r => { r with release := [key1], verifies := [verifyItem1], guard := 16, previews := [previewItem1] }) [],
      sends (fun r => { r with verifies := [verifyItem1], guard := 16, previews := [previewItem1] }) [],
      sends (fun r => { r with verifies := [verifyItem1], guard := 15, previews := [previewItem1] }) [],
      sends (fun r => { r with verifies := [verifyItem1], recopies := [.read 2 key1 3] }) [slot2 0 (some goodBlock)],
      sends (fun r => { r with verifies := [verifyItem1], recopies := [.read 2 key1 3] }) [slot2 0 none],
      sends (fun r => { r with verifies := [verifyItem1], guard := 3, renders := [.read key1 1] }) [],
      sends (fun r => { r with guard := 3, renders := [.read key1 1] }) [], sends id []] =
    [(some (.release key1), 16), (some (.read .sweep key1 5), 0), (some (.read (.preview 1) key1 6), 16),
      (some (.write (.slot 0) key1 0 (.copy goodBlock)), 1), (some (.read (.recopy 2) key1 3), 1),
      (some (.read .sweep key1 5), 0), (some (.read .render key1 1), 0), (none, 0)] := by decide +kernel

/-- The round-robin: with a block of lane 0 and one of lane 3, the lane from which the search begins decides. -/
theorem test_robin :
    let at' (robin : Fin 6) : Option Nat × Fin 6 :=
      let slots := [slot2 0 (some goodBlock), { slot2 1 (some goodBlock) with lane := 3 }]
      let p : Part := (({ shop with pool := { slots := slots, queue := [] } } : Part).modDest 0 fun r =>
        { r with robin := robin })
      ((p.nextOffload 0 0).map (·.1.id), ((p.serveDest 0).dest 0).robin)
    [at' 0, at' 1, at' 3, at' 4] = [(some 0, 1), (some 1, 4), (some 1, 4), (some 0, 1)] := by decide +kernel

theorem test_hypotheses_serveDest :
    (shop.boundVolume 0 = some 0 ∧ (shop.dest 0).reidentify = false ∧ (shop.dest 0).out = none ∧
        ((shop.modDest 0 fun r => { r with reidentify := true, release := [key1] }).dest 0).reidentify = true) ∧
      (shop.boundVolume 3 = none ∧ (shop.dest 3).state = .empty ∧ (shop.dest 3).ejectOwed = false) ∧
      (((shop.modDest 3 fun r => { r with ejectOwed := true }).serveDest 3).dest 3).out.map (·.request) = some .eject ∧
      (((shop.modDest 3 fun r => { r with term := TermSlot.none, identifyPending := true }).serveDest 3).dest 3).state =
        .identifying := by decide +kernel

/-- A render at work on clip 1, from volume 0 to volume 1, under look 2. -/
def rendering (proxyBlocks : Nat) (writes : List ProxyBlock) : Part :=
  { shop with render := { shop.render with
      active := some ⟨2, 1, 0, 1, some (2, 1), 0, FrameAcc.start, proxyBlocks, 0, proxyBlocks, 0, writes, true⟩ } }

def proxyBlock1 : ProxyBlock := { header := [], payload := [], check := 0 }

def started : Part :=
  (shop.modClip 1 fun c =>
    { c with copies := [⟨0, .verified, .offload⟩], look := some 2, proxy := some ⟨1, none, none, 3⟩ }).startRender
    ⟨2, 1, none, 1⟩

theorem test_render_starts :
    started.render.active.map (fun x => (x.source, x.target, x.used)) = some (0, 1, some (2, 1)) ∧
      (started.clip 1).map (·.proxy) = some none ∧
      ((started.dest 1).release.length, (started.look 2).map (·.live.pins), (started.dest 0).renders.length) =
        (1, some 2, 1) := by decide +kernel

/-- What an end leaves: entries queued, keys to release on the target, pins of the look, whether the clip has a proxy. -/
def ended (p : Part) : Nat × Nat × Option Nat × Option Bool :=
  (p.render.queue.length, (p.dest 1).release.length, (p.look 2).map (·.live.pins), (p.clip 1).map (·.proxy.isSome))

theorem test_render_ends :
    [(rendering 1 [proxyBlock1]).renderWritten, (rendering 0 []).abortRender .cancelled .none,
      (rendering 1 []).abortRender .cancelled .none].map ended =
    [(1, 0, some 0, some true), (1, 0, some 0, some false), (1, 1, some 0, some false)] := by decide +kernel

theorem test_hypotheses_renders :
    ((rendering 0 []).render.active.isSome = true ∧ (rendering 0 []).clip 1 ≠ none ∧ shop.render.active = none ∧
        goodBlock.computedCheck = goodBlock.check ∧
        ((FrameAcc.start.add goodBlock).closes goodBlock false = false ∧
          (FrameAcc.start.add goodBlock).closes goodBlock true = true)) ∧
      ((rendering 0 [proxyBlock1, proxyBlock1]).render.active.map (·.writes.length) = some 2 ∧
        shop.volumeLane 0 = some 0 ∧ shop.volumeLane 2 = none ∧ (shop.dest 2).state ≠ .online ∧
        (shop.dest 2).state ≠ .full) ∧
      ((shop.modClip 1 fun c => { c with copies := [⟨0, .verified, .offload⟩] }).volumeWith 1 .verified none = some 0) ∧
      ((((sent 0 (.read .render key1 0) none).withdrawRender).dest 0).out.map (·.request) = some (.read .dropped key1 0) ∧
        (((sent 0 (.write .render key1 0 (.proxy proxyBlock1)) none).withdrawRender).dest 0).out.map (·.request) =
          some (.write .late key1 0 (.proxy proxyBlock1)) ∧
        (((sent 0 (.release key1) none).withdrawRender).dest 0).out.map (·.request) = some (.release key1)) ∧
      ((look1 512 0xFFF 1 (some slot1) 0).unpin 65535).held = none := by decide +kernel

/-! ### What the shared operations of the statements meet -/

/-- R97, R99: between a reset and the Identify Answer a sweep waits, but a change to AUTO starts it (log 39). -/
theorem test_sweep_under_reset :
    let p := (shop.modVolume 0 fun r => { r with verifyList := [1] }).modDest 0 fun r => { r with reidentify := true }
    let paused := p.modVolume 0 fun r => { r with mode := .paused }
    [p.resumeSweep 0, p.settle, p.takeSweep 0, paused.takeSweep 0, paused.changeVerifyMode 0 .auto].map
      (fun q => (q.dest 0).sweep.isSome) = [false, false, true, false, true] := by decide +kernel

/-- R50, R60: a clip whose fan-out was formed empty does not count as failed, one whose fan-out shrank does (log 46). -/
theorem test_clipFailed :
    let failed (cur : Current) : Option Nat :=
      let p := (offloading false 0).modReader 3 fun r => { r with offload := some { offload1 5 with current := some cur } }
      ((p.clipFailed 3).card 5).map (·.failed)
    [failed (current1 false), failed { current1 false with fanOut := [] },
      failed { current1 false with fanOut := [], barred := true }] = [some 1, some 1, some 0] := by decide +kernel

/-- A part with the slot given, clip 0 as WRITING on volume 0 or with no entry. -/
def slotted (s : Slot) (writing : Bool) : Part :=
  ({ offloading false 0 with pool := { slots := [s], queue := [] } } : Part).modClip 0 fun c =>
    { c with copies := if writing then [⟨0, .writing, .offload⟩] else [] }

/-- R73, step 4: an entry made anew goes too; R81: a block whose entry is gone is released. -/
theorem test_slots_of_a_reset :
    ((slotted (slotOf true) true).clip 0).map (·.offloadWriting 0) = some true ∧
      [(slotted (slotOf true) true).freeLaneSlots 3, (slotted (slotOf false) true).freeLaneSlots 3,
        (slotted (slotOf true) true).resetReader 3].map
        (fun q => ((q.clip 0).map (·.copies), (q.slotsOf 3).length)) = [(some [], 0), (some [], 0), (some [], 0)] ∧
      [slotted (slotOf false) false, slotted (slotOf true) true, slotted (slotOf false) true].map
        (fun p => ((p.writeStored 0 0 (.slot 4) key1 (.copy goodBlock)).dest 0).release) = [[key1], [key1], []] := by
  decide +kernel

theorem test_hypotheses_abandon :
    (((offloading false 0).reader 3).offload = some { offload1 5 with current := some (current1 false) } ∧
        (offloading false 0).clip 0 ≠ none ∧ (offloading false 0).card 5 ≠ none) ∧
      ((shop.reader 3).offload = some (offload1 5) ∧ (offload1 5).current = none) ∧
      (let q := (slotted (slot2 0 none) true).abandonClip 3
       ((q.clip 0).map (·.copies), (q.reader 3).offload) = (some [], some (offload1 5))) ∧
      (((slotted { slot2 0 none with lane := 3 } true).abandonClip 3).slotsOf 3 = []) := by decide +kernel

theorem test_hypotheses_retire :
    [card1 1 .released (some 0) [], card1 1 .released none [0], card1 1 .released none [1],
        card1 1 .released none [4]].map shop.cardInUse = [true, true, true, false] ∧
      (shop.modClip 4 fun c => { c with copies := [⟨0, .verifying, .offload⟩] }).cardInUse (card1 1 .released none [4]) =
        true ∧
      ((shop.clip 0).map (·.look) = some none ∧ (shop.clip 2).map (·.look) = some (some 5) ∧ shop.look 5 ≠ none ∧
        ((shop.retireClip 2).look 5).map (·.refClips) = some 1) := by decide +kernel

theorem test_hypotheses_verifyMode :
    ((shop.volume 0).map (fun r => (r.mode, r.lane)) = some (.auto, some 0) ∧
        (shop.volume 7).map (fun r => (r.mode, r.lane)) = some (.auto, none)) ∧
      VerifyMode.auto ≠ .paused := by decide +kernel

/-- An offload whose plan names volumes 0 and 3, both usable. -/
def twoVolumes : Part :=
  (((offloading false 0).modVolume 3 fun r => { r with attach := .online }).modDest 2 fun r =>
    { r with state := .online }).modCard 5 fun c => { c with plan := { c.plan with volumes := [0, 3] } }

theorem test_hypotheses_resets :
    ((slotted (slotOf true) true).slotsOf 3 = [slotOf true] ∧ (slotOf true).recopy = false ∧
        ((slotted (slotOf true) true).reader 3).offload ≠ none ∧ ((slotted (slotOf true) true).reader 3).erase = none ∧
        ((offloading false 0).modCard 5 fun c => { c with clips := [0] }).card 5 ≠ none ∧
        (((slotted (slotOf true) true).resetReader 3).card 5).map (·.state) = some .secured) ∧
      (let s : Slot := { slotOf false with writes := [⟨0, true, false⟩, ⟨3, false, false⟩] }
       (({ twoVolumes with pool := { slots := [s], queue := [] } } : Part).clearBound 0 0).pool.slots.map (·.writes) =
         [[⟨3, false, false⟩]]) := by decide +kernel

/-- The selection of a source: VERIFIED before WRITTEN, the lowest index first, then the card. -/
theorem test_hypotheses_sources :
    let with' (copies : List Copy) : Part := shop.modClip 0 fun c => { c with copies := copies }
    let verified (v : Nat) : Copy := ⟨v, .verified, .offload⟩
    let written (v : Nat) : Copy := ⟨v, .written, .offload⟩
    [(with' [verified 0, verified 3]).selectSource 0 none, (with' [verified 0, verified 3]).selectSource 0 (some (.volume 0)),
      (with' [written 0, verified 3]).selectSource 0 none, (with' [written 0, written 3]).selectSource 0 none,
      (with' [verified 2]).selectSource 0 none, shop.selectSource 0 (some (.card 0)), shop.selectSource 2 none] =
    [some (.volume 0), some (.volume 3), some (.volume 3), some (.volume 0), some (.card 0), none, none] := by decide +kernel

/-- A loss with another source and with none; what a channel in NO_SOURCE regains. -/
theorem test_hypotheses_losses :
    let on (st : ChannelState) (s : Option Source) : Part :=
      shop.modChannel 1 fun c => { c with state := st, source := s, position := 0 }
    let two := (on .paused (some (.card 0))).modClip 0 fun c => { c with copies := [⟨0, .written, .offload⟩] }
    let look (p : Part) : ChannelState × Option Source × Bool × Bool :=
      ((p.channel 1).state, (p.channel 1).source, (p.channel 1).shown.isSome, (p.channel 1).term.unsensed)
    [(on .paused (some (.card 0))).loseSource 1, two.loseSource 1, (on .noSource none).regainSource 1,
        ((on .noSource none).modChannel 1 fun c => { c with clip := some 2 }).regainSource 1].map look =
      [(.noSource, none, false, true), (.paused, some (.volume 0), true, false), (.paused, some (.card 0), true, false),
        (.noSource, none, true, false)] ∧
      ((shop.channel 0).source = none ∧ (shop.channel 0).clip = none ∧ (shop.channel 0).state ≠ .noSource) ∧
      (let playing (last loop : Bool) : Channel :=
         { shop.channel 1 with state := .playing, loop := loop, shown := some (frame1 last) }
       [{ shop.channel 1 with goal := .shown 3 }, { shop.channel 1 with shown := none }, shop.channel 1, playing false false,
           playing true true, playing true false, { playing false false with goal := .again }].map
         (fun ch : Channel => ch.resume.goal) =
           [.shown 0, .shown 0, .again, .nothing, .nothing, .again, .nothing]) := by decide +kernel

/-- R170: a PAUSED channel with its shown frame that loses its source queues the read of the frame at its position. -/
theorem test_paused_reads_again :
    let p := ((shop.modChannel 1 fun c => { c with source := some (.card 0), reading := false }).modClip 0 fun c =>
      { c with copies := [⟨0, .written, .offload⟩] }).loseSource 1
    (shop.channel 1).state = .paused ∧ ((p.channel 1).goal, (p.channel 1).shown.isSome) = (.again, true) ∧
      (p.pumpChannels.dest 0).previews.map (fun i => (i.channel, i.index)) = [(1, 0)] := by decide +kernel

theorem test_hypotheses_withdrawn :
    ((sent 0 (.read (.preview 1) key1 0) none).dest 0).out = some ⟨9, .read (.preview 1) key1 0, none⟩ ∧
      (((sent 0 (.read (.preview 1) key1 0) none).withdrawRead 1).dest 0).out.map (·.request) =
        some (.read .dropped key1 0) ∧
      ((reading (.step (.block 1)) (.preview 1) none).reader 0).out = some ⟨9, .step (.block 1), .preview 1, none⟩ ∧
      (((reading (.step (.block 1)) (.preview 1) none).withdrawRead 1).reader 0).out = none ∧
      (((reading (.step (.block 1)) (.preview 1) none).withdrawRead 0).reader 0).out.isSome = true := by decide +kernel

/-- A channel that turns to a frame: ahead of the shown one, at it, before it, past the last, with none shown. -/
theorem test_hypotheses_aim :
    let at' (shown : Option Frame) (n : Nat) : Nat × Nat :=
      let ch := ({ shop.channel 1 with shown := shown } : Channel).aim n
      (ch.cursor, ch.number)
    let f : Frame := { frame1 false with number := 4, after := 9 }
    [at' (some f) 5, at' (some f) 4, at' (some f) 3, at' (some { f with last := true }) 5, at' none 5] =
      [(9, 5), (0, 0), (0, 0), (0, 0), (0, 0)] := by decide +kernel

/-- What the frame shown leaves of a channel: playing at the last frame, looping, before the last, paused. -/
theorem test_hypotheses_showFrame :
    let at' (st : ChannelState) (loop last : Bool) : ChannelState × Bool :=
      let p := shop.modChannel 1 fun c => { c with state := st, loop := loop, term := TermSlot.none }
      let ch := (p.showFrame 1 (frame1 last)).channel 1
      (ch.state, ch.term.unsensed)
    [at' .playing false true, at' .playing true true, at' .playing false false, at' .paused false true] =
      [(.paused, true), (.playing, false), (.playing, false), (.paused, false)] ∧ (shop.channel 1).clip = some 0 := by
  decide +kernel

/-- What a channel makes of a block of a clip of the count given: the frame goes on, the one sought, the clip's end, one
passed over, the next one. -/
theorem test_hypotheses_channelBlock :
    let at' (goal : Goal) (count : Nat) (ends : Byte) : Bool × Bool × Nat :=
      let p := (shop.modChannel 1 fun c => { c with goal := goal, shown := none, number := 2, cursor := 0 }).modClip 0
        fun c => { c with blockCount := count }
      let ch := (p.channelAnswer 1 (some { goodBlock with header := [0, 0, 0, ends] })).channel 1
      (ch.shown.isSome, ch.next.isSome, ch.number)
    [at' (.shown 2) 9 0, at' (.shown 2) 9 1, at' (.shown 5) 1 1, at' (.shown 5) 9 1, at' .next 9 1, at' .nothing 9 1,
        at' .again 9 1, at' .again 1 1] =
      [(false, false, 2), (true, false, 2), (true, false, 2), (false, false, 3), (false, true, 2), (false, false, 2),
        (false, false, 3), (true, false, 2)] := by
  decide +kernel

/-- Clip 1 VERIFYING on volume 0 for the sweep, and clip 6 for a Verify Copy or not; channel 0 bound to clip 1 with no
source, and no card to read it from. -/
def sweeping (verifying : Bool) : Part :=
  let ctx (clip : Nat) : VerifyCtx := ⟨clip, 0, .written, 0, digestStart, 0⟩
  let p := (sent 0 (.read .sweep key1 0) (some 1)).modDest 0 fun r =>
    { r with sweep := some (ctx 1), explicit := if verifying then some (.verify (ctx 6)) else none }
  let p := [1, 6].foldl (fun p i => p.modClip i fun c => { c with copies := [⟨0, .verifying, .offload⟩] }) p
  let p := p.modCard 0 fun c => { c with erased := true }
  p.modChannel 0 fun c => { c with state := .noSource, clip := some 1 }

/-- R87, R98: the sweep whose own read has stalled is told before the volume leaves, so that a channel with no source finds
the copy and loses it with the volume; R101: its clip stays ahead of a Verify Copy's. -/
theorem test_sweep_stalled :
    (let p := (sweeping false).tellStalled 0 0 (.read .sweep key1 0)
     (p.copyState 1 0, (p.dest 0).sweep, (p.channel 0).source) = (some .written, none, some (.volume 0))) ∧
      [sweeping false, sweeping true].map (fun p =>
        let q := p.destStall 0
        ((q.volume 0).map (·.verifyList), (q.channel 0).state, (q.channel 0).term.record.map (·.cause))) =
        [(some [1], .noSource, some .sourceLost), (some [1, 6], .noSource, some .sourceLost)] := by decide +kernel

theorem test_hypotheses_destStalls :
    ((sweeping false).boundVolume 0 = some 0 ∧ ((sweeping false).dest 0).out.map (·.request) = some (.read .sweep key1 0) ∧
        ((sweeping false).dest 0).sweep.map (·.prior) = some .written) ∧
      ((sent 0 (.read .sweep key1 0) (some 1)).dest 0).sweep = none ∧
      CopyState.verified ≠ .written ∧ ReadOwner.render ≠ .sweep := by decide +kernel

/-- What a channel reads for next, and the read that it queues from a volume and from a card. -/
theorem test_hypotheses_reads :
    let turned (f : Channel → Channel) : Goal × Nat × Nat :=
      let ch := (f { shop.channel 1 with state := .playing, loop := true }).turnNext
      (ch.goal, ch.cursor, ch.number)
    let asks (s : Option Source) : Part :=
      (shop.modChannel 1 fun c => { c with goal := .next, source := s, reading := false }).queueRead 1
    [turned id, turned fun c => { c with shown := some (frame1 false) }, turned fun c => { c with loop := false },
        turned fun c => { c with shown := none }].map (·.1) = [.next, .next, .nothing, .nothing] ∧
      (turned fun c => { c with shown := some (frame1 false) }).2 = (1, 1) ∧
      (((asks (some (.volume 0))).dest 0).previews.length, ((asks (some (.card 0))).reader 0).previews.length,
        ((asks none).channel 1).reading) = (1, 1, false) := by decide +kernel

/-- A recopy from a card: a header that differs, a block for the slot awaited; an erase that goes on from each form. -/
theorem test_hypotheses_recopyBlock :
    let p : Part := { serving 0 with pool := { slots := [{ slot2 3 none with clip := 1023, recopy := true }], queue := [] } }
    ((p.recopyOf 0).isSome = true ∧ p.clip 1023 ≠ none ∧ (p.awaited 0).map (·.id) = some 3) ∧
      ((clip1 0).headerCheck 0 (cardBlock 1 []) = false ∧ (clip1 0).headerCheck 0 (cardBlock 0 []) = true) ∧
      (((p.readGood 0 (.recopy 0) (cardBlock 1 [])).dest 0).explicit.isSome,
        ((p.readGood 0 (.recopy 0) (cardBlock 0 [])).dest 0).recopies.length) = (false, 1) ∧
      ((EraseForm.run 2 1024).after 3000 = .run 1026 1024 ∧ (EraseForm.run 1026 1024).after 2100 = .run 2050 50 ∧
        (EraseForm.run 2050 50).after 2100 = .header) := by decide +kernel

/-- Entry into FULL with a recopy and a render that write to the volume, and with neither. -/
theorem test_hypotheses_full :
    ((((rendering 0 []).enterFull 1 1).render.active.isSome, ((rendering 0 []).enterFull 0 0).render.active.isSome) =
        (false, true)) ∧
      (((serving 0).enterFull 0 0).dest 0).explicit.isSome = false ∧ ((shop.enterFull 0 0).dest 0).state = .full := by
  decide +kernel

/-- The loss of a plan volume: the last one usable, one of two, the current clip's whole fan-out on a first read. -/
theorem test_hypotheses_planLost :
    let cur (f : Current → Current) : Part :=
      twoVolumes.modReader 3 fun r => { r with offload := some { offload1 5 with current := some (f (current1 false)) } }
    let fan (p : Part) : Option (List Nat) := ((p.reader 3).offload.bind (·.current)).map (·.fanOut)
    twoVolumes.usable 3 = true ∧ (shop.card 5).map (·.plan.volumes) = some [0] ∧
      ((offloading false 0).losePlanVolume 3 0 |>.reader 3).term.record.map (·.cause) = some .noDestination ∧
      ((offloading false 0).losePlanVolume 3 7) = offloading false 0 ∧
      fan (twoVolumes.losePlanVolume 3 0) = some [] ∧ fan ((cur fun c => { c with fanOut := [0, 3] }).losePlanVolume 3 0) = some [3] ∧
      fan ((cur fun c => { c with reread := true }).losePlanVolume 3 0) = none ∧
      ((twoVolumes.modReader 3 fun r => { r with offload := some (offload1 5) }).losePlanVolume 3 0 |>.reader 3).offload =
        some (offload1 5) := by decide +kernel

/-- A write of an offload that ends unwritten, of an orphan with its entry made anew (log 60) and with none, of a recopy; a WRITING entry removed with a block written for
it and without. -/
theorem test_hypotheses_unwritten :
    (let left (p : Part) : Nat × Option (List Copy) :=
       let q := p.writeUnwritten 0 0 (.slot 4) .volumeDetached .destDetached .none
       (q.pool.slots.length, (q.clip 0).map (·.copies))
     let two (writing : Bool) : Part :=
       (slotted (slotOf true) writing).setSlots fun ss =>
         ss ++ [{ slotOf true with id := 5, writes := [⟨0, false, false⟩] }]
     [left (slotted (slotOf true) true), left (slotted (slotOf false) true), left (two true), left (two false)] =
       [(0, some [⟨0, .writing, .offload⟩]), (0, some []), (1, some [⟨0, .writing, .offload⟩]), (0, some [])]) ∧
      (let p := ({ serving 0 with pool := { slots := [{ slotOf false with recopy := true }], queue := [] } } : Part)
       ((p.writeUnwritten 0 0 (.slot 4) .volumeDetached .destDetached .none).dest 0).explicit.isSome = false) ∧
      (let p := slotted (slotOf false) true
       let q := p.setProgress 0 0 (some { clip := 0, written := 1, digest := digestStart })
       ((p.progressOf 0 0).written, (q.progressOf 0 0).written, ((p.removeWriting 0 0).dest 0).release.length,
         ((q.removeWriting 0 0).dest 0).release.length) = (0, 1, 0, 1)) := by decide +kernel

/-- The last entry of a fan-out that leaves WRITING, one before it, one outside, with an entry WRITTEN and with none. -/
theorem test_hypotheses_tally :
    let at' (volumes : List Nat) (was now : Bool) : Option Nat × List (List Nat) :=
      let p := shop.modReader 3 fun r =>
        { r with offload := some { offload1 5 with tally := [{ clip := 5, volumes := volumes, written := was }] } }
      let p := (p.modClip 5 fun c => { c with card := 5 }).leaveTally 5 0 now
      ((p.card 5).map (·.copied), ((p.reader 3).offload.map (·.tally.map (·.volumes))).getD [])
    (shop.modClip 5 fun c => { c with card := 5 }).offloadLane 5 = some 3 ∧
      [at' [0] false true, at' [0] true false, at' [0] false false, at' [0, 3] false true, at' [3] true true] =
        [(some 1, []), (some 1, []), (some 0, []), (some 0, [[3]]), (some 0, [[3]])] := by decide +kernel

end Sys2Proof.Machine.Tests
end

/-! The looks (07): power-on reset, Set Commit Mask, Commit Look, Discard Staging. First what each meaning answers,
branch by branch, and what a commit attempt gives; then the statements. -/

namespace Sys2Proof.Machine

/-! ### The commit attempt (R143) -/

theorem Look.commit_of_staging_eq (k : Look) (h : k.staging = k.live.values) : k.commit = some k := by
  simp [Look.commit, h]

theorem Look.commit_of_held (k : Look) (h : k.staging ≠ k.live.values) (hh : k.held ≠ none) : k.commit = none := by
  simp [Look.commit, h, Option.isSome_iff_ne_none, hh]

theorem Look.commit_of_unpinned (k : Look) (h : k.staging ≠ k.live.values) (hh : k.held = none)
    (hp : k.live.pins = 0) :
    k.commit = some { k with live := { values := k.staging, version := nextVersion k.live.version, pins := 0 } } := by
  simp [Look.commit, h, hh, hp]

theorem Look.commit_of_pinned (k : Look) (h : k.staging ≠ k.live.values) (hh : k.held = none)
    (hp : 0 < k.live.pins) :
    k.commit = some { k with
      live := { values := k.staging, version := nextVersion k.live.version, pins := 0 }, held := some k.live } := by
  simp [Look.commit, h, hh, Nat.ne_of_gt hp]

/-- A commit made brings the whole staging set to LIVE: the mask decides when an attempt is made, never what it moves. -/
theorem Look.live_values_of_commit {k after : Look} (h : k.commit = some after) : after.live.values = k.staging := by
  by_cases hs : k.staging = k.live.values
  · rw [k.commit_of_staging_eq hs, Option.some.injEq] at h
    rw [← h, hs]
  by_cases hh : k.held = none
  · rcases Nat.eq_zero_or_pos k.live.pins with hp | hp
    · rw [k.commit_of_unpinned hs hh hp, Option.some.injEq] at h
      rw [← h]
    · rw [k.commit_of_pinned hs hh hp, Option.some.injEq] at h
      rw [← h]
  · rw [k.commit_of_held hs hh] at h
    cases h

/-! ### Set Commit Mask (R141) -/

/-- A parameter set that names none past number 11 is a number of twelve bits. -/
theorem paramSet_le_iff (m : BitVec 16) : m.toNat ≤ 4095 ↔ ∀ n, 11 < n → m.getLsbD n = false := by
  constructor
  · intro hm n hn
    exact Nat.testBit_lt_two_pow ((show m.toNat < 2 ^ 12 by omega).trans_le (Nat.pow_le_pow_right (by omega) hn))
  · intro hm
    have : m.toNat < 2 ^ 12 := Nat.lt_pow_two_of_testBit _ hm
    omega

theorem Part.setCommitMask_of_range (p : Part) (l : Nat) (m : BitVec 16) (h : 63 < l ∨ 4095 < m.toNat) :
    p.setCommitMask l m = p.refuse .range := by
  simp only [Part.setCommitMask, h, if_true]

theorem Part.setCommitMask_of_free (p : Part) (l : Nat) (m : BitVec 16) (hl : l ≤ 63) (hm : m.toNat ≤ 4095)
    (h : p.look l = none) : p.setCommitMask l m = p.refuse .notFound := by
  simp [Part.setCommitMask, Nat.not_lt.mpr hl, Nat.not_lt.mpr hm, h]

theorem Part.setCommitMask_of_active (p : Part) (l : Nat) (m : BitVec 16) (k : Look) (hl : l ≤ 63)
    (hm : m.toNat ≤ 4095) (h : p.look l = some k) :
    p.setCommitMask l m = (p.modLook l fun k => { k with mask := m.setWidth 12 }).accept := by
  simp [Part.setCommitMask, Nat.not_lt.mpr hl, Nat.not_lt.mpr hm, h]

/-! ### Commit Look (R144) -/

theorem Part.commitLook_of_range (p : Part) (l : Nat) (h : 63 < l) : p.commitLook l = p.refuse .range := by
  simp only [Part.commitLook, h, if_true]

theorem Part.commitLook_of_free (p : Part) (l : Nat) (hl : l ≤ 63) (h : p.look l = none) :
    p.commitLook l = p.refuse .notFound := by
  simp [Part.commitLook, Nat.not_lt.mpr hl, h]

theorem Part.commitLook_of_refused (p : Part) (l : Nat) (k : Look) (hl : l ≤ 63) (h : p.look l = some k)
    (hc : k.commit = none) : p.commitLook l = p.refuse .lookHeld := by
  simp [Part.commitLook, Nat.not_lt.mpr hl, h, hc]

theorem Part.commitLook_of_made (p : Part) (l : Nat) (k after : Look) (hl : l ≤ 63) (h : p.look l = some k)
    (hc : k.commit = some after) : p.commitLook l = (p.modLook l fun _ => after, committed after) := by
  simp [Part.commitLook, Nat.not_lt.mpr hl, h, hc, Part.setLook]

/-- A commit that is made is taken, with the look it leaves and that look's LIVE version as the answer. It is
used as `(… :)`, so that the look after the commit is read off the attempt and not off the answer. -/
theorem exec_commitLook_of_made {s : State} {d : Dispatch} {l : Nat} {k after : Look}
    (h : Dispatched s d (.commitLook l)) (hl : l ≤ 63) (hk : s.part.look l = some k) (hc : k.commit = some after) :
    exec (.commitLook l) s = .next (s.taken d { status := .committed, payload := leBytes 2 after.live.version }
      (s.part.quiet.modLook l fun _ => after)) :=
  taken_of_reply h rfl (Part.commitLook_of_made _ l k after hl hk hc) rfl

/-! ### Discard Staging (R142) -/

theorem Part.discardStaging_of_range (p : Part) (l : Nat) (h : 63 < l) : p.discardStaging l = p.refuse .range := by
  simp only [Part.discardStaging, h, if_true]

theorem Part.discardStaging_of_free (p : Part) (l : Nat) (hl : l ≤ 63) (h : p.look l = none) :
    p.discardStaging l = p.refuse .notFound := by
  simp [Part.discardStaging, Nat.not_lt.mpr hl, h]

theorem Part.discardStaging_of_active (p : Part) (l : Nat) (k : Look) (hl : l ≤ 63) (h : p.look l = some k) :
    p.discardStaging l = (p.modLook l fun k => { k with staging := k.live.values }).accept := by
  simp [Part.discardStaging, Nat.not_lt.mpr hl, h]

/-! ### Power-on reset (R153) -/

theorem Part.channel_reset (c : Fin 2) : Part.reset.channel c = Channel.reset := by
  simp [Part.channel, Part.reset, Vector.get_eq_getElem]

/-! ### The statements -/

/-- Settles O44: the range check is the one on twelve bits, and a commit of the look with its new mask moves the same
staging set. -/
theorem commitMaskSet : Obligations.CommitMaskSet := by
  intro s d l m h
  refine ⟨fun hr => ?_, fun hl hm => ?_⟩
  · have hr : 63 < l ∨ 4095 < m.toNat := hr.imp_right fun ⟨n, hn, hb⟩ => by
      by_contra hm
      exact absurd ((paramSet_le_iff m).1 (Nat.le_of_not_lt hm) n hn) (by simp [hb])
    exact declines_of_refuse h rfl (Part.setCommitMask_of_range _ l m hr) rfl
  · have hm : m.toNat ≤ 4095 := (paramSet_le_iff m).2 hm
    refine ⟨fun hk => declines_of_refuse h rfl (Part.setCommitMask_of_free _ l m hl hm hk) rfl, fun k hk => ⟨?_, ?_⟩⟩
    · exact taken_of_reply h rfl (Part.setCommitMask_of_active _ l m k hl hm hk) rfl
    · exact fun after hc => (Look.live_values_of_commit hc :)

/-- Settles O45, along the cases of a commit attempt: staging as LIVE, HELD occupied, LIVE unpinned, LIVE pinned. -/
theorem lookCommitted : Obligations.LookCommitted := by
  intro s d l h
  refine ⟨fun hl => declines_of_refuse h rfl (Part.commitLook_of_range _ l hl) rfl,
    fun hl hk => declines_of_refuse h rfl (Part.commitLook_of_free _ l hl hk) rfl,
    fun k hl hk => ⟨fun hs => ?same, fun hs => ⟨fun hh => ?held, fun hh hp => ?unpinned, fun hh hp => ?pinned⟩⟩⟩
  case same => exact (exec_commitLook_of_made h hl hk (k.commit_of_staging_eq hs) :)
  case held => exact declines_of_refuse h rfl (Part.commitLook_of_refused _ l k hl hk (k.commit_of_held hs hh)) rfl
  case unpinned => exact (exec_commitLook_of_made h hl hk (k.commit_of_unpinned hs hh hp) :)
  case pinned => exact (exec_commitLook_of_made h hl hk (k.commit_of_pinned hs hh hp) :)

/-- Settles O46: after the discard the staging set is LIVE's, so a commit attempt is the one that changes nothing. -/
theorem stagingDiscarded : Obligations.StagingDiscarded := by
  intro s d l h
  refine ⟨fun hl => declines_of_refuse h rfl (Part.discardStaging_of_range _ l hl) rfl,
    fun hl hk => declines_of_refuse h rfl (Part.discardStaging_of_free _ l hl hk) rfl, fun k hl hk => ⟨?_, ?_⟩⟩
  · exact taken_of_reply h rfl (Part.discardStaging_of_active _ l k hl hk) rfl
  · exact Look.commit_of_staging_eq _ rfl

/-- Settles O4: the reset part has empty tables, and both channels stand as `Channel.reset`, which names no look. -/
theorem resetLooksFree : Obligations.ResetLooksFree := by
  intro s t h
  rw [exec_powerOnReset] at h
  cases h
  refine ⟨fun _ => rfl, rfl, rfl, rfl, rfl, fun c => ?_⟩
  have hc : State.reset.part.channel c = Channel.reset := Part.channel_reset c
  exact ⟨congrArg Channel.state hc, congrArg Channel.override hc⟩

end Sys2Proof.Machine

/-! The request port (09): the request buffer, Done, the result buffer. First what each write does to the port, branch by
branch, and which four ways there are for a command to leave the port; then the statements. -/

namespace Sys2Proof.Machine

/-! ### The buffers (R178, R180) -/

theorem byteAt_overwrite (old new : List Byte) (o : Nat) {k : Nat} (hk : k < old.length) :
    byteAt (overwrite old o new) k = if o ≤ k ∧ k < o + new.length then byteAt new (k - o) else byteAt old k := by
  have hk' : k < (overwrite old o new).length := by rwa [overwrite_length]
  calc byteAt (overwrite old o new) k
      = (overwrite old o new)[k] := List.getD_eq_getElem _ _ hk'
    _ = _ := by simp only [overwrite, List.getElem_map, List.getElem_range]

theorem State.windowByte_result (s : State) {k : Nat} (hk : k < 256) :
    s.windowByte (256 + k) = byteAt s.port.result k := by
  have hstatus : ¬ 256 + k < 4 := by omega
  have hvector : ¬ (8 ≤ 256 + k ∧ 256 + k < 12) := by omega
  have hmask : ¬ (12 ≤ 256 + k ∧ 256 + k < 16) := by omega
  have hrequest : ¬ (64 ≤ 256 + k ∧ 256 + k < 128) := by omega
  have hresult : 256 ≤ 256 + k ∧ 256 + k < 512 := by omega
  rw [State.windowByte, if_neg hstatus, if_neg hvector, if_neg hmask, if_neg hrequest, if_pos hresult,
    Nat.add_sub_cancel_left]

/-! ### Request buffer write, Done and Go, by the port state (R180, R182, R184) -/

theorem PortState.isIdle_iff (st : PortState) : st.isIdle = true ↔ st = .idle := by
  cases st <;> simp [PortState.isIdle]

theorem Port.writeRequest_of_idle (q : Port) (o : Nat) (bs : List Byte) (h : q.state = .idle) :
    q.writeRequest o bs = { q with request := overwrite q.request o bs } :=
  if_pos (q.state.isIdle_iff.2 h)

theorem Port.writeRequest_of_not_idle (q : Port) (o : Nat) (bs : List Byte) (h : q.state ≠ .idle) :
    q.writeRequest o bs = { q with collision := true } :=
  if_neg (mt q.state.isIdle_iff.1 h)

/-- A write of the request buffer leaves the result, written or dropped. -/
theorem Port.writeRequest_result (q : Port) (o : Nat) (bs : List Byte) :
    (q.writeRequest o bs).result = q.result ∧ (q.writeRequest o bs).sequence = q.sequence := by
  by_cases h : q.state = .idle
  · rw [q.writeRequest_of_idle o bs h]
    exact ⟨rfl, rfl⟩
  · rw [q.writeRequest_of_not_idle o bs h]
    exact ⟨rfl, rfl⟩

theorem Port.done_of_result (q : Port) (h : q.state = .result) : q.done = { q with state := .idle } := by
  simp only [Port.done, h]

theorem Port.done_of_idle (q : Port) (h : q.state = .idle) : q.done = q := by
  simp only [Port.done, h]

theorem Port.go_of_request (q : Port) {i : Instr} (h : q.state = .idle) (hi : decodeEnvelope q.request = .request i) :
    q.go = { q with state := .busy (q.dispatch i) } := by
  rw [Port.go, if_pos (q.state.isIdle_iff.2 h)]
  simp only [Port.launch, hi]

/-- In IDLE the Done of a write does nothing before its Go, and the request sent is the one that the buffer holds. -/
theorem Port.control_go_of_request (q : Port) {i : Instr} (clear done : Bool) (h : q.state = .idle)
    (hi : decodeEnvelope q.request = .request i) :
    q.control clear done true =
      { q with state := .busy (q.dispatch i), collision := if clear then false else q.collision } := by
  have hgo : ∀ q' : Port, q'.state = .idle → q'.request = q.request →
      (if done then q'.done else q').go = { q' with state := .busy (q'.dispatch i) } := by
    intro q' h' hr
    rw [q'.done_of_idle h', ite_self, q'.go_of_request h' (hr ▸ hi)]
  cases clear with
  | false => exact hgo q h rfl
  | true => exact hgo q.clearCollision h rfl

/-- A command of the port alone, by what its change makes of the port. -/
theorem next_of_portEvent {s : State} {i : Instr} {f : Port → Port} {q : Port}
    (he : exec i s = .next (s.portEvent f)) (hf : f s.port = q) : exec i s = .next { s.quiet with port := q } := by
  rw [he, State.portEvent, hf]

/-! ### What a command leaves of the port -/

/-- What a command of the port alone does to it: nothing; the request buffer is written; or the control word is written. -/
theorem exec_portOnly_cases {c : Instr} {s t : State} (h : exec c s = .next t) (hport : c.isPortOnly = true) :
    t.port = s.port ∨ (∃ o bs, c = .requestBufferWrite o bs ∧ t.port = s.port.writeRequest o bs) ∨
      ∃ clear done go, t.port = s.port.control clear done go := by
  cases c <;> simp only [Instr.isPortOnly, Bool.false_eq_true] at hport <;> cases h
  case requestBufferWrite o bs => exact Or.inr (Or.inl ⟨o, bs, rfl, rfl⟩)
  case portGo done clear => exact Or.inr (Or.inr ⟨clear, done, true, rfl⟩)
  case portDone clear => exact Or.inr (Or.inr ⟨clear, true, false, rfl⟩)
  case collisionClear => exact Or.inr (Or.inr ⟨true, false, false, rfl⟩)
  case windowWriteIgnored => exact Or.inl rfl

/-- What a command but a reset does to the port: nothing; a result is placed; the request buffer is written; or the
control word is written. -/
theorem exec_port_cases {c : Instr} {s t : State} (h : exec c s = .next t) (hr : c.isReset = false) :
    t.port = s.port ∨ (∃ d a, t.port = s.port.place d a) ∨
      (∃ o bs, c = .requestBufferWrite o bs ∧ t.port = s.port.writeRequest o bs) ∨
      ∃ clear done go, t.port = s.port.control clear done go := by
  rcases instr_shape c with hquery | ⟨hrequest, heffect⟩ | hlink | hport | ⟨o, bs, rfl⟩ | ⟨turn, rfl⟩ | rfl
  · obtain ⟨f, hf⟩ := exec_query c hquery
    cases (hf s).symm.trans h
    exact (s.takeQuery_port c f).imp_right Or.inl
  · obtain ⟨f, hf⟩ := exec_effect c hrequest heffect
    cases (hf s).symm.trans h
    exact (s.takeRequest_port c f).imp_right Or.inl
  · obtain ⟨f, hf⟩ := exec_link c hlink
    cases (hf s).symm.trans h
    exact Or.inl rfl
  · exact (exec_portOnly_cases h hport).imp_right Or.inr
  · cases h
    exact Or.inl rfl
  · cases turn with
    | whole => cases hr
    | port => cases hr
    | block b =>
      rw [exec_portReset_block] at h
      split at h <;> (cases h; exact Or.inl rfl)
  · cases hr

/-- The request buffer is kept by Go, Done, results and the events of the other blocks (R180). -/
theorem exec_request_kept {c : Instr} {s t : State} (h : exec c s = .next t)
    (hc : ∀ o bs, c ≠ .requestBufferWrite o bs) (hr : c.isReset = false) : t.port.request = s.port.request := by
  rcases exec_port_cases h hr with hp | ⟨d, a, hp⟩ | ⟨o, bs, rfl, -⟩ | ⟨clear, done, go, hp⟩
  · rw [hp]
  · rw [hp, Port.place_request]
  · exact absurd rfl (hc o bs)
  · rw [hp, Port.control_request]

/-- The result and its sequence are kept until the next result is placed, which raises the sequence (R183, R184). -/
theorem exec_result_cases {c : Instr} {s t : State} (h : exec c s = .next t) (hr : c.isReset = false) :
    (t.port.result = s.port.result ∧ t.port.sequence = s.port.sequence) ∨
      (t.port.sequence = s.port.sequence + 1 ∧ t.port.state = .result) := by
  rcases exec_port_cases h hr with hp | ⟨d, a, hp⟩ | ⟨o, bs, -, hp⟩ | ⟨clear, done, go, hp⟩ <;> rw [hp]
  · exact Or.inl ⟨rfl, rfl⟩
  · exact Or.inr ⟨rfl, rfl⟩
  · exact Or.inl (s.port.writeRequest_result o bs)
  · exact (s.port.control_cases clear done go).imp_right fun ⟨_, _, hseq, hst, _⟩ => ⟨hseq, hst⟩

theorem exec_portReset_port_cleared {s t : State}
    (h : exec (.portReset .whole) s = .next t ∨ exec (.portReset .port) s = .next t) : t.port = s.port.cleared := by
  rcases h with h | h <;> cases h <;> rfl

/-! ### The statements -/

/-- Settles O6: the write by the port state, its bytes one by one, and the frame from the four ways a command leaves the
port. -/
theorem requestBufferWritten : Obligations.RequestBufferWritten := by
  intro s o bs
  refine ⟨fun h => ?idle, fun h => ?dropped, overwrite_length _ _ _, fun k hk => byteAt_overwrite _ _ _ hk,
    fun c t h hc hr => exec_request_kept h hc hr, fun t h => ?reset, fun i done clear h hi => ?go⟩
  case idle => exact next_of_portEvent rfl (s.port.writeRequest_of_idle o bs h)
  case dropped => exact next_of_portEvent rfl (s.port.writeRequest_of_not_idle o bs h)
  case reset => exact congrArg Port.request (exec_portReset_port_cleared h)
  case go => exact next_of_portEvent rfl (s.port.control_go_of_request clear done h hi)

/-- Settles O8: a port that is BUSY after a command is not one that has a result placed, so it still holds the previous
one. -/
theorem doneTaken : Obligations.DoneTaken := by
  intro s
  refine ⟨fun h => ?done, fun k hk st => State.windowByte_result _ hk, fun c t h hr => exec_result_cases h hr,
    fun c t d h hr hb => ?busy, fun t h => ?reset⟩
  case done => exact next_of_portEvent rfl (s.port.done_of_result h)
  case busy =>
    refine (exec_result_cases h hr).resolve_right fun ⟨_, hst⟩ => ?_
    rw [hb] at hst
    cases hst
  case reset => exact congrArg Port.result (exec_portReset_port_cleared h)

end Sys2Proof.Machine

/-! The step and its invariants (09, 10): what a command leaves of the queue, of the part and of the vector; the settings,
the tables and the bounds by the laws of each operation (`Laws/Keeps.lean`); the buffers of the port. -/

namespace Sys2Proof.Machine

/-! ### What a command leaves of the part -/

/-- The effect of a request keeps the invariants, and the settings unless the request is one that writes them. -/
theorem exec_effect_keeps {st : Bool} {c : Instr} {s t : State} (h : exec c s = .next t)
    (hrequest : c.isRequest = true) (heffect : c.isQuery = false) (hst : st = true → c.writesSettings = false) :
    Keeps st false s.part t.part := by
  cases st with
  | true =>
    replace hst := hst rfl
    cases c <;> simp only [Instr.isQuery, Instr.isRequest, Instr.writesSettings, Bool.false_eq_true,
      Bool.true_eq_false] at hrequest heffect hst <;> cases h
    all_goals exact State.takeRequest_keeps s _ _ fun p => by simp [Keeps.refl]
  | false =>
    cases c <;> simp only [Instr.isQuery, Instr.isRequest, Bool.false_eq_true, Bool.true_eq_false]
      at hrequest heffect <;> cases h
    all_goals exact State.takeRequest_keeps s _ _ fun p => by simp [Keeps.refl]

/-- An event of the links keeps the settings and the invariants. -/
theorem exec_link_keeps {st : Bool} {c : Instr} {s t : State} (h : exec c s = .next t) (hlink : c.isLink = true) :
    Keeps st false s.part t.part := by
  cases c <;> simp only [Instr.isLink, Bool.false_eq_true] at hlink <;> cases h
  all_goals exact State.event_keeps s _ fun p => by simp [Keeps.refl]

theorem exec_portReset_keeps {st bd : Bool} {turn : ResetTurn} {s t : State} (h : exec (.portReset turn) s = .next t) :
    Keeps st bd s.part t.part := by
  cases turn with
  | whole =>
    cases h
    exact s.event_keeps Part.portReset fun p => Part.portReset_keeps p (Keeps.refl p)
  | port =>
    cases h
    exact Part.quiet_keeps _ (Keeps.refl _)
  | block b =>
    rw [exec_portReset_block] at h
    split at h <;> cases h
    · exact s.event_keeps _ fun p => Part.takeReset_keeps p b (Keeps.refl p)
    · exact Part.quiet_keeps _ (Keeps.refl _)

/-- Every command but power-on reset keeps the invariants, and the settings unless it is one that writes them. -/
theorem exec_keeps {st : Bool} {c : Instr} {s t : State} (h : exec c s = .next t) (hc : c ≠ .powerOnReset)
    (hst : st = true → c.writesSettings = false) : Keeps st false s.part t.part := by
  have hquiet : Keeps st false s.part s.part.quiet := Part.quiet_keeps _ (Keeps.refl _)
  rcases instr_shape c with hquery | ⟨hrequest, heffect⟩ | hlink | hport | ⟨o, bs, rfl⟩ | ⟨turn, rfl⟩ | rfl
  · obtain ⟨f, hf⟩ := exec_query c hquery
    cases (hf s).symm.trans h
    exact s.takeQuery_keeps c f
  · exact exec_effect_keeps h hrequest heffect hst
  · exact exec_link_keeps h hlink
  · obtain ⟨f, hf⟩ := exec_portOnly c hport
    cases (hf s).symm.trans h
    exact hquiet
  · obtain rfl : st = false := Bool.eq_false_iff.2 fun e => by cases hst e
    cases h
    exact s.event_keeps _ fun p => Part.replaceMask_keeps p _ (Keeps.refl p)
  · exact exec_portReset_keeps h
  · exact absurd rfl hc

/-- What the vector was formed from does not change by forming it. -/
theorem Part.reformVector_vectorTrue (p : Part) : p.reformVector.VectorTrue := by
  have hform : p.reformVector.formVector = p.formVector :=
    Part.formVector_congr _ _
      (fun n => Part.sourcePending_congr _ _ n p.reformVector_readers p.reformVector_dests p.reformVector_channels
        p.reformVector_render (by rw [p.reformVector_attention]) (by rw [p.reformVector_attention]))
      (by rw [p.reformVector_attention])
  rw [Part.VectorTrue, hform, p.reformVector_attention]

/-- A command leaves the part as it was, or forms its vector anew, or is power-on reset. -/
theorem exec_part_cases {c : Instr} {s t : State} (h : exec c s = .next t) :
    t.part = s.part.quiet ∨ (∃ q, t.part = Part.reformVector q) ∨ t.part = Part.reset := by
  rcases instr_shape c with hquery | ⟨hrequest, heffect⟩ | hlink | hport | ⟨o, bs, rfl⟩ | ⟨turn, rfl⟩ | rfl
  · obtain ⟨f, hf⟩ := exec_query c hquery
    cases (hf s).symm.trans h
    exact Or.inl (s.takeQuery_part c f)
  · obtain ⟨f, hf⟩ := exec_effect c hrequest heffect
    cases (hf s).symm.trans h
    rcases s.takeRequest_cases c f with he | ⟨d, -, he | he⟩ <;> rw [he]
    · exact Or.inl rfl
    · exact Or.inl rfl
    · exact Or.inr (Or.inl ⟨_, rfl⟩)
  · obtain ⟨f, hf⟩ := exec_link c hlink
    cases (hf s).symm.trans h
    exact Or.inr (Or.inl ⟨_, rfl⟩)
  · obtain ⟨f, hf⟩ := exec_portOnly c hport
    cases (hf s).symm.trans h
    exact Or.inl rfl
  · cases h
    exact Or.inr (Or.inl ⟨_, rfl⟩)
  · cases turn with
    | whole => cases h; exact Or.inr (Or.inl ⟨_, rfl⟩)
    | port => cases h; exact Or.inl rfl
    | block b =>
      rw [exec_portReset_block] at h
      split at h <;> cases h
      · exact Or.inr (Or.inl ⟨_, rfl⟩)
      · exact Or.inl rfl
  · cases h
    exact Or.inr (Or.inr rfl)

/-! ### What a command leaves of the port and of the queue -/

theorem Port.place_sized (q : Port) (d : Dispatch) (a : Answer) (h : q.Sized) : (q.place d a).Sized :=
  ⟨h.1, resultBytes_length d _ a⟩

theorem Port.writeRequest_sized (q : Port) (o : Nat) (bs : List Byte) (h : q.Sized) : (q.writeRequest o bs).Sized := by
  obtain ⟨hrequest, hresult⟩ := h
  refine ⟨?_, by rw [(q.writeRequest_result o bs).1, hresult]⟩
  by_cases hi : q.state = .idle
  · rw [q.writeRequest_of_idle o bs hi, overwrite_length, hrequest]
  · rw [q.writeRequest_of_not_idle o bs hi, hrequest]

theorem Port.control_sized (q : Port) (clear done go : Bool) (h : q.Sized) : (q.control clear done go).Sized := by
  obtain ⟨hrequest, hresult⟩ := h
  refine ⟨by rw [q.control_request, hrequest], ?_⟩
  rcases q.control_cases clear done go with ⟨hkept, -⟩ | ⟨d, a, -, -, hplaced⟩
  · rw [hkept, hresult]
  · rw [hplaced, resultBytes_length]

theorem Port.cleared_sized (q : Port) : q.cleared.Sized := ⟨List.length_replicate, List.length_replicate⟩

theorem Port.reset_sized : Port.reset.Sized := ⟨List.length_replicate, List.length_replicate⟩

theorem exec_keeps_sized {c : Instr} {s t : State} (h : exec c s = .next t) (hs : s.port.Sized) : t.port.Sized := by
  cases hr : c.isReset with
  | true =>
    cases c <;> simp only [Instr.isReset, Bool.false_eq_true] at hr
    case powerOnReset => cases h; exact Port.reset_sized
    case portReset turn =>
      cases turn with
      | whole => rw [exec_portReset_port_cleared (Or.inl h)]; exact s.port.cleared_sized
      | port => rw [exec_portReset_port_cleared (Or.inr h)]; exact s.port.cleared_sized
      | block b => cases hr
  | false =>
    rcases exec_port_cases h hr with hp | ⟨d, a, hp⟩ | ⟨o, bs, -, hp⟩ | ⟨clear, done, go, hp⟩ <;> rw [hp]
    · exact hs
    · exact s.port.place_sized d a hs
    · exact s.port.writeRequest_sized o bs hs
    · exact s.port.control_sized clear done go hs

/-- Every command answers a next state, and leaves the commands that wait. -/
theorem exec_next (c : Instr) (s : State) : ∃ t, exec c s = .next t ∧ t.pending = s.pending := by
  rcases instr_shape c with hquery | ⟨hrequest, heffect⟩ | hlink | hport | ⟨o, bs, rfl⟩ | ⟨turn, rfl⟩ | rfl
  · obtain ⟨f, hf⟩ := exec_query c hquery
    exact ⟨_, hf s, s.takeQuery_pending c f⟩
  · obtain ⟨f, hf⟩ := exec_effect c hrequest heffect
    exact ⟨_, hf s, s.takeRequest_pending c f⟩
  · obtain ⟨f, hf⟩ := exec_link c hlink
    exact ⟨_, hf s, rfl⟩
  · obtain ⟨f, hf⟩ := exec_portOnly c hport
    exact ⟨_, hf s, rfl⟩
  · exact ⟨_, rfl, rfl⟩
  · cases turn with
    | whole => exact ⟨_, rfl, rfl⟩
    | port => exact ⟨_, rfl, rfl⟩
    | block b =>
      rw [exec_portReset_block]
      split <;> exact ⟨_, rfl, rfl⟩
  · exact ⟨_, rfl, rfl⟩

/-! ### From a command to a step -/

theorem step_of_pending {c : Instr} {rest : List Instr} {s : State} (h : s.pending = c :: rest) :
    step s = exec c { s with pending := rest } := by
  simp only [step, h]

theorem step_of_idle {s : State} (h : s.pending = []) : step s = .next s := by
  simp only [step, h]

/-- What every command keeps of the port and the part, every step keeps. -/
theorem step_induct {P : Port → Part → Prop}
    (hexec : ∀ (c : Instr) (s t : State), exec c s = .next t → P s.port s.part → P t.port t.part)
    {s t : State} (h : step s = .next t) (hs : P s.port s.part) : P t.port t.part := by
  cases hp : s.pending with
  | nil =>
    rw [step_of_idle hp] at h
    cases h
    exact hs
  | cons c rest =>
    rw [step_of_pending hp] at h
    exact hexec c _ t h hs

/-! ### The reset part -/

theorem Part.reset_tidy : Part.reset.Tidy := ⟨rfl, rfl, rfl, rfl, rfl, rfl, rfl⟩

theorem Part.reset_bounded : Part.reset.Bounded := by
  refine ⟨List.nodup_nil, ?_, ?_, List.nodup_nil, ?_⟩ <;> simp [Part.reset, Part.slotsOf, Config.slotsPerLane]

theorem Part.reset_vectorTrue : Part.reset.VectorTrue := by
  unfold Part.VectorTrue
  decide

/-- Different numbers below 48 are at most 48. -/
theorem Part.slots_length_of_bounded {p : Part} (h : p.Bounded) : p.pool.slots.length ≤ 48 := by
  obtain ⟨hnodup, hlt, -⟩ := h
  calc p.pool.slots.length
      = (p.pool.slots.map (·.id)).length := (List.length_map _).symm
    _ ≤ (List.range 48).length := by
        refine (hnodup.subperm fun n hn => ?_).length_le
        obtain ⟨x, hx, rfl⟩ := List.mem_map.1 hn
        exact List.mem_range.2 (hlt x hx)
    _ = 48 := List.length_range

/-! ### The statements -/

/-- Settles O13: the buffers along the four ways a command leaves the port, and the two resets. -/
theorem buffersKeepSize : Obligations.BuffersKeepSize := fun _ _ hs h =>
  step_induct (P := fun q _ => q.Sized) (fun _ _ _ => exec_keeps_sized) h hs

/-- Settles O14: every command but power-on reset keeps both, and power-on reset gives both. -/
theorem tablesStayTidy : Obligations.TablesStayTidy := by
  refine ⟨fun s t hs h => step_induct (P := fun _ p => p.Tidy) (fun c s t hc hs => ?tidy) h hs,
    fun s t hs h => ?bounded⟩
  case tidy =>
    by_cases hreset : c = .powerOnReset
    · subst hreset; cases hc; exact Part.reset_tidy
    · exact (exec_keeps (st := false) hc hreset (fun e => by cases e)).tidy hs
  case bounded =>
    have hb : t.part.Bounded := by
      refine step_induct (P := fun _ p => p.Bounded) (fun c s t hc hs => ?_) h hs
      by_cases hreset : c = .powerOnReset
      · subst hreset; cases hc; exact Part.reset_bounded
      · exact (exec_keeps (st := false) hc hreset (fun e => by cases e)).bounded hs
    exact ⟨hb, Part.slots_length_of_bounded hb⟩

/-- Settles O15: a command that changes the part ends with the vector formed anew. -/
theorem vectorStaysTrue : Obligations.VectorStaysTrue := by
  refine fun s t hs h => step_induct (P := fun _ p => p.VectorTrue) (fun c s t hc hs => ?_) h hs
  rcases exec_part_cases hc with hp | ⟨q, hp⟩ | hp <;> rw [hp]
  · exact hs
  · exact q.reformVector_vectorTrue
  · exact Part.reset_vectorTrue

/-- Settles O2, shape by shape of the command. -/
theorem everyCommandCompletes : Obligations.EveryCommandCompletes :=
  ⟨exec_next, fun _ => step_of_idle⟩

/-- Settles O17: a command that writes no settings is no power-on reset. -/
theorem settingsKept : Obligations.SettingsKept := by
  intro s t c hc h
  have hreset : c ≠ .powerOnReset := by rintro rfl; cases hc
  exact (exec_keeps (st := true) h hreset fun _ => hc).settings rfl

/-- Settles O1: a step with a command at the front is that command's meaning. -/
theorem stepRunsFront : Obligations.StepRunsFront := fun _ _ _ => step_of_pending

/-- Settles O16, invariant by invariant. -/
theorem invariantsAtReset : Obligations.InvariantsAtReset :=
  ⟨Port.reset_sized, Part.reset_tidy, Part.reset_bounded, Part.reset_vectorTrue⟩

end Sys2Proof.Machine

/-! The window and the port (09, 11.2): what the window reads, which envelopes are requests, the collision flag, power-on
reset, what a request leaves beyond the port. -/

namespace Sys2Proof.Machine

/-! ### Reads of the window (R178) -/

theorem byteAt_zeros (n k : Nat) : byteAt (List.replicate n 0) k = 0 := by
  simp only [byteAt, List.getD_eq_getElem?_getD, List.getElem?_replicate]
  split <;> rfl

theorem State.windowByte_status (s : State) {o : Nat} (h : o < 4) : s.windowByte o = byteAt s.port.statusWord o :=
  if_pos h

theorem State.windowByte_vector (s : State) {k : Nat} (h : k < 4) :
    s.windowByte (8 + k) = byteAt (leBytes 4 s.part.attention.vector) k := by
  rw [State.windowByte, if_neg (by omega), if_pos (by omega), Nat.add_sub_cancel_left]

theorem State.windowByte_mask (s : State) {k : Nat} (h : k < 4) :
    s.windowByte (12 + k) = byteAt (leBytes 4 s.part.attention.mask.toNat) k := by
  rw [State.windowByte, if_neg (by omega), if_neg (by omega), if_pos (by omega), Nat.add_sub_cancel_left]

theorem State.windowByte_request (s : State) {k : Nat} (h : k < 64) :
    s.windowByte (64 + k) = byteAt s.port.request k := by
  rw [State.windowByte, if_neg (by omega), if_neg (by omega), if_neg (by omega), if_pos (by omega),
    Nat.add_sub_cancel_left]

theorem State.windowByte_elsewhere (s : State) {o : Nat}
    (h : (4 ≤ o ∧ o < 8) ∨ (16 ≤ o ∧ o < 64) ∨ (128 ≤ o ∧ o < 256) ∨ 512 ≤ o) : s.windowByte o = 0 := by
  rw [State.windowByte, if_neg (by omega), if_neg (by omega), if_neg (by omega), if_neg (by omega), if_neg (by omega)]

theorem Port.statusWord_cleared (q : Port) (k : Nat) : byteAt q.cleared.statusWord k = 0 := byteAt_zeros 4 k

/-- With the port cleared, the window holds the vector, the mask, and nothing else. -/
theorem State.windowByte_of_cleared {s : State} {q : Port} (h : s.port = q.cleared) (o : Nat) :
    s.windowByte o =
      if 8 ≤ o ∧ o < 12 then byteAt (leBytes 4 s.part.attention.vector) (o - 8)
      else if 12 ≤ o ∧ o < 16 then byteAt (leBytes 4 s.part.attention.mask.toNat) (o - 12)
      else 0 := by
  have hrequest (k : Nat) : byteAt s.port.request k = 0 := by rw [h]; exact byteAt_zeros 64 k
  have hresult (k : Nat) : byteAt s.port.result k = 0 := by rw [h]; exact byteAt_zeros 256 k
  by_cases hstatus : o < 4
  · rw [s.windowByte_status hstatus, h, q.statusWord_cleared, if_neg (by omega), if_neg (by omega)]
  · simp only [State.windowByte, hstatus, hrequest, hresult, ite_self, if_false]

/-! ### The bytes of the words -/

theorem leBytes_low (n : Nat) : byteAt (leBytes 4 n) 0 = BitVec.ofNat 8 n := rfl

/-- The three upper bytes of a number of one byte are 0. -/
theorem leBytes_high_of_byte {n k : Nat} (hn : n < 256) (hk : 0 < k) (hk4 : k < 4) : byteAt (leBytes 4 n) k = 0 := by
  have hdiv : n / 256 = 0 := Nat.div_eq_of_lt hn
  interval_cases k <;> simp [leBytes, byteAt, hdiv]

/-- The two upper bytes of a number of two bytes are 0. -/
theorem leBytes_high_of_half {n k : Nat} (hn : n < 65536) (hk : 1 < k) (hk4 : k < 4) : byteAt (leBytes 4 n) k = 0 := by
  have hdiv : n / 256 / 256 = 0 := by omega
  interval_cases k <;> simp [leBytes, byteAt, hdiv]

theorem mask_low_byte (m : BitVec 15) : byteAt (leBytes 4 m.toNat) 0 = m.setWidth 8 := by
  apply BitVec.eq_of_toNat_eq
  simp [leBytes_low]

theorem mask_high_byte (m : BitVec 15) : byteAt (leBytes 4 m.toNat) 1 = (m >>> 8).setWidth 8 := by
  apply BitVec.eq_of_toNat_eq
  simp [leBytes, byteAt, Nat.shiftRight_eq_div_pow]

/-! ### The envelope (R182) -/

/-- What Go makes of an envelope whose identifier stands in the catalogue: a bad field in the buffer, or a request. -/
def Decoded.Catalogued (b : List Byte) (d : Decoded) : Prop :=
  (∃ o, d = .malformed o ∧ o < 64) ∨ ∃ i, d = .request i ∧ i.isRequest = true ∧ 4 ≤ envLength b ∧ envLength b ≤ 64

/-- The decoding answers for an identifier as the catalogue says. -/
def Decoded.Sorts (b : List Byte) (id : Nat) (d : Decoded) : Prop :=
  (d = .unknown ∧ id ∉ catalogue) ∨ (id ∈ catalogue ∧ d.Catalogued b)

theorem oneForm_catalogued {b : List Byte} {n : Nat} {i : Instr} (hi : i.isRequest = true) (hn : 4 ≤ n ∧ n ≤ 64) :
    (oneForm b n i).Catalogued b := by
  unfold oneForm
  split
  · exact Or.inr ⟨i, rfl, hi, by omega, by omega⟩
  · exact Or.inl ⟨3, rfl, by omega⟩

theorem optForm_catalogued {b : List Byte} {n marker : Nat} {i : Option Nat → Instr} (hi : ∀ x, (i x).isRequest = true)
    (hn : 4 ≤ n ∧ n ≤ 64 ∧ marker < 64) : (optForm b n marker i).Catalogued b := by
  unfold optForm
  split
  · split
    · exact Or.inr ⟨_, rfl, hi _, by omega, by omega⟩
    · exact Or.inr ⟨_, rfl, hi _, by omega, by omega⟩
    · exact Or.inl ⟨marker, rfl, hn.2.2⟩
  · exact Or.inl ⟨3, rfl, by omega⟩

theorem twoForms_catalogued {b : List Byte} {x y : Decoded} (hx : x.Catalogued b) (hy : y.Catalogued b) :
    (twoForms b x y).Catalogued b := by
  unfold twoForms
  split
  · exact Or.inl ⟨3, rfl, by omega⟩
  · split
    · exact hx
    · exact hy
    · exact Or.inl ⟨4, rfl, by omega⟩

/-- Every arm of the families is of one form, has an optional field, has two forms, or names no request. -/
theorem decodeEnvelope_sorts (b : List Byte) : (decodeEnvelope b).Sorts b (numAt b 0 1) := by
  unfold decodeEnvelope
  dsimp only
  generalize numAt b 0 1 = id
  split
  case h_12 => exact Or.inl ⟨rfl, fun hmem => by simp only [catalogue] at hmem; simp_all; omega⟩
  all_goals
    simp only [decodeCard, decodeClip, decodeCopies, decodeVolume, decodeLane, decodeCamera, decodeFault, decodeLook,
      decodeRender, decodePreview, decodeAttention]
    split
  all_goals first
    | exact Or.inr ⟨by decide, oneForm_catalogued rfl (by decide)⟩
    | exact Or.inr ⟨by decide, optForm_catalogued (fun _ => rfl) (by decide)⟩
    | exact Or.inr ⟨by decide, twoForms_catalogued (oneForm_catalogued rfl (by decide)) (oneForm_catalogued rfl (by decide))⟩
    | exact Or.inl ⟨rfl, by simp_all [catalogue]; omega⟩

/-! ### Go, Done and collision clear (R181, R182) -/

theorem Port.go_of_unknown (q : Port) (h : q.state = .idle) (hb : decodeEnvelope q.request = .unknown) :
    q.go = q.place (q.dispatch (.portGo false false)) { status := .unknownRequest, payload := [] } := by
  rw [Port.go, if_pos (q.state.isIdle_iff.2 h)]
  simp only [Port.launch, hb, Answer.bare]

theorem Port.go_of_malformed (q : Port) {o : Nat} (h : q.state = .idle) (hb : decodeEnvelope q.request = .malformed o) :
    q.go = q.place (q.dispatch (.portGo false false)) { status := .malformed, payload := [BitVec.ofNat 8 o] } := by
  rw [Port.go, if_pos (q.state.isIdle_iff.2 h)]
  simp only [Port.launch, hb, leBytes]

theorem Port.go_of_not_idle (q : Port) (h : q.state ≠ .idle) : q.go = { q with collision := true } :=
  if_neg (mt q.state.isIdle_iff.1 h)

theorem Port.done_of_busy (q : Port) {d : Dispatch} (h : q.state = .busy d) : q.done = { q with collision := true } := by
  simp only [Port.done, h, Port.collide]

/-- From RESULT, Done with Go is a Go from IDLE (R181). -/
theorem Port.control_done_go_of_request (q : Port) {i : Instr} (clear : Bool) (h : q.state = .result)
    (hi : decodeEnvelope q.request = .request i) :
    q.control clear true true =
      { q with state := .busy (q.dispatch i), collision := if clear then false else q.collision } := by
  have hgo : ∀ q' : Port, q'.state = .result → q'.request = q.request →
      q'.done.go = { q' with state := .busy (q'.dispatch i) } := by
    intro q' h' hr
    rw [q'.done_of_result h']
    exact Port.go_of_request _ rfl (hr ▸ hi)
  cases clear with
  | false => exact hgo q h rfl
  | true => exact hgo q.clearCollision h rfl

/-- The collision flag stays set until a write clears it or a reset comes. -/
theorem exec_collision_kept {c : Instr} {s t : State} (h : exec c s = .next t) (hclear : c.clearsCollision = false)
    (hr : c.isReset = false) (hs : s.port.collision = true) : t.port.collision = true := by
  have hcontrol (done go : Bool) := s.port.control_collision done go hs
  by_cases hport : c.isPortOnly = true
  · cases c <;> simp only [Instr.isPortOnly, Bool.false_eq_true] at hport
    case requestBufferWrite o bs =>
      cases h
      by_cases hi : s.port.state = .idle
      · simp [s.port.writeRequest_of_idle o bs hi, hs]
      · simp [s.port.writeRequest_of_not_idle o bs hi]
    case portGo done clear =>
      cases clear with
      | true => cases hclear
      | false => cases h; exact hcontrol done true
    case portDone clear =>
      cases clear with
      | true => cases hclear
      | false => cases h; exact hcontrol true false
    case collisionClear => cases hclear
    case windowWriteIgnored => cases h; exact hs
  · rcases instr_shape c with hquery | ⟨hrequest, heffect⟩ | hlink | hp | ⟨o, bs, rfl⟩ | ⟨turn, rfl⟩ | rfl
    · obtain ⟨f, hf⟩ := exec_query c hquery
      cases (hf s).symm.trans h
      rcases s.takeQuery_port c f with he | ⟨d, a, he⟩ <;> rw [he]
      · exact hs
      · exact hs
    · obtain ⟨f, hf⟩ := exec_effect c hrequest heffect
      cases (hf s).symm.trans h
      rcases s.takeRequest_port c f with he | ⟨d, a, he⟩ <;> rw [he]
      · exact hs
      · exact hs
    · obtain ⟨f, hf⟩ := exec_link c hlink
      cases (hf s).symm.trans h
      exact hs
    · exact absurd hp hport
    · cases h; exact hs
    · cases turn with
      | whole => cases hr
      | port => cases hr
      | block b =>
        rw [exec_portReset_block] at h
        split at h <;> (cases h; exact hs)
    · cases hr

/-- The byte of a write of the control word that carries its bits: the first, of a write from the word's start. -/
theorem controlCommand_of_start (b : Byte) (rest : List Byte) :
    controlCommand 0 (b :: rest) =
      if b.getLsbD 3 then .portReset .whole
      else if b.getLsbD 0 then .portGo (b.getLsbD 1) (b.getLsbD 2)
      else if b.getLsbD 1 then .portDone (b.getLsbD 2)
      else if b.getLsbD 2 then .collisionClear
      else .windowWriteIgnored 4 (b :: rest) := by
  have hword : byteAt (overwrite (List.replicate 4 0) 0 (b :: rest)) 0 = b := by
    rw [byteAt_overwrite _ _ _ (by simp), if_pos (by simp)]
    rfl
  simp only [controlCommand, hword, Nat.add_zero]

theorem controlCommand_of_later (o : Nat) (bs : List Byte) (h : 0 < o) :
    controlCommand o bs = .windowWriteIgnored (4 + o) bs := by
  have hword : byteAt (overwrite (List.replicate 4 0) o bs) 0 = 0 := by
    rw [byteAt_overwrite _ _ _ (by simp), if_neg (by omega)]
    rfl
  simp only [controlCommand, hword]
  rfl

/-! ### What a request leaves beyond the port -/

/-- An answer whose status byte is 5 or more is a refusal. -/
theorem Status.refuses_of_code {a : Status} (h : 5 ≤ (BitVec.ofNat 8 a.code).toNat) : a.refuses = true := by
  have hcode : ∀ a : Status, a.refuses = true ∨ ¬ 5 ≤ (BitVec.ofNat 8 a.code).toNat := by
    intro a
    cases a <;> decide
  exact (hcode a).resolve_right (not_not_intro h)

/-! ### The statements -/

/-- Settles O3: every field of the reset part, and the window of a port whose words are all 0. -/
theorem powerOnResets : Obligations.PowerOnResets := by
  have hreader (l : Fin 6) : State.reset.part.reader l = ReaderLane.reset := by
    simp [Part.reader, State.reset, Part.reset, Vector.get_eq_getElem]
  have hdest (d : Fin 4) : State.reset.part.dest d = DestLane.reset := by
    simp [Part.dest, State.reset, Part.reset, Vector.get_eq_getElem]
  have hchannel (c : Fin 2) : State.reset.part.channel c = Channel.reset := Part.channel_reset c
  refine ⟨⟨exec_powerOnReset, rfl, rfl, rfl, rfl, rfl, rfl, rfl, rfl, rfl, rfl, rfl, rfl, rfl,
    fun l => ?_, fun d => ?_, fun c => ?_⟩, rfl, rfl, fun o => ?_⟩
  · rw [hreader]; exact ⟨rfl, rfl, rfl, rfl, rfl, rfl, rfl⟩
  · rw [hdest]; exact ⟨rfl, rfl, rfl, rfl, rfl, rfl⟩
  · rw [hchannel]; exact ⟨rfl, rfl, rfl⟩
  · rw [State.windowByte_of_cleared (s := State.reset) (q := Port.reset) rfl]
    split
    · next h =>
      obtain ⟨k, rfl⟩ := Nat.exists_eq_add_of_le h.1
      have : k < 4 := by omega
      interval_cases k <;> rfl
    · split
      · next h =>
        obtain ⟨k, rfl⟩ := Nat.exists_eq_add_of_le h.1
        have : k < 4 := by omega
        interval_cases k <;> rfl
      · rw [if_neg (by omega), if_neg (by omega), if_neg (by omega)]

/-- Settles O7: a Go by what the envelope is, and the envelope by the arm of the decoding that takes it. -/
theorem goTaken : Obligations.GoTaken := by
  refine ⟨fun s h => ⟨fun i hi => ?_, fun hb => ?_, fun o hb => ?_⟩, fun b => ⟨?_, fun o ho => ?_, fun i hi => ?_⟩⟩
  · exact next_of_portEvent rfl (s.port.go_of_request h hi)
  · exact next_of_portEvent rfl (s.port.go_of_unknown h hb)
  · exact next_of_portEvent rfl (s.port.go_of_malformed h hb)
  · rcases decodeEnvelope_sorts b with ⟨hd, hid⟩ | ⟨hid, ⟨o, hd, -⟩ | ⟨i, hd, -⟩⟩ <;> simp [hd, hid]
  · rcases decodeEnvelope_sorts b with ⟨hd, -⟩ | ⟨-, ⟨o', hd, hlt⟩ | ⟨i, hd, -⟩⟩ <;> rw [hd] at ho <;> cases ho
    exact hlt
  · rcases decodeEnvelope_sorts b with ⟨hd, -⟩ | ⟨-, ⟨o', hd, -⟩ | ⟨i', hd, hfine⟩⟩ <;> rw [hd] at hi <;> cases hi
    exact hfine

/-- Settles O9: each bit by the port state, the bits of one write in turn, and the byte that carries them. -/
theorem collisionFlag : Obligations.CollisionFlag := by
  refine ⟨fun s => ⟨fun h => ?go, fun d h => ?busy, fun h => ?idle, rfl, fun c t h hc hr hs => ?sticky, fun t h => ?clear,
    fun t h => ?doneGo, fun i clear h hi => ?result⟩, fun b rest => ?bits, controlCommand_of_later⟩
  case go => exact next_of_portEvent rfl (s.port.go_of_not_idle h)
  case busy => exact next_of_portEvent rfl (s.port.done_of_busy h)
  case idle => exact next_of_portEvent rfl (s.port.done_of_idle h)
  case sticky => exact exec_collision_kept h hc hr hs
  case clear => cases h; exact ⟨rfl, fun _ => rfl⟩
  case doneGo => cases h; rfl
  case result => exact next_of_portEvent rfl (s.port.control_done_go_of_request clear h hi)
  case bits =>
    rw [controlCommand_of_start]
    refine ⟨fun h3 => ?_, fun h3 h0 => ?_, fun h3 h0 h1 => ?_, fun h3 h0 h1 h2 => ?_, fun h3 h0 h1 h2 => ?_⟩
    all_goals simp only [*, if_true, if_false, Bool.false_eq_true]

/-- Settles O10, word by word and buffer by buffer. -/
theorem windowRead : Obligations.WindowRead := by
  refine ⟨fun s => ?_, fun _ _ _ => rfl⟩
  have hmask : s.part.attention.mask.toNat < 65536 := by omega
  refine ⟨?state, ?sequence, ?vector, fun k hk => s.windowByte_vector hk, fun h => ?high, ?mask2, ?mask3,
    ?mask0, ?mask1, fun k hk => s.windowByte_request hk, fun k hk => s.windowByte_result hk, fun o ho => ?elsewhere⟩
  case state =>
    rw [s.windowByte_status (by omega)]
    cases hs : s.port.state <;> simp [Port.statusWord, hs, PortState.code, byteAt, leBytes]
  case sequence => rfl
  case vector => rfl
  case high =>
    have hbyte : s.part.attention.vector < 256 := by omega
    have hk (k : Nat) (h0 : 0 < k) (h4 : k < 4) : s.windowByte (8 + k) = 0 :=
      (s.windowByte_vector h4).trans (leBytes_high_of_byte hbyte h0 h4)
    exact ⟨hk 1 (by omega) (by omega), hk 2 (by omega) (by omega), hk 3 (by omega) (by omega)⟩
  case mask0 => exact mask_low_byte _
  case mask1 => exact mask_high_byte _
  case mask2 => exact (s.windowByte_mask (k := 2) (by omega)).trans (leBytes_high_of_half hmask (by omega) (by omega))
  case mask3 => exact (s.windowByte_mask (k := 3) (by omega)).trans (leBytes_high_of_half hmask (by omega) (by omega))
  case elsewhere =>
    rcases ho with rfl | rfl | ho
    · rfl
    · rfl
    · exact s.windowByte_elsewhere ho

/-- Settles O11: a request withdrawn, a request refused, and a request that only reads leave the part alike. -/
theorem refusalChangesNothing : Obligations.RefusalChangesNothing := by
  refine ⟨fun s i hi hd => ?_, fun s t d i hi hd h hcase => ?_⟩
  · have hnone := s.dispatchOf_none i hd
    by_cases hq : i.isQuery = true
    · obtain ⟨f, hf⟩ := exec_query i hq
      rw [hf, s.takeQuery_withdrawn i f hnone]
      rfl
    · obtain ⟨f, hf⟩ := exec_effect i hi (Bool.eq_false_iff.2 hq)
      rw [hf, s.takeRequest_withdrawn i f hnone]
      rfl
  · by_cases hq : i.isQuery = true
    · obtain ⟨f, hf⟩ := exec_query i hq
      cases (hf s).symm.trans h
      exact s.takeQuery_part i f
    · obtain ⟨f, hf⟩ := exec_effect i hi (Bool.eq_false_iff.2 hq)
      cases (hf s).symm.trans h
      rw [s.takeRequest_dispatched d i f hd] at hcase ⊢
      by_cases hr : (f s.part.quiet).2.status.refuses = true
      · rw [if_pos hr]
        rfl
      · rw [if_neg hr] at hcase
        exact absurd (Status.refuses_of_code (hcase.resolve_left hq)) hr

/-- Settles O12, by the shape of the command. -/
theorem sidesKept : Obligations.SidesKept := by
  refine fun s t c h => ⟨fun hl => ?link, fun hp => ?port, fun o bs hc => ?mask, fun d hi hd => ?request⟩
  case link =>
    obtain ⟨f, hf⟩ := exec_link c hl
    cases (hf s).symm.trans h
    rfl
  case port =>
    obtain ⟨f, hf⟩ := exec_portOnly c hp
    cases (hf s).symm.trans h
    rfl
  case mask => subst hc; cases h; rfl
  case request =>
    by_cases hq : c.isQuery = true
    · obtain ⟨f, hf⟩ := exec_query c hq
      cases (hf s).symm.trans h
      exact ⟨_, congrArg State.port (s.takeQuery_dispatched d c f hd)⟩
    · obtain ⟨f, hf⟩ := exec_effect c hi (Bool.eq_false_iff.2 hq)
      cases (hf s).symm.trans h
      rw [s.takeRequest_dispatched d c f hd]
      split <;> exact ⟨_, rfl⟩

end Sys2Proof.Machine

/-! The Attention Unit (10): the vector, the interrupt message, the mask, Sense Custody and Sense Faults. -/

namespace Sys2Proof.Machine

/-! ### The vector (R199) -/

/-- A source that the vector can name: pending and unmasked. -/
def Part.shows (p : Part) (n : Nat) : Bool := p.sourcePending n && !p.attention.mask.getLsbD n

theorem Part.shows_eq_false (p : Part) (n : Nat) :
    p.shows n = false ↔ (p.sourcePending n = true → p.attention.mask.getLsbD n = true) := by
  simp [Part.shows]

theorem Part.formVector_cases (p : Part) :
    (p.formVector = 15 ∧ ∀ m, m < 15 → p.shows m = false) ∨
      (p.formVector < 15 ∧ p.shows p.formVector = true ∧ ∀ m, m < p.formVector → p.shows m = false) := by
  have hform : p.formVector = ((List.range 15).find? p.shows).getD 15 := rfl
  cases hfind : (List.range 15).find? p.shows with
  | none =>
    rw [hfind] at hform
    exact Or.inl ⟨hform, fun m hm => by simpa using List.find?_range_eq_none.1 hfind m hm⟩
  | some k =>
    rw [hfind, Option.getD_some] at hform
    obtain ⟨hk, hlt, hbefore⟩ := List.find?_range_eq_some.1 hfind
    rw [hform]
    exact Or.inr ⟨List.mem_range.1 hlt, hk, fun m hm => by simpa using hbefore m hm⟩

theorem Part.formVector_eq_source (p : Part) {n : Nat} (h : n < 15) :
    p.formVector = n ↔ p.shows n = true ∧ ∀ m, m < n → p.shows m = false := by
  rcases p.formVector_cases with ⟨hv, hnone⟩ | ⟨-, hshown, hbefore⟩
  · have hn := hnone n h
    simp only [hv, hn, Bool.false_eq_true, false_and, iff_false]
    omega
  · refine ⟨fun he => he ▸ ⟨hshown, hbefore⟩, fun ⟨hn, hm⟩ => ?_⟩
    rcases Nat.lt_trichotomy p.formVector n with hlt | heq | hgt
    · rw [hm _ hlt] at hshown
      cases hshown
    · exact heq
    · rw [hbefore n hgt] at hn
      cases hn

theorem Part.formVector_eq_none (p : Part) : p.formVector = 15 ↔ ∀ m, m < 15 → p.shows m = false := by
  rcases p.formVector_cases with ⟨hv, hnone⟩ | ⟨hlt, hshown, -⟩
  · exact ⟨fun _ => hnone, fun _ => hv⟩
  · refine ⟨fun he => absurd he (Nat.ne_of_lt hlt), fun hnone => ?_⟩
    rw [hnone _ hlt] at hshown
    cases hshown

/-! ### The mask word (R198) -/

/-- A write of the two bytes that hold the mask gives them whole, whatever stood in the bytes behind. -/
theorem maskAfter_low_half (m : BitVec 15) (b0 b1 : Byte) :
    maskAfter m 0 [b0, b1] = BitVec.ofNat 16 (b0.toNat + 256 * b1.toNat) := by
  have hword : overwrite (leBytes 4 m.toNat) 0 [b0, b1] =
      [b0, b1, byteAt (leBytes 4 m.toNat) 2, byteAt (leBytes 4 m.toNat) 3] := rfl
  apply BitVec.eq_of_toNat_eq
  simp only [maskAfter, hword, leNat, BitVec.toNat_ofNat]
  omega

/-! ### The statements -/

/-- Settles O18: the vector by the first source that shows, and the sources number by number. -/
theorem vectorNamesHighest : Obligations.VectorNamesHighest := by
  refine ⟨fun p n => ⟨fun hn => ?source, ?none, ?bound⟩, fun p => ⟨?dests, ?readers, rfl, rfl, rfl, ?channels⟩⟩
  case source =>
    have hshows : p.shows n = true ↔ p.sourcePending n = true ∧ p.attention.mask.getLsbD n = false := by
      simp [Part.shows]
    rw [p.formVector_eq_source hn, hshows, and_assoc]
    simp only [p.shows_eq_false]
  case none => simp only [p.formVector_eq_none, p.shows_eq_false]
  case bound =>
    rcases p.formVector_cases with ⟨hv, -⟩ | ⟨hlt, -⟩
    · exact Nat.le_of_eq hv
    · exact Nat.le_of_lt hlt
  case dests => intro d; fin_cases d <;> rfl
  case readers => intro l; fin_cases l <;> rfl
  case channels => intro c; fin_cases c <;> rfl

/-- Settles O19, by whether the vector changes from 15 to a source. -/
theorem interruptMessage : Obligations.InterruptMessage := by
  intro p
  simp only [Part.reformVector]
  split <;> rfl

/-- Settles O20. -/
theorem maskReplaced : Obligations.MaskReplaced := fun _ =>
  ⟨fun _ _ h => taken_of_reply h rfl rfl rfl, fun _ _ => rfl, maskAfter_low_half _⟩

/-- Settles O21: the answer and the effect of each, which no state refuses. -/
theorem attentionSensed : Obligations.AttentionSensed := fun _ _ =>
  ⟨fun h => taken_of_reply h rfl rfl rfl, fun h => taken_of_reply h rfl rfl rfl⟩

end Sys2Proof.Machine

/-! The lookups and the lists (9.8): what each request that only reads answers, branch by branch; the pages of a list. -/

namespace Sys2Proof.Machine

/-! ### Answers of requests that only read -/

/-- An outstanding request that only reads and answers with a refusal is declined. -/
theorem declines_of_query {s : State} {d : Dispatch} {i : Instr} {f : Part → Answer} {st : Status}
    (h : Dispatched s d i) (he : exec i s = .next (s.takeQuery i f)) (hf : f s.part.quiet = .bare st) :
    Declines s d i st :=
  answered_of_query h he hf

theorem Part.lookupCard_of_none (p : Part) (r : CardRef) (h : p.cardNamed r = none) :
    p.lookupCard r = .bare .notFound := by
  simp only [Part.lookupCard, h]

theorem Part.lookupCard_of_some (p : Part) (r : CardRef) {i : Nat} {card : Card} (h : p.cardNamed r = some (i, card)) :
    p.lookupCard r = .withPayload (p.cardBytes i card) := by
  simp only [Part.lookupCard, h]

theorem Part.lookupClip_of_free (p : Part) (i : Nat) (h : p.clip i = none) :
    p.lookupClip (.index i) = .bare .notFound := by
  simp only [Part.lookupClip, h]

theorem Part.lookupClip_of_used (p : Part) (i : Nat) (c : Clip) (h : p.clip i = some c) :
    p.lookupClip (.index i) = .withPayload (p.clipBytes i c) := by
  simp only [Part.lookupClip, h]

theorem Part.lookupClip_of_unnamed (p : Part) (t : List Byte) (h : (p.clips.filter fun e => e.2.name == t) = []) :
    p.lookupClip (.name t) = .bare .notFound := by
  simp only [Part.lookupClip, h]

theorem Part.lookupClip_of_named (p : Part) (t : List Byte) {e : Nat × Clip} {rest : Table Clip}
    (h : (p.clips.filter fun e => e.2.name == t) = e :: rest) :
    p.lookupClip (.name t) =
      .withPayload (p.clipBytes e.1 e.2 ++ leBytes 2 (p.clips.filter fun e => e.2.name == t).length) := by
  simp only [Part.lookupClip, h]

theorem Part.lookupVolume_of_range (p : Part) (v : Nat) (h : 7 < v) : p.lookupVolume v = .bare .range := if_pos h

theorem Part.lookupVolume_of_free (p : Part) (v : Nat) (hv : v ≤ 7) (h : p.volume v = none) :
    p.lookupVolume v = .bare .notFound := by
  simp only [Part.lookupVolume, Nat.not_lt.mpr hv, if_false, h]

theorem Part.lookupVolume_of_used (p : Part) (v : Nat) (r : Volume) (hv : v ≤ 7) (h : p.volume v = some r) :
    p.lookupVolume v = .withPayload (p.volumeBytes v r) := by
  simp only [Part.lookupVolume, Nat.not_lt.mpr hv, if_false, h]

theorem Part.readLook_of_range (p : Part) (l : Nat) (h : 63 < l) : p.readLook l = .bare .range := if_pos h

theorem Part.readLook_of_free (p : Part) (l : Nat) (hl : l ≤ 63) (h : p.look l = none) :
    p.readLook l = .withPayload [0] := by
  simp only [Part.readLook, Nat.not_lt.mpr hl, if_false, h]

theorem Part.readLook_of_active (p : Part) (l : Nat) (k : Look) (hl : l ≤ 63) (h : p.look l = some k) :
    p.readLook l = .withPayload k.bytes := by
  simp only [Part.readLook, Nat.not_lt.mpr hl, if_false, h]

/-- The codes of the fault kinds are 1 to 8. -/
theorem faultKindOf_eq_none {n : Nat} : faultKindOf n = none ↔ n = 0 ∨ 8 < n := by
  constructor
  · intro h
    by_contra hn
    have : 1 ≤ n ∧ n ≤ 8 := by omega
    obtain ⟨h1, h8⟩ := this
    interval_cases n <;> cases h
  · rintro (rfl | h)
    · rfl
    · match n, h with
      | n + 9, _ => rfl

theorem Part.readPolicy_of_none (p : Part) (n : Nat) (h : faultKindOf n = none) : p.readPolicy n = .bare .range := by
  simp only [Part.readPolicy, h]

/-- Settles O22, by the branch that each lookup takes. -/
theorem lookupsAnswer : Obligations.LookupsAnswer := by
  intro s d
  refine ⟨fun r h => ?card, fun i h => ?clip, fun t h => ?name, fun v h => ?volume, fun l h => ?look, fun n h => ?policy⟩
  case card =>
    cases r with
    | index i =>
      exact ⟨fun hn => declines_of_query h rfl (Part.lookupCard_of_none s.part.quiet _ hn),
        fun i card hn => answered_of_query h rfl (Part.lookupCard_of_some s.part.quiet _ hn)⟩
    | identity id =>
      exact ⟨fun hn => declines_of_query h rfl (Part.lookupCard_of_none s.part.quiet _ hn),
        fun i card hn => answered_of_query h rfl (Part.lookupCard_of_some s.part.quiet _ hn)⟩
  case clip =>
    exact ⟨fun hc => declines_of_query h rfl (Part.lookupClip_of_free _ i hc),
      fun c hc => answered_of_query h rfl (Part.lookupClip_of_used s.part.quiet i c hc)⟩
  case name =>
    exact ⟨fun hn => declines_of_query h rfl (Part.lookupClip_of_unnamed _ t hn),
      fun e rest hn => answered_of_query h rfl (Part.lookupClip_of_named s.part.quiet t hn)⟩
  case volume =>
    exact ⟨fun hv => declines_of_query h rfl (Part.lookupVolume_of_range _ v hv),
      fun hv hr => declines_of_query h rfl (Part.lookupVolume_of_free _ v hv hr),
      fun r hv hr => answered_of_query h rfl (Part.lookupVolume_of_used s.part.quiet v r hv hr)⟩
  case look =>
    exact ⟨fun hl => declines_of_query h rfl (Part.readLook_of_range _ l hl),
      fun hl hk => answered_of_query h rfl (Part.readLook_of_free _ l hl hk),
      fun k hl hk => answered_of_query h rfl (Part.readLook_of_active _ l k hl hk)⟩
  case policy =>
    refine ⟨fun hn => declines_of_query h rfl (Part.readPolicy_of_none _ n (faultKindOf_eq_none.2 hn)),
      fun k hk => answered_of_query h rfl ?_⟩
    simp only [Part.readPolicy, hk, flagByte, leBytes, beq_iff_eq]
    rfl

/-! ### Lists and their pages (R186) -/

theorem pageOf_of_fits {size : Nat} {entries : List (Nat × List Byte)} (h : entries.length ≤ size) :
    pageOf size entries = [0xFF, 0xFF] ++ (entries.map (·.2)).flatten := by
  rw [pageOf, List.drop_eq_nil_of_le h, List.take_of_length_le h]
  rfl

theorem pageOf_of_more {size : Nat} {front rest : List (Nat × List Byte)} {e : Nat × List Byte}
    (h : front.length = size) : pageOf size (front ++ e :: rest) = leBytes 2 e.1 ++ (front.map (·.2)).flatten := by
  subst h
  rw [pageOf, List.drop_left, List.take_left]
  rfl

theorem nextCard_append (cards : Table Card) (front : List (Nat × List Byte)) (e : Nat × List Byte) :
    nextCard cards (front ++ [e]) = (cards.find? fun c => decide (e.1 < c.1)).map (·.1) := by
  simp [nextCard]

theorem tget_ne_none {α : Type} (t : Table α) (i : Nat) : tget t i ≠ none ↔ i ∈ t.map (·.1) := by
  induction t with
  | nil => simp [tget]
  | cons e t ih =>
    obtain ⟨j, x⟩ := e
    by_cases h : j = i
    · simp [tget, h]
    · rw [tget, if_neg h, ih, List.map_cons, List.mem_cons]
      exact ⟨Or.inr, fun hm => hm.resolve_left (Ne.symm h)⟩

/-- Where the indexes rise, the first record past an index has the next index in use. -/
theorem find_past_eq_some {α : Type} {t : Table α} (h : (t.map (·.1)).Pairwise (· < ·)) (i m : Nat) :
    (t.find? fun c => decide (i < c.1)).map (·.1) = some m ↔
      i < m ∧ m ∈ t.map (·.1) ∧ ∀ k, i < k → k < m → k ∉ t.map (·.1) := by
  induction t with
  | nil => simp
  | cons e t ih =>
    obtain ⟨j, x⟩ := e
    rw [List.map_cons, List.pairwise_cons] at h
    obtain ⟨hj, hrest⟩ := h
    rw [List.map_cons]
    by_cases hij : i < j
    · rw [List.find?_cons_of_pos (by simpa using hij), Option.map_some, Option.some.injEq]
      constructor
      · rintro rfl
        refine ⟨hij, List.mem_cons_self, fun k _ hk hmem => ?_⟩
        rcases List.mem_cons.1 hmem with rfl | hmem
        · omega
        · have := hj k hmem
          omega
      · rintro ⟨-, hmem, hbetween⟩
        rcases List.mem_cons.1 hmem with rfl | hmem
        · rfl
        · exact absurd List.mem_cons_self (hbetween j hij (hj m hmem))
    · rw [List.find?_cons_of_neg (by simpa using hij), ih hrest]
      have hne {k : Nat} (hk : i < k) : k ∈ j :: t.map (·.1) ↔ k ∈ t.map (·.1) := by
        rw [List.mem_cons]
        exact or_iff_right (by omega)
      constructor
      · rintro ⟨him, hmem, hbetween⟩
        exact ⟨him, (hne him).2 hmem, fun k hk hkm => mt (hne hk).1 (hbetween k hk hkm)⟩
      · rintro ⟨him, hmem, hbetween⟩
        exact ⟨him, (hne him).1 hmem, fun k hk hkm => mt (hne hk).2 (hbetween k hk hkm)⟩

/-- List Cards names the next record in use beyond the last one returned. -/
theorem nextCard_eq_some {cards : Table Card} (h : twf 32 cards = true) (front : List (Nat × List Byte))
    (e : Nat × List Byte) (m : Nat) :
    nextCard cards (front ++ [e]) = some m ↔
      e.1 < m ∧ tget cards m ≠ none ∧ ∀ k, e.1 < k → k < m → tget cards k = none := by
  have hnone (k : Nat) : tget cards k = none ↔ k ∉ cards.map (·.1) := by rw [← tget_ne_none, not_not]
  simp only [nextCard_append, find_past_eq_some ((twf_iff 32 cards).1 h).1, tget_ne_none, hnone]

theorem nextCard_eq_none (cards : Table Card) (front : List (Nat × List Byte)) (e : Nat × List Byte) :
    nextCard cards (front ++ [e]) = none ↔ ∀ c ∈ cards, c.1 ≤ e.1 := by
  simp [nextCard_append]

/-! ### The list requests -/

theorem Part.listClips_of_free (p : Part) (i n : Nat) (h : p.card i = none) :
    p.listClips (.card i n) = .bare .notFound := by
  simp only [Part.listClips, h]

theorem Part.listClips_of_range (p : Part) (i n : Nat) {card : Card} (h : p.card i = some card) (hn : 249 < n) :
    p.listClips (.card i n) = .bare .range := by
  simp only [Part.listClips, h, hn, if_true]

theorem Part.listClips_of_card (p : Part) (i n : Nat) {card : Card} (h : p.card i = some card) (hn : n ≤ 249) :
    p.listClips (.card i n) = .withPayload (pageOf 12 (p.clipsFrom card n)) := by
  simp only [Part.listClips, h, Nat.not_lt.mpr hn, if_false]
  rfl

/-- The records from a start index on, with no filter. -/
theorem entriesFrom_all {α : Type} (t : Table α) (start : Nat) (entry : Nat → α → List Byte) :
    entriesFrom t start (fun _ => true) entry =
      (t.filter fun e => decide (start ≤ e.1)).map fun e => (e.1, entry e.1 e.2) := by
  simp only [entriesFrom, Bool.and_true]

theorem isLetter_iff (n : Nat) : isLetter n = true ↔ 65 ≤ n ∧ n ≤ 90 := by
  simp [isLetter]

theorem isLetter_eq_false (n : Nat) : isLetter n = false ↔ ¬ (65 ≤ n ∧ n ≤ 90) := by
  rw [← isLetter_iff, Bool.not_eq_true]

theorem Part.listDefects_of_range (p : Part) (n : Nat) (letter : Option Nat)
    (h : 127 < n ∨ ∃ x, letter = some x ∧ ¬ (65 ≤ x ∧ x ≤ 90)) : p.listDefects n letter = .bare .range := by
  have hcheck : 127 < n ∨ letter.any (fun n => !isLetter n) = true :=
    h.imp_right fun ⟨x, hx, hl⟩ => by simp [hx, (isLetter_eq_false x).2 hl]
  simp only [Part.listDefects, hcheck, if_true]

theorem Part.listDefects_of_fits (p : Part) (n : Nat) (letter : Option Nat) (hn : n ≤ 127)
    (h : ∀ x, letter = some x → 65 ≤ x ∧ x ≤ 90) :
    p.listDefects n letter = .withPayload (pageOf 12
      ((p.fault.defects.filter fun e => decide (n ≤ e.1) && letter.all fun x => e.2.letter == x).map fun e =>
        (e.1, defectEntry e.1 e.2))) := by
  have hcheck : ¬ (127 < n ∨ letter.any (fun n => !isLetter n) = true) := by
    cases letter with
    | none => simpa using hn
    | some x => simpa [(isLetter_iff x).2 (h x rfl)] using hn
  rw [Part.listDefects, if_neg hcheck]
  cases letter <;> rfl

theorem Part.listOpenFaults_of_range (p : Part) (i n : Nat) (h : 1023 < i ∨ 1 < n) :
    p.listOpenFaults (.clip i n) = .bare .range := by
  simp only [Part.listOpenFaults, h, if_true]

theorem Part.listOpenFaults_of_free (p : Part) (i n : Nat) (hi : i ≤ 1023) (hn : n ≤ 1) (h : p.clip i = none) :
    p.listOpenFaults (.clip i n) = .bare .notFound := by
  simp [Part.listOpenFaults, Nat.not_lt.mpr hi, Nat.not_lt.mpr hn, h]

theorem Part.listOpenFaults_of_used (p : Part) (i n : Nat) {c : Clip} (hi : i ≤ 1023) (hn : n ≤ 1)
    (h : p.clip i = some c) :
    p.listOpenFaults (.clip i n) = .withPayload (nextBytes none ++
      ((if n = 0 then c.openFaults else c.faults).map (p.faultEntry i)).flatten) := by
  simp [Part.listOpenFaults, Nat.not_lt.mpr hi, Nat.not_lt.mpr hn, h]

/-- Settles O23: each list by its range check and its page; the page by whether entries are left. -/
theorem listsAnswer : Obligations.ListsAnswer := by
  refine ⟨fun s d n => ⟨fun st h => ?cards, fun i h => ?clipsOfCard, fun h => ?clips, fun h => ?volumes, fun h => ?cameras,
    fun letter h => ?defects, fun i h => ?faults, fun h => ?openFaults, fun h => ?renders⟩,
    fun size entries => ⟨pageOf_of_fits, ?page⟩,
    fun cards front e h => ⟨rfl, nextCard_eq_none cards front e, nextCard_eq_some h front e⟩,
    fun shown => ⟨rfl, fun m => rfl⟩⟩
  case cards => exact ⟨fun hn => declines_of_query h rfl (if_pos hn), fun hn => answered_of_query h rfl (if_neg (by omega))⟩
  case clipsOfCard =>
    exact ⟨fun hc => declines_of_query h rfl (Part.listClips_of_free _ i n hc), fun card hc =>
      ⟨fun hn => declines_of_query h rfl (Part.listClips_of_range _ i n hc hn),
        fun hn => answered_of_query h rfl (Part.listClips_of_card s.part.quiet i n hc hn)⟩⟩
  case clips =>
    refine ⟨fun hn => declines_of_query h rfl (if_pos hn), fun hn => answered_of_query h rfl ?_⟩
    rw [Part.listClips, if_neg (by omega), entriesFrom_all]
    rfl
  case volumes =>
    refine ⟨fun hn => declines_of_query h rfl (if_pos hn), fun hn => answered_of_query h rfl ?_⟩
    rw [Part.listVolumes, if_neg (by omega), entriesFrom_all]
    rfl
  case cameras =>
    refine ⟨fun hn => declines_of_query h rfl (if_pos hn), fun hn => answered_of_query h rfl ?_⟩
    rw [Part.listCameras, if_neg (by omega), entriesFrom_all]
    rfl
  case defects =>
    exact ⟨fun hr => declines_of_query h rfl (Part.listDefects_of_range _ n letter hr),
      fun hn hl => answered_of_query h rfl (Part.listDefects_of_fits s.part.quiet n letter hn hl)⟩
  case faults =>
    exact ⟨fun hr => declines_of_query h rfl (Part.listOpenFaults_of_range _ i n hr), fun hi hn =>
      ⟨fun hc => declines_of_query h rfl (Part.listOpenFaults_of_free _ i n hi hn hc),
        fun c hc => answered_of_query h rfl (Part.listOpenFaults_of_used s.part.quiet i n hi hn hc)⟩⟩
  case openFaults => exact ⟨fun hn => declines_of_query h rfl (if_pos hn), fun hn => answered_of_query h rfl (if_neg (by omega))⟩
  case renders => exact ⟨fun hn => declines_of_query h rfl (if_pos hn), fun hn => answered_of_query h rfl (if_neg (by omega))⟩
  case page =>
    rintro front e rest rfl hfront
    exact pageOf_of_more hfront

end Sys2Proof.Machine

/-! Cards and plans (01): the checks of a plan, Set Standing Plan and Set Card Plan; the secure condition and the
evaluation of a card. -/

namespace Sys2Proof.Machine

/-! ### Plans (R10, R11) -/

theorem Part.planRefusal_of_unfit (p : Part) (a : PlanArg) (h : ¬ PlanFits a) : p.planRefusal a = some .range := by
  refine if_pos ?_
  by_contra hn
  simp only [List.any_eq_true, decide_eq_true_eq] at hn
  push Not at hn
  obtain ⟨h1, h4, hv, hnodup, hr, hc⟩ := hn
  exact h ⟨h1, h4, hv, hnodup, hr, hc⟩

theorem Part.planRefusal_of_fits (p : Part) (a : PlanArg) (h : PlanFits a) :
    p.planRefusal a = if (planVolumes a).any fun v => (p.volume v).isNone then some .notFound else none := by
  obtain ⟨h1, h4, hv, hnodup, hr, hc⟩ := h
  refine if_neg ?_
  simp only [List.any_eq_true, decide_eq_true_eq]
  push Not
  exact ⟨h1, h4, hv, hnodup, hr, hc⟩

theorem Part.planRefusal_of_unknown (p : Part) (a : PlanArg) (h : PlanFits a) (hk : ¬ PlanKnown p a) :
    p.planRefusal a = some .notFound := by
  rw [p.planRefusal_of_fits a h]
  refine if_pos ?_
  by_contra hn
  exact hk fun v hv => Option.isSome_iff_ne_none.2 fun hnone =>
    hn (List.any_eq_true.2 ⟨v, hv, Option.isNone_iff_eq_none.2 hnone⟩)

theorem Part.planRefusal_of_known (p : Part) (a : PlanArg) (h : PlanFits a) (hk : PlanKnown p a) :
    p.planRefusal a = none := by
  rw [p.planRefusal_of_fits a h]
  refine if_neg fun hany => ?_
  obtain ⟨v, hv, hnone⟩ := List.any_eq_true.1 hany
  have := hk v hv
  simp_all

theorem Part.setStandingPlan_of_refused (p : Part) (a : PlanArg) {st : Status} (h : p.planRefusal a = some st) :
    p.setStandingPlan a = p.refuse st := by
  simp only [Part.setStandingPlan, h]

theorem Part.setStandingPlan_of_passed (p : Part) (a : PlanArg) (h : p.planRefusal a = none) :
    p.setStandingPlan a = ({ p with standing := planOf a } : Part).accept := by
  simp only [Part.setStandingPlan, h]

theorem Part.setCardPlan_of_free (p : Part) (i : Nat) (a : PlanArg) (h : p.card i = none) :
    p.setCardPlan i a = p.refuse .notFound := by
  simp only [Part.setCardPlan, h]

theorem Part.setCardPlan_of_state (p : Part) (i : Nat) (a : PlanArg) {card : Card} (h : p.card i = some card)
    (hst : card.state ≠ .ready ∧ card.state ≠ .held) : p.setCardPlan i a = p.refuse .wrongState := by
  simp only [Part.setCardPlan, h]
  exact if_pos hst

theorem Part.setCardPlan_of_refused (p : Part) (i : Nat) (a : PlanArg) {card : Card} {st : Status}
    (h : p.card i = some card) (hst : card.state = .ready ∨ card.state = .held) (hr : p.planRefusal a = some st) :
    p.setCardPlan i a = p.refuse st := by
  simp only [Part.setCardPlan, h, hr]
  exact if_neg fun hn => hst.elim hn.1 hn.2

theorem Part.setCardPlan_of_passed (p : Part) (i : Nat) (a : PlanArg) {card : Card}
    (h : p.card i = some card) (hst : card.state = .ready ∨ card.state = .held) (hr : p.planRefusal a = none) :
    p.setCardPlan i a = ((p.modCard i fun c => { c with plan := planOf a }).evaluate i).accept := by
  simp only [Part.setCardPlan, h, hr]
  exact if_neg fun hn => hst.elim hn.1 hn.2

/-- Settles O24: both requests by the checks of the plan, Set Card Plan by the card's state before them. -/
theorem plansSet : Obligations.PlansSet := by
  intro s d a
  have hunknown (hf : PlanFits a) (hk : ¬ PlanKnown s.part a) : s.part.quiet.planRefusal a = some .notFound :=
    s.part.quiet.planRefusal_of_unknown a hf hk
  have hknown (hf : PlanFits a) (hk : PlanKnown s.part a) : s.part.quiet.planRefusal a = none :=
    s.part.quiet.planRefusal_of_known a hf hk
  refine ⟨fun h => ⟨fun hf => ?_, fun hf hk => ?_, fun hf hk => ?_⟩,
    fun i h => ⟨fun hc => ?_, fun card hc => ⟨fun hr hh => ?_, fun hst => ⟨fun hf => ?_, fun hf hk => ?_, fun hf hk => ?_⟩⟩⟩⟩
  · exact declines_of_refuse h rfl (Part.setStandingPlan_of_refused _ a (Part.planRefusal_of_unfit _ a hf)) rfl
  · exact declines_of_refuse h rfl (Part.setStandingPlan_of_refused _ a (hunknown hf hk)) rfl
  · exact taken_of_reply h rfl (Part.setStandingPlan_of_passed _ a (hknown hf hk)) rfl
  · exact declines_of_refuse h rfl (Part.setCardPlan_of_free _ i a hc) rfl
  · exact declines_of_refuse h rfl (Part.setCardPlan_of_state _ i a hc ⟨hr, hh⟩) rfl
  · exact declines_of_refuse h rfl (Part.setCardPlan_of_refused _ i a hc hst (Part.planRefusal_of_unfit _ a hf)) rfl
  · exact declines_of_refuse h rfl (Part.setCardPlan_of_refused _ i a hc hst (hunknown hf hk)) rfl
  · exact taken_of_reply h rfl (Part.setCardPlan_of_passed _ i a hc hst (hknown hf hk)) rfl

/-! ### The secure condition and the evaluation (R7, R8, R9) -/

/-- A copy that the secure condition counts: VERIFIED, on an ARCHIVE volume that is attached. -/
def Part.counts (p : Part) (e : Copy) : Bool :=
  e.state == .verified &&
    (match p.volume e.vol with
     | some r => r.role == .archive && r.attach != .detached
     | none => false)

theorem Part.counts_iff (p : Part) (e : Copy) :
    p.counts e = true ↔
      e.state = .verified ∧ ∃ r, p.volume e.vol = some r ∧ r.role = .archive ∧ r.attach ≠ .detached := by
  cases hv : p.volume e.vol <;> simp [Part.counts, hv]

theorem Part.countedCopies_cons (p : Part) (c : Clip) {e : Copy} {rest : List Copy} (h : c.copies = e :: rest) :
    p.countedCopies c = p.countedCopies { c with copies := rest } + if p.counts e = true then 1 else 0 := by
  have hcount (c : Clip) : p.countedCopies c = (c.copies.filter p.counts).length := rfl
  rw [hcount, hcount, h, List.filter_cons]
  split <;> rfl

theorem Clip.isWaived_iff (c : Clip) : c.isWaived = true ↔ c.custody ≠ .normal := by
  simp [Clip.isWaived]

theorem Part.faultHeld_eq_false (p : Part) (c : Clip) :
    p.faultHeld c = false ↔ ∀ f ∈ c.faults, f.state = .opened → (p.policy f.kind).holds = false := by
  simp [Part.faultHeld]

theorem Part.satisfied_iff (p : Part) (c : Clip) :
    p.satisfied c = true ↔ c.custody ≠ .normal ∨
      (p.requiredOf c ≤ p.countedCopies c ∧
        ∀ f ∈ c.faults, f.state = .opened → (p.policy f.kind).holds = false) := by
  simp [Part.satisfied, Part.enoughCopies, ← c.isWaived_iff, ← p.faultHeld_eq_false]

theorem Part.secure_iff (p : Part) (card : Card) :
    p.secure card = true ↔ card.state ≠ .offloading ∧
      ∀ k ∈ card.clips, ∀ c, p.clip k = some c → p.satisfied c = true := by
  simp only [Part.secure, Part.clipsOf, Bool.and_eq_true, bne_iff_ne, List.all_eq_true, List.mem_filterMap]
  exact and_congr_right fun _ => ⟨fun h k hk c hc => h c ⟨k, hk, hc⟩, fun h c ⟨k, hk, hc⟩ => h k hk c hc⟩

theorem Part.evaluate_of_used (p : Part) (i : Nat) {card : Card} (h : p.card i = some card) :
    p.evaluate i =
      if card.state = .held ∧ p.secure card = true then
        (p.modCard i fun c => { c with state := .secured }).raiseCustody
      else if card.state = .secured ∧ ¬ p.secure card = true then
        (p.modCard i fun c => { c with state := .held }).raiseCustody
      else p := by
  simp only [Part.evaluate, h]

/-- Settles O25: the counted copies along the copy list, the evaluation by the card's state and the condition. -/
theorem cardEvaluated : Obligations.CardEvaluated := by
  refine ⟨fun p c => ⟨fun card h => ?required, fun h => ?nil, fun e rest h => ?cons⟩, fun p i card h => ?evaluate⟩
  case required => simp only [Part.requiredOf, h]
  case nil => simp only [Part.countedCopies, h, List.filter_nil, List.length_nil]
  case cons =>
    rw [p.countedCopies_cons c h, ← p.counts_iff e]
    exact ⟨fun hc => by rw [if_pos hc], fun hc => by rw [if_neg hc, Nat.add_zero]⟩
  case evaluate =>
    rw [p.evaluate_of_used i h]
    refine ⟨fun hst hs => ?_, fun hst hs => ?_, fun hst hs => ?_, fun hst hs => ?_, fun hh hs => ?_, ?condition⟩
    case condition => simp only [p.secure_iff, p.satisfied_iff]
    · rw [if_pos ⟨hst, hs⟩]
      rfl
    · rw [if_neg (by simp [hst]), if_pos (by simp [hst, hs])]
      rfl
    · rw [if_neg (by simp [hs]), if_neg (by simp [hst])]
    · rw [if_neg (by simp [hst]), if_neg (by simp [hs])]
    · rw [if_neg (fun hn => hh hn.1), if_neg (fun hn => hs hn.1)]

end Sys2Proof.Machine

/-! The offload started (03): Start Offload, the plan check, how the next position is considered, the fan-out. -/

namespace Sys2Proof.Machine

/-! ### Start Offload (R47) -/

theorem Part.startRequest_of_range (p : Part) {i : Nat} (h : 31 < i) : p.startRequest i = p.refuse .range := if_pos h

theorem Part.startRequest_of_free (p : Part) {i : Nat} (hi : i ≤ 31) (h : p.card i = none) :
    p.startRequest i = p.refuse .notFound := by
  rw [Part.startRequest, if_neg (by omega)]
  simp only [h]

theorem Part.startRequest_of_absent (p : Part) {i : Nat} {card : Card} (hi : i ≤ 31) (h : p.card i = some card)
    (hl : card.lane = none) : p.startRequest i = p.refuse .notPresent := by
  rw [Part.startRequest, if_neg (by omega)]
  simp only [h, hl]

/-- With the card in a lane, the checks of the lane, of the card's state and of its plan stand in this order. -/
theorem Part.startRequest_of_present (p : Part) {i : Nat} {card : Card} {l : Fin 6} (hi : i ≤ 31) (h : p.card i = some card)
    (hl : card.lane = some l) :
    p.startRequest i =
      if (p.reader l).state ≠ .bound ∨ (p.reader l).serves ≠ none then p.refuse .busy
      else if (p.reader l).term.unsensed = true then p.refuse .unsensed
      else if card.state ≠ .ready ∧ card.state ≠ .held then p.refuse .wrongState
      else if p.planPasses card.plan = false then p.refuse .planInvalid
      else (p.startOffload l i, Answer.bare .accepted) := by
  rw [Part.startRequest, if_neg (by omega)]
  simp only [h, hl, Option.isSome_iff_ne_none, Bool.not_eq_true']

theorem Part.usable_iff (p : Part) (v : Nat) :
    p.usable v = true ↔ ∃ r d, p.volume v = some r ∧ r.role = .archive ∧ r.attach = .online ∧ r.lane = some d ∧
      (p.dest d).state ≠ .full := by
  cases hv : p.volume v with
  | none => simp [Part.usable, hv]
  | some r => cases hd : r.lane <;> simp [Part.usable, hv, hd, and_assoc]

theorem Part.planPasses_iff (p : Part) (x : Plan) :
    p.planPasses x = true ↔
      x.volumes ≠ [] ∧ 1 ≤ x.required ∧ x.required ≤ x.volumes.length ∧ ∀ v ∈ x.volumes, p.usable v = true := by
  simp [Part.planPasses, and_assoc]

/-! ### Considering a position (R49) -/

section
variable {p : Part} {l : Fin 6} {x : OffloadCtx} {card : Card}

/-- Any bound above the number of positions left will do, so one look at the next position can be spared. -/
theorem Part.considerFrom_eq_consider {q : Part} (h : q.positionsLeft l ≤ 250) :
    Part.considerFrom l 251 q = q.consider l :=
  Part.considerFrom_fuel l 251 252 q (by omega) (by omega)

theorem Part.consider_of_stop (h : (p.reader l).offload = some x) (hc : p.card x.card = some card)
    (hs : x.stop = true) :
    p.consider l = p.modOffload l fun x => { x with done := some true } := by
  rw [Part.consider, Part.considerFrom]
  simp only [h, hc, hs]

theorem Part.consider_of_end (h : (p.reader l).offload = some x) (hc : p.card x.card = some card)
    (hs : x.stop = false) (hk : card.clips[card.nextPos]? = none) :
    p.consider l = p.modOffload l fun x => { x with done := some false } := by
  rw [Part.consider, Part.considerFrom]
  simp only [h, hc, hs, hk]

/-- A position with a clip: the next position rises, and the clip is skipped, passed over or taken up. -/
theorem Part.consider_of_clip {i : Nat} {c : Clip} (h : (p.reader l).offload = some x) (hc : p.card x.card = some card)
    (hs : x.stop = false) (hk : card.clips[card.nextPos]? = some i) (hi : p.clip i = some c) :
    let onward := p.modCard x.card fun c => { c with nextPos := card.nextPos + 1 }
    let skip (q : Part) : Part := q.modCard x.card fun c => { c with skipped := c.skipped + 1 }
    let fan := onward.formFanOut i card.plan
    p.consider l =
      if c.isWaived then Part.considerFrom l 251 (skip onward)
      else if c.marked && card.plan.skipMarked then
        Part.considerFrom l 251 (skip (onward.modClip i fun c => { c with custody := .waived .cameraMark }))
      else if c.ingestDigest.isSome && fan.2.isEmpty then Part.considerFrom l 251 fan.1
      else fan.1.takeUp l i card.nextPos c fan.2 := by
  intro onward skip fan
  have hclip : onward.clip i = some c := hi
  rw [Part.consider, Part.considerFrom]
  simp only [h, hc, hs, hk]
  simp only [onward] at hclip
  rw [hclip]

/-- The offload and the clip list are as they were, so no more positions are left. -/
theorem Part.positionsLeft_le {q : Part} {card' : Card} (h : (q.reader l).offload = some x)
    (hc : q.card x.card = some card') (hlen : card'.clips.length ≤ 250) : q.positionsLeft l ≤ 250 := by
  rw [q.positionsLeft_of l x card' h hc]
  omega

end

/-! ### The fan-out (R50) -/

theorem fanOutStep_of_taken {i v : Nat} {s : Part × List Nat} {c : Clip} (h : s.1.clip i = some c)
    (hu : s.1.usable v = true) (hw : c.writeClaimTaken v = true) :
    fanOutStep i s v = (s.1.modClip i fun c => c.claimWrite v .offload, s.2 ++ [v]) := by
  simp [fanOutStep, h, hu, hw]

theorem fanOutStep_of_left {i v : Nat} {s : Part × List Nat} {c : Clip} (h : s.1.clip i = some c)
    (hn : s.1.usable v = false ∨ c.writeClaimTaken v = false) : fanOutStep i s v = s := by
  rcases hn with hn | hn <;> simp [fanOutStep, h, hn]

theorem fanOutStep_snd (i v : Nat) (s : Part × List Nat) :
    (fanOutStep i s v).2 = s.2 ∨ (fanOutStep i s v).2 = s.2 ++ [v] := by
  unfold fanOutStep
  split
  · split
    · exact Or.inr rfl
    · exact Or.inl rfl
  · exact Or.inl rfl

/-- The volumes kept stand in plan order. -/
theorem foldl_fanOutStep_sublist (i : Nat) (vs : List Nat) :
    ∀ s : Part × List Nat, ∃ kept, (vs.foldl (fanOutStep i) s).2 = s.2 ++ kept ∧ kept.Sublist vs := by
  induction vs with
  | nil => exact fun s => ⟨[], (List.append_nil _).symm, List.Sublist.slnil⟩
  | cons v vs ih =>
    intro s
    obtain ⟨kept, hkept, hsub⟩ := ih (fanOutStep i s v)
    rcases fanOutStep_snd i v s with hv | hv
    · exact ⟨kept, by rw [List.foldl_cons, hkept, hv], hsub.cons v⟩
    · exact ⟨v :: kept, by rw [List.foldl_cons, hkept, hv, List.append_assoc]; rfl, hsub.cons_cons v⟩

theorem Part.formFanOut_append (p : Part) (i : Nat) (plan : Plan) (vs : List Nat) (v : Nat) :
    p.formFanOut i { plan with volumes := vs ++ [v] } =
      fanOutStep i (p.formFanOut i { plan with volumes := vs }) v :=
  List.foldl_append

/-- A clip's claims change no volume and no lane, so the same volumes are usable. -/
theorem Part.formFanOut_usable (p : Part) (i : Nat) (plan : Plan) (v : Nat) :
    (p.formFanOut i plan).1.usable v = p.usable v := by
  rw [Part.formFanOut_frame]
  rfl

theorem Part.formFanOut_reader (p : Part) (i : Nat) (plan : Plan) (l : Fin 6) :
    (p.formFanOut i plan).1.reader l = p.reader l := by
  rw [Part.formFanOut_frame]
  rfl

theorem Part.formFanOut_card (p : Part) (i : Nat) (plan : Plan) (k : Nat) :
    (p.formFanOut i plan).1.card k = p.card k := by
  rw [Part.formFanOut_frame]
  rfl

/-! ### The statement -/

/-- Settles O26: the request by its checks in order; the next position by the stop, the clip list and the clip. -/
theorem offloadStarted : Obligations.OffloadStarted := by
  refine ⟨fun s d i h => ⟨fun hi => ?range, fun hi hc => ?free, fun card hi hc => ⟨fun hl => ?absent, fun l hl => ?_⟩⟩,
    fun p x => ?plan, fun p l x card hx hc hlen => ?consider,
    fun p i plan => ⟨rfl, ?sublist, fun vs v c hi => ⟨fun hu hw => ?taken, fun hn => ?left⟩⟩,
    fun p l i k c vs x hx => ?takeUp⟩
  case range => exact declines_of_refuse h rfl (Part.startRequest_of_range _ hi) rfl
  case free => exact declines_of_refuse h rfl (Part.startRequest_of_free _ hi hc) rfl
  case absent => exact declines_of_refuse h rfl (Part.startRequest_of_absent _ hi hc hl) rfl
  case plan => simp only [p.planPasses_iff, p.usable_iff]
  case sublist =>
    obtain ⟨kept, hkept, hsub⟩ := foldl_fanOutStep_sublist i plan.volumes (p, [])
    exact (hkept : (p.formFanOut i plan).2 = [] ++ kept) ▸ hsub
  case taken =>
    rw [p.formFanOut_append]
    exact fanOutStep_of_taken hi ((p.formFanOut_usable i _ v).trans hu) hw
  case left =>
    rw [p.formFanOut_append]
    exact fanOutStep_of_left hi (hn.imp_left ((p.formFanOut_usable i _ v).trans ·))
  case takeUp =>
    cases hd : c.ingestDigest <;>
      simp [Part.takeUp, Part.modOffload, Part.clearAnalyzer, Part.modAnalyzer, hd, hx]
  case consider =>
    have hcard := p.card_modCard_self x.card (fun c => { c with nextPos := card.nextPos + 1 }) card hc
    refine ⟨fun hs => ?_, fun hs hk => ?_, fun i c hs hk hi => ?_⟩
    · rw [Part.consider_of_stop hx hc hs]
      exact p.modReader_congr l _ _ (by simp [hx])
    · rw [Part.consider_of_end hx hc hs hk]
      exact p.modReader_congr l _ _ (by simp [hx])
    · rw [Part.consider_of_clip hx hc hs hk hi]
      refine ⟨fun hw => ?_, fun hw hm hsk => ?_, fun hw hm => ⟨fun hd hf => ?_, fun hd => ?_⟩⟩
      · rw [if_pos hw]
        exact Part.considerFrom_eq_consider (Part.positionsLeft_le hx (Part.card_modCard_self _ _ _ _ hcard) hlen)
      · rw [if_neg (by simp [hw]), if_pos (by simp [hm, hsk])]
        exact Part.considerFrom_eq_consider (Part.positionsLeft_le hx (Part.card_modCard_self _ _ _ _ hcard) hlen)
      · have hmark : (c.marked && card.plan.skipMarked) = false := by rcases hm with hm | hm <;> simp [hm]
        rw [if_neg (by simp [hw]), if_neg (by simp [hmark]), if_pos (by simp [hf, Option.isSome_iff_ne_none, hd])]
        exact Part.considerFrom_eq_consider (Part.positionsLeft_le (card' := { card with nextPos := card.nextPos + 1 })
          (by rw [Part.formFanOut_reader]; exact hx) (by rw [Part.formFanOut_card]; exact hcard) hlen)
      · have hmark : (c.marked && card.plan.skipMarked) = false := by rcases hm with hm | hm <;> simp [hm]
        rw [if_neg (by simp [hw]), if_neg (by simp [hmark]), if_neg (by rcases hd with hd | hd <;> simp [hd])]
  have hreply := Part.startRequest_of_present s.part.quiet hi hc hl
  refine ⟨fun hb => ?busy, fun hb hs => ⟨fun hu => ?unsensed, fun hu => ⟨fun hr hh => ?state, fun hst =>
    ⟨fun hp => ?invalid, fun hp => ?started⟩⟩⟩⟩
  case busy => exact declines_of_refuse h rfl (hreply.trans (if_pos hb)) rfl
  case unsensed => exact declines_of_refuse h rfl (hreply.trans (by simp [hb, hs, hu])) rfl
  case state => exact declines_of_refuse h rfl (hreply.trans (by simp [hb, hs, hu, hr, hh])) rfl
  case invalid =>
    have hp : s.part.quiet.planPasses card.plan = false := hp
    exact declines_of_refuse h rfl (hreply.trans (by rcases hst with hst | hst <;> simp [hb, hs, hu, hst, hp])) rfl
  case started =>
    have hp : s.part.quiet.planPasses card.plan = true := hp
    exact taken_of_reply (q := s.part.quiet.startOffload l i) h rfl
      (hreply.trans (by rcases hst with hst | hst <;> simp [hb, hs, hu, hst, hp])) rfl

end Sys2Proof.Machine

/-! The offload stopped (03): Stop Offload, Clear Trip, the drain, how an offload ends and a clip is abandoned; the
slots and their queue. -/

namespace Sys2Proof.Machine

/-! ### Stop Offload and Clear Trip (R63, R69) -/

/-- A change of the offload of a lane that has one. -/
theorem Part.modOffload_of_some {p : Part} {l : Fin 6} {x : OffloadCtx} (h : (p.reader l).offload = some x)
    (f : OffloadCtx → OffloadCtx) : p.modOffload l f = p.modReader l fun r => { r with offload := some (f x) } :=
  p.modReader_congr l _ _ (by simp [h])

theorem Part.stopRequest_of_used (p : Part) {i option : Nat} {card : Card} (hi : i ≤ 31) (ho : option ≤ 1)
    (h : p.card i = some card) :
    p.stopRequest i option =
      if card.state ≠ .offloading then p.refuse .wrongState
      else
        match p.offloadLane i with
        | none => p.accept
        | some l =>
          if option = 0 then
            (p.modOffload l fun x => if x.done.isNone then { x with stop := true } else x).accept
          else (p.stopOffload l .bound .abnormal .stopped .none).accept := by
  rw [Part.stopRequest, if_neg (by omega)]
  simp only [h] <;> rfl

theorem Part.clearTrip_of_used (p : Part) {i : Nat} {card : Card} (hi : i ≤ 31) (h : p.card i = some card) :
    p.clearTrip i =
      if card.state ≠ .tripped then p.refuse .wrongState
      else
        ((match card.lane with
          | some l => p.modReader l fun r => { r with trips := List.replicate 8 0 }
          | none => p).holdCard i).accept := by
  rw [Part.clearTrip, if_neg (by omega)]
  simp only [h] <;> rfl

/-! ### How an offload ends (R62, 3.6) -/

theorem Part.drainEnd_of_waiting {p : Part} {l : Fin 6} {x : OffloadCtx} (h : (p.reader l).offload = some x)
    (hw : x.done = none ∨ p.slotsOf l ≠ []) : p.drainEnd l = p := by
  rcases hw with hd | hs
  · simp only [Part.drainEnd, h, hd]
  · simp only [Part.drainEnd, h]
    split
    · exact if_neg (by simpa using hs)
    · rfl

theorem Part.drainEnd_of_drained {p : Part} {l : Fin 6} {x : OffloadCtx} {atClip : Bool}
    (h : (p.reader l).offload = some x) (hd : x.done = some atClip) (hs : p.slotsOf l = []) :
    p.drainEnd l = p.endOffload l .bound .normal (if atClip then .stoppedAtClip else .complete) .none := by
  simp only [Part.drainEnd, h, hd, hs, List.isEmpty_nil, if_true]

/-- Abandoning the request of an owner, as one test. -/
theorem ReaderLane.abandonOf_eq (r : ReaderLane) (owner : ReaderOwner) :
    r.abandonOf owner = if (r.out.any fun o => o.owner == owner) = true then { r with out := none, retries := 0 } else r := by
  cases hout : r.out with
  | none => simp [ReaderLane.abandonOf, hout]
  | some o => simp [ReaderLane.abandonOf, hout, ReaderLane.abandon]

theorem Part.endOffload_of_some {p : Part} {l : Fin 6} {x : OffloadCtx} {card : Card}
    (h : (p.reader l).offload = some x) (hc : p.card x.card = some card) (dst : ReaderState) (cls : TermClass)
    (cause : Cause) (detail : Detail) :
    p.endOffload l dst cls cause detail =
      (((p.leaveQueue l).modReader l fun r =>
        { r.abandonOf .offload with
          state := dst, offload := none,
          term := { record := some { cls := cls, op := .offload, cause := cause, ref := .card x.card,
                                     counts := [card.nextPos, card.copied, card.failed, card.skipped],
                                     detail := detail },
                    unsensed := true } }).modCard x.card fun c => { c with state := .held }).evaluate x.card := by
  simp only [Part.endOffload, h, Part.dropOffload, Part.termReader, Part.modReader_modReader, Part.holdCard,
    Part.offloadTerm, hc, TermSlot.leave]

/-- The abandonment of the current clip of an offload (R60). -/
theorem Part.abandonClip_of_current {p : Part} {l : Fin 6} {x : OffloadCtx} {cur : Current} {c : Clip}
    (h : (p.reader l).offload = some x) (hcur : x.current = some cur) (hc : p.clip cur.clip = some c) :
    p.abandonClip l =
      (((((p.clearAnalyzer l).each c.writingVolumes fun q v => q.removeWriting cur.clip v).cancelClip l
        cur.clip).leaveQueue l).modOffload l fun x => { x with current := none }) := by
  have hclip : (p.clearAnalyzer l).clip cur.clip = some c := hc
  simp only [Part.abandonClip, h, Option.bind_some, hcur, hclip]

/-! ### The slots and their queue (R53) -/

theorem Part.awaited_isNone (p : Part) (l : Fin 6) :
    (p.awaited l).isNone = true ↔ ∀ s ∈ p.pool.slots, s.lane = l → s.data ≠ none := by
  simp [Part.awaited]

theorem Part.wantsSlot_iff (p : Part) (l : Fin 6) :
    p.wantsSlot l = true ↔
      (∀ s ∈ p.pool.slots, s.lane = l → s.data ≠ none) ∧
        (((p.reader l).state = .offloading ∧
            ∃ x cur, (p.reader l).offload = some x ∧ x.current = some cur ∧ cur.fanOut ≠ []) ∨
          ((p.reader l).state = .bound ∧
            ∃ d x c, (p.reader l).serves = some d ∧ p.recopyOf d = some x ∧ p.clip x.clip = some c ∧
              x.next < c.blockCount)) := by
  rw [Part.wantsSlot, Bool.and_eq_true, p.awaited_isNone]
  refine and_congr_right fun _ => ?_
  cases hst : (p.reader l).state with
  | offloading =>
    cases ho : (p.reader l).offload with
    | none => simp
    | some x => cases hcur : x.current <;> simp [hcur]
  | bound =>
    cases hs : (p.reader l).serves with
    | none => simp
    | some d =>
      cases hx : p.recopyOf d with
      | none => simp [hx]
      | some x => cases hc : p.clip x.clip <;> simp [hx, hc]
  | _ => simp

/-- The lanes of a list that want a slot and do not wait yet join the tail, in the order of the list. -/
theorem Part.each_join (p : Part) (ls : List (Fin 6)) (hnodup : ls.Nodup) (queue : List (Fin 6)) :
    ({ p with pool := { p.pool with queue := queue } } : Part).each ls (fun p l =>
        if p.wantsSlot l then { p with pool := { p.pool with queue := addOnce p.pool.queue l } } else p) =
      { p with pool := { p.pool with
          queue := queue ++ ls.filter fun l => p.wantsSlot l && !queue.contains l } } := by
  induction ls generalizing queue with
  | nil => simp [Part.each]
  | cons l ls ih =>
    obtain ⟨hl, hnodup⟩ := List.nodup_cons.1 hnodup
    have hwants : ({ p with pool := { p.pool with queue := queue } } : Part).wantsSlot l = p.wantsSlot l := rfl
    have hstep := ih hnodup
    simp only [Part.each, List.foldl_cons] at hstep ⊢
    rw [hwants]
    by_cases hw : p.wantsSlot l = true
    · rw [if_pos hw, hstep]
      by_cases hq : l ∈ queue
      · simp [addOnce, hq]
      · have hfilter : (ls.filter fun k => p.wantsSlot k && !(queue ++ [l]).contains k) =
            ls.filter fun k => p.wantsSlot k && !queue.contains k :=
          List.filter_congr fun k hk => by
            have : k ≠ l := fun e => hl (e ▸ hk)
            simp [this]
        simp only [addOnce, hq, if_false]
        rw [hfilter, List.filter_cons_of_pos (by simp [hw, hq]), List.append_assoc]
        rfl
    · rw [if_neg hw, hstep, List.filter_cons_of_neg (by simp [hw])]

theorem Part.grantSlots_of_grant {p : Part} {l : Fin 6} {id : Nat} (n : Nat)
    (hw : (p.pool.queue.find? fun l => decide ((p.slotsOf l).length < 16)) = some l) (hf : p.freeSlotId = some id) :
    Part.grantSlots (n + 1) p =
      match p.newSlot l id with
      | some s => Part.grantSlots n ((p.leaveQueue l).setSlots fun ss => ss ++ [s])
      | none => Part.grantSlots n (p.leaveQueue l) := by
  have hw : (p.pool.queue.find? fun l => decide ((p.slotsOf l).length < Config.slotsPerLane)) = some l := hw
  rw [Part.grantSlots]
  simp only [hw, hf] <;> rfl

theorem Part.grantSlots_of_none {p : Part} (n : Nat)
    (h : (p.pool.queue.find? fun l => decide ((p.slotsOf l).length < 16)) = none ∨ p.freeSlotId = none) :
    Part.grantSlots n p = p := by
  cases n with
  | zero => rfl
  | succ n =>
    rw [Part.grantSlots]
    split
    · next hw hf => exact h.elim (fun hn => by cases hn.symm.trans hw) (fun hn => by cases hn.symm.trans hf)
    · rfl

theorem Part.freeSlotId_eq_some {p : Part} {id : Nat} (h : p.freeSlotId = some id) :
    id < 48 ∧ ∀ s ∈ p.pool.slots, s.id ≠ id := by
  obtain ⟨hfree, hlt, -⟩ := List.find?_range_eq_some.1 h
  exact ⟨List.mem_range.1 hlt, by simpa [Part.slot] using hfree⟩

theorem Part.freeSlotId_eq_none {p : Part} (h : p.freeSlotId = none) {n : Nat} (hn : n < 48) :
    ∃ s ∈ p.pool.slots, s.id = n := by
  have := List.find?_range_eq_none.1 h n hn
  simpa [Part.slot] using this

/-- Each grant takes a lane off the queue, so as many rounds as lanes that wait leave none that could be served. -/
theorem Part.grantSlots_served (n : Nat) :
    ∀ p : Part, p.pool.queue.length ≤ n →
      (Part.grantSlots n p).freeSlotId = none ∨
        ∀ l ∈ (Part.grantSlots n p).pool.queue, 16 ≤ ((Part.grantSlots n p).slotsOf l).length := by
  induction n with
  | zero =>
    intro p h
    have hnil : p.pool.queue = [] := List.length_eq_zero_iff.1 (Nat.le_zero.1 h)
    exact Or.inr fun l hl => by rw [Part.grantSlots, hnil] at hl; cases hl
  | succ n ih =>
    intro p h
    cases hw : p.pool.queue.find? fun l => decide ((p.slotsOf l).length < 16) with
    | none =>
      rw [Part.grantSlots_of_none _ (Or.inl hw)]
      exact Or.inr fun l hl => by simpa using List.find?_eq_none.1 hw l hl
    | some l =>
      cases hf : p.freeSlotId with
      | none =>
        rw [Part.grantSlots_of_none _ (Or.inr hf)]
        exact Or.inl hf
      | some id =>
        have hmem : l ∈ p.pool.queue := List.mem_of_find?_eq_some hw
        have hleft : (p.leaveQueue l).pool.queue.length ≤ n := by
          have : (p.pool.queue.filter fun k => k != l).length < p.pool.queue.length :=
            List.length_filter_lt_length_iff_exists.2 ⟨l, hmem, by simp⟩
          exact Nat.le_of_lt_succ (this.trans_le h)
        rw [Part.grantSlots_of_grant n hw hf]
        cases p.newSlot l id with
        | none => exact ih _ hleft
        | some s => exact ih _ hleft

/-! ### The statement -/

/-- Settles O27, operation by operation of its text. -/
theorem offloadStopped : Obligations.OffloadStopped := by
  refine ⟨fun s d i option h => ⟨fun hr => ?range, fun hi ho hc => ?free, fun card hi hc => ⟨fun ho hst => ?state,
      fun l x hst hl hx => ⟨fun ho => ?atClip, fun ho => ?now⟩⟩⟩,
    fun s d i h => ⟨fun hr => ?tripRange, fun hi hc => ?tripFree, fun card hi hc => ⟨fun hst => ?tripState,
      fun hst hl => ?tripAbsent, fun l hst hl => ?tripPresent⟩⟩,
    fun p l x hx => ⟨Part.drainEnd_of_waiting hx, fun atClip => Part.drainEnd_of_drained hx⟩,
    fun p l dst cls cause detail => ⟨?stop, fun x card hx hc => ?ends⟩,
    fun p l x hx => ⟨fun hcur => ?noClip, fun cur c hcur hc => ?abandon⟩,
    fun p l => p.wantsSlot_iff l,
    fun p => p.each_join allReaders (by decide) p.pool.queue,
    fun p l id => ⟨fun x cur c hst hx hcur hc => ?newOffload, fun d x c hst hs hx hc => ?newRecopy⟩,
    fun p n => ⟨rfl, Part.grantSlots_of_none n, fun l id hw hf => ?grant⟩,
    fun p id => ⟨Part.freeSlotId_eq_some, fun hn n => Part.freeSlotId_eq_none hn⟩,
    Part.grantSlots_served 54⟩
  case range => exact declines_of_refuse h rfl (if_pos hr) rfl
  case free =>
    refine declines_of_refuse h rfl ?_ rfl
    rw [Part.stopRequest, if_neg (by omega)]
    simp [hc]
  case state =>
    exact declines_of_refuse h rfl ((Part.stopRequest_of_used s.part.quiet hi ho hc).trans (if_pos hst)) rfl
  case atClip =>
    have hl : s.part.quiet.offloadLane i = some l := hl
    have hx : (s.part.quiet.reader l).offload = some x := hx
    refine taken_of_reply h rfl ((Part.stopRequest_of_used s.part.quiet hi (by omega) hc).trans ?_) rfl
    rw [if_neg (not_not.2 hst)]
    simp only [hl, if_pos ho, Part.modOffload_of_some hx, Option.isNone_iff_eq_none]
    rfl
  case now =>
    have hl : s.part.quiet.offloadLane i = some l := hl
    refine taken_of_reply h rfl ((Part.stopRequest_of_used s.part.quiet hi (by omega) hc).trans ?_) rfl
    rw [if_neg (not_not.2 hst)]
    simp only [hl, if_neg (show ¬ option = 0 by omega)]
    rfl
  case tripRange => exact declines_of_refuse h rfl (if_pos hr) rfl
  case tripFree =>
    refine declines_of_refuse h rfl ?_ rfl
    rw [Part.clearTrip, if_neg (by omega)]
    simp [hc]
  case tripState =>
    exact declines_of_refuse h rfl ((Part.clearTrip_of_used s.part.quiet hi hc).trans (if_pos hst)) rfl
  case tripAbsent =>
    refine taken_of_reply h rfl ((Part.clearTrip_of_used s.part.quiet hi hc).trans ?_) rfl
    rw [if_neg (not_not.2 hst), hl]
    rfl
  case tripPresent =>
    refine taken_of_reply h rfl ((Part.clearTrip_of_used s.part.quiet hi hc).trans ?_) rfl
    rw [if_neg (not_not.2 hst), hl]
    rfl
  case stop => simp only [Part.stopOffload, ReaderLane.abandonOf_eq]
  case ends => simp only [Part.endOffload_of_some hx hc, ReaderLane.abandonOf_eq]; rfl
  case noClip => simp [Part.abandonClip, hx, hcur]
  case abandon => exact Part.abandonClip_of_current hx hcur hc
  case newOffload => simp only [Part.newSlot, hst, hx, Option.bind_some, hcur, hc, Option.map_some]
  case newRecopy => simp only [Part.newSlot, hst, hs, Option.bind_some, hx, hc, Option.map_some]
  case grant =>
    rw [Part.grantSlots_of_grant n hw hf]
    exact ⟨fun hn => by rw [hn]; rfl, fun s hs => by rw [hs]; rfl⟩

end Sys2Proof.Machine

/-! Cards released, retired, erased and mounted again (01, 02); waivers and look namings (01, 07); the fault policy (06). -/

namespace Sys2Proof.Machine

/-! ### Release and retirement (R20, R21) -/

theorem Part.releaseCard_of_used (p : Part) {i : Nat} {card : Card} (h : p.card i = some card) :
    p.releaseCard i =
      if card.state ≠ .secured then p.refuse .wrongState
      else
        (((p.modCard i fun c =>
          { c with state := .released, erased := false, eraseIncomplete := false }).raiseCustody).loseAll
          (.card i)).accept := by
  simp only [Part.releaseCard, h]

theorem Part.retireCard_of_used (p : Part) {i : Nat} {card : Card} (h : p.card i = some card) :
    p.retireCard i =
      if card.state ≠ .released then p.refuse .wrongState
      else if p.cardInUse card = true then p.refuse .inUse
      else
        let q := p.each card.clips Part.retireClip
        ({ q with cards := tdel q.cards i } : Part).answerWith (leBytes 1 card.clips.length) := by
  simp only [Part.retireCard, h]

theorem any_allChannels (f : Fin 2 → Bool) : allChannels.any f = true ↔ ∃ c, f c = true := by
  rw [List.any_eq_true]
  exact ⟨fun ⟨c, _, hc⟩ => ⟨c, hc⟩, fun ⟨c, hc⟩ => ⟨c, by fin_cases c <;> decide, hc⟩⟩

theorem Part.cardInUse_iff (p : Part) (card : Card) :
    p.cardInUse card = true ↔
      card.lane ≠ none ∨ (∃ c k, (p.channel c).clip = some k ∧ k ∈ card.clips) ∨
        (∃ e ∈ p.render.queue, e.clip ∈ card.clips) ∨
        ∃ k ∈ card.clips, ∃ c e, p.clip k = some c ∧ e ∈ c.copies ∧ (e.state = .writing ∨ e.state = .verifying) := by
  simp only [Part.cardInUse, Bool.or_eq_true, any_allChannels, Option.isSome_iff_ne_none, or_assoc]
  refine or_congr_right (or_congr (exists_congr fun c => ?_) (or_congr (by simp) ?_))
  · cases (p.channel c).clip <;> simp
  simp only [Part.clipsOf, List.any_eq_true, List.mem_filterMap, Bool.or_eq_true, beq_iff_eq]
  constructor
  · rintro ⟨c, ⟨k, hk, hc⟩, e, he, hst⟩
    exact ⟨k, hk, c, e, hc, he, hst⟩
  · rintro ⟨k, hk, c, e, hc, he, hst⟩
    exact ⟨c, ⟨k, hk, hc⟩, e, he, hst⟩

theorem Part.refRelease_clips (p : Part) (kind : RefKind) (look : Option Nat) :
    (p.refRelease kind look).clips = p.clips := by
  cases look <;> rfl

/-- A change of a look that is ACTIVE. -/
theorem Part.look_modLook_self (p : Part) (l : Nat) (f : Look → Look) {k : Look} (h : p.look l = some k) :
    (p.modLook l f).look l = some (f k) := by
  have h : tget p.looks l = some k := h
  simp [Part.look, Part.modLook, tget_tmod, h]

theorem Part.look_modLook_other (p : Part) (l m : Nat) (f : Look → Look) (h : m ≠ l) :
    (p.modLook l f).look m = p.look m := by
  simp [Part.look, Part.modLook, tget_tmod, h]

/-- A clip withdrawn from every verify list. -/
def Part.unlist (p : Part) (i : Nat) : Part :=
  { p with
    volumes := p.volumes.map fun e => (e.1, { e.2 with verifyList := e.2.verifyList.filter fun k => k != i }) }

theorem Part.retireClip_of_used (p : Part) {i : Nat} {c : Clip} (h : p.clip i = some c) :
    p.retireClip i =
      { (p.unlist i).refRelease .clips c.look with
        clips := ((p.unlist i).refRelease .clips c.look).clips.filter fun e => e.1 != i } := by
  simp only [Part.retireClip, h, Option.bind_some]
  rfl

theorem Part.clip_retireClip (p : Part) {i : Nat} {c : Clip} (h : p.clip i = some c) (k : Nat) :
    (p.retireClip i).clip k = if k = i then none else p.clip k := by
  rw [p.retireClip_of_used h, Part.refRelease_clips]
  exact tget_tdel p.clips i k

/-- Settles O28. -/
theorem cardReleasedAndRetired : Obligations.CardReleasedAndRetired := by
  refine ⟨fun s d i h => ⟨fun hc => ?free, fun card hc => ⟨fun hst => ?unsecured, fun hst => ?released⟩⟩,
    fun s d i h => ⟨fun hc => ?retireFree, fun card hc => ⟨fun hst => ?unreleased, fun hst hu => ?inUse,
      fun hst hu => ?retired⟩⟩,
    Part.cardInUse_iff,
    fun p i c hc => ⟨p.retireClip_of_used hc, ?gone, fun k hk => ?others, fun hl => ?noLook, fun l k hl hk => ?look⟩⟩
  case free => exact declines_of_refuse h rfl (by simp [Part.releaseCard, hc]) rfl
  case unsecured => exact declines_of_refuse h rfl ((Part.releaseCard_of_used s.part.quiet hc).trans (if_pos hst)) rfl
  case released =>
    exact taken_of_reply h rfl ((Part.releaseCard_of_used s.part.quiet hc).trans (if_neg (not_not.2 hst))) rfl
  case retireFree => exact declines_of_refuse h rfl (by simp [Part.retireCard, hc]) rfl
  case unreleased => exact declines_of_refuse h rfl ((Part.retireCard_of_used s.part.quiet hc).trans (if_pos hst)) rfl
  case inUse =>
    exact declines_of_refuse h rfl ((Part.retireCard_of_used s.part.quiet hc).trans
      ((if_neg (not_not.2 hst)).trans (if_pos hu))) rfl
  case retired =>
    have hu : ¬ s.part.quiet.cardInUse card = true := Bool.eq_false_iff.1 hu
    exact taken_of_reply h rfl ((Part.retireCard_of_used s.part.quiet hc).trans
      ((if_neg (not_not.2 hst)).trans (if_neg hu))) rfl
  case gone => rw [p.clip_retireClip hc, if_pos rfl]
  case others => rw [p.clip_retireClip hc, if_neg hk]
  case noLook => rw [hl]; rfl
  case look => rw [hl]; exact Part.look_modLook_self (p.unlist i) l _ hk

/-! ### Erase Card and Remount (R42, R70) -/

theorem Part.eraseRequest_of_used (p : Part) {i : Nat} {card : Card} (hi : i ≤ 31) (h : p.card i = some card)
    (hst : card.state = .released) (he : card.erased = false) :
    p.eraseRequest i =
      match card.lane with
      | none => p.refuse .notPresent
      | some l =>
        if (p.reader l).state ≠ .bound ∨ (p.reader l).serves ≠ none then p.refuse .busy
        else if (p.reader l).term.unsensed = true then p.refuse .unsensed
        else if card.writeProtected = true then p.refuse .isProtected
        else (p.startErase l i, Answer.bare .accepted) := by
  rw [Part.eraseRequest, if_neg (by omega)]
  simp only [h, hst, he, ne_eq, not_true_eq_false, Bool.false_eq_true, or_self, if_false, Option.isSome_iff_ne_none] <;> rfl

theorem unitAt_val {n : Nat} (l : Fin n) : unitAt n l.val = some l := unitAt_of_lt n l.val l.isLt

theorem Part.remountRequest_of_lane (p : Part) (l : Fin 6) :
    p.remountRequest l.val =
      let r := p.reader l
      if r.state = .noReader ∨ (r.state = .empty ∧ r.mountPending = false) then p.refuse .notPresent
      else if r.state = .mounting ∨ r.state = .offloading ∨ r.state = .erasing ∨ r.state = .equipment ∨
          r.serves ≠ none then
        p.refuse .busy
      else if r.term.unsensed = true then p.refuse .unsensed
      else (p.startMount l, Answer.bare .accepted) := by
  simp only [Part.remountRequest, unitAt_val, Option.isSome_iff_ne_none]

/-- Settles O29: each request by its checks in order. -/
theorem eraseAndRemountStarted : Obligations.EraseAndRemountStarted := by
  refine ⟨fun s d i h => ⟨fun hi => ?range, fun hi hc => ?free, fun card hi hc => ⟨fun hst => ?state, fun hst he =>
    ⟨fun hl => ?absent, fun l hl => ?present⟩⟩⟩, fun s d n h => ⟨fun hn => ?laneRange, fun l hl => ?lane⟩⟩
  case range => exact declines_of_refuse h rfl (if_pos hi) rfl
  case free =>
    refine declines_of_refuse h rfl ?_ rfl
    rw [Part.eraseRequest, if_neg (by omega)]
    simp [hc]
  case state =>
    refine declines_of_refuse h rfl ?_ rfl
    rw [Part.eraseRequest, if_neg (by omega)]
    simp [hc, hst]
  case absent =>
    exact declines_of_refuse h rfl ((Part.eraseRequest_of_used s.part.quiet hi hc hst he).trans (by rw [hl])) rfl
  case present =>
    have hreply := Part.eraseRequest_of_used s.part.quiet hi hc hst he
    rw [hl] at hreply
    refine ⟨fun hb => ?_, fun hb hs => ⟨fun hu => ?_, fun hu => ⟨fun hp => ?_, fun hp => ?_⟩⟩⟩
    · exact declines_of_refuse h rfl (hreply.trans (if_pos hb)) rfl
    · exact declines_of_refuse h rfl (hreply.trans (by simp [hb, hs, hu])) rfl
    · exact declines_of_refuse h rfl (hreply.trans (by simp [hb, hs, hu, hp])) rfl
    · exact taken_of_reply (q := s.part.quiet.startErase l i) h rfl (hreply.trans (by simp [hb, hs, hu, hp])) rfl
  case laneRange =>
    exact declines_of_refuse h rfl (by rw [Part.remountRequest, unitAt_of_ge 6 n (by omega)]) rfl
  case lane =>
    subst hl
    have hreply := Part.remountRequest_of_lane s.part.quiet l
    refine ⟨fun hst => ?_, fun hst => ?_, fun hst => ?_⟩
    · exact declines_of_refuse h rfl (hreply.trans (if_pos hst)) rfl
    · have hpresent : ¬ ((s.part.reader l).state = .noReader ∨
          ((s.part.reader l).state = .empty ∧ (s.part.reader l).mountPending = false)) := by
        rcases hst with hst | hst | hst | hst <;> simp [hst]
      refine declines_of_refuse h rfl (hreply.trans ((if_neg hpresent).trans (if_pos ?_))) rfl
      exact hst.imp_right (Or.imp_right (Or.imp_right Or.inl))
    · have hpresent : ¬ ((s.part.reader l).state = .noReader ∨
          ((s.part.reader l).state = .empty ∧ (s.part.reader l).mountPending = false)) := by
        rcases hst with hst | hst | hst | ⟨hst, hm⟩ <;> simp [hst]
        exact hm
      have hreply := hreply.trans (if_neg hpresent)
      have hidle (hs : (s.part.reader l).serves = none) : ¬ ((s.part.reader l).state = .mounting ∨
          (s.part.reader l).state = .offloading ∨ (s.part.reader l).state = .erasing ∨
          (s.part.reader l).state = .equipment ∨ (s.part.reader l).serves ≠ none) := by
        rcases hst with hst | hst | hst | ⟨hst, -⟩ <;> simp [hst, hs]
      refine ⟨fun hs => ?_, fun hs hu => ?_, fun hs hu => ?_⟩
      · refine declines_of_refuse h rfl (hreply.trans (if_pos ?_)) rfl
        exact Or.inr (Or.inr (Or.inr (Or.inr hs)))
      · exact declines_of_refuse h rfl (hreply.trans ((if_neg (hidle hs)).trans (if_pos hu))) rfl
      · exact taken_of_reply (q := s.part.quiet.startMount l) h rfl
          (hreply.trans ((if_neg (hidle hs)).trans (if_neg (Bool.eq_false_iff.1 hu)))) rfl

/-! ### Waivers (R24, R25) -/

theorem Part.clip_modClip_self (p : Part) (i : Nat) (f : Clip → Clip) {c : Clip} (h : p.clip i = some c) :
    (p.modClip i f).clip i = some (f c) := by
  have h : tget p.clips i = some c := h
  simp [Part.clip, Part.modClip, tget_tmod, h]

theorem Part.setCustody_of_used (p : Part) {i : Nat} {c : Clip} (h : p.clip i = some c) (x : Custody) :
    p.setCustody i x = (p.modClip i fun y => { y with custody := x }).evaluate c.card := by
  simp only [Part.setCustody, Part.evaluateClip, p.clip_modClip_self i _ h]

/-- Settles O30. -/
theorem waiversSet : Obligations.WaiversSet := by
  refine fun s d i => ⟨fun h => ⟨fun hc => ?free, fun c hc => ⟨fun hd => ?decided, fun hd => ?waived⟩⟩,
    fun h => ⟨fun hc => ?unFree, fun c hc => ⟨fun hd => ?unDecided, fun hd hn => ?unwaived⟩⟩⟩
  all_goals have hcustody (c : Clip) (hc : s.part.clip i = some c) := Part.setCustody_of_used s.part.quiet (c := c) hc
  case free => exact declines_of_refuse h rfl (by simp [Part.waiveClip, hc]) rfl
  case decided =>
    have hd : s.part.quiet.cardDecided c = true := hd
    exact declines_of_refuse h rfl (by simp [Part.waiveClip, hc, hd]) rfl
  case waived =>
    have hd : s.part.quiet.cardDecided c = false := hd
    refine taken_of_reply h rfl (a := .bare .ok) ?_ rfl
    simp only [Part.waiveClip, Part.clip_quiet, hc, hd, Bool.false_eq_true, if_false, hcustody c hc]
    rfl
  case unFree => exact declines_of_refuse h rfl (by simp [Part.unwaiveClip, hc]) rfl
  case unDecided =>
    have hd : s.part.quiet.cardDecided c = true ∨ c.custody = .normal := hd
    exact declines_of_refuse h rfl (by simp [Part.unwaiveClip, hc, hd]) rfl
  case unwaived =>
    have hd : s.part.quiet.cardDecided c = false := hd
    refine taken_of_reply h rfl (a := .bare .ok) ?_ rfl
    simp only [Part.unwaiveClip, Part.clip_quiet, hc, hd, hn, Bool.false_eq_true, or_self, if_false, hcustody c hc]
    rfl

/-! ### Look namings (R16, R17, R26, R150) -/

theorem lookAbove_eq_true (look : Option Nat) : lookAbove look = true ↔ ∃ l, look = some l ∧ 63 < l := by
  cases look <;> simp [lookAbove]

theorem lookAbove_eq_false (look : Option Nat) : lookAbove look = false ↔ ∀ l, look = some l → l ≤ 63 := by
  cases look <;> simp [lookAbove]

theorem Part.lookFree_eq_true (p : Part) (look : Option Nat) :
    p.lookFree look = true ↔ ∃ l, look = some l ∧ p.look l = none := by
  cases look <;> simp [Part.lookFree]

theorem Part.lookFree_eq_false (p : Part) (look : Option Nat) :
    p.lookFree look = false ↔ ∀ l, look = some l → p.look l ≠ none := by
  cases look <;> simp [Part.lookFree, Option.isSome_iff_ne_none]

theorem Part.cardsOf_pos (p : Part) (letter : Nat) :
    0 < p.cardsOf letter ↔ ∃ e ∈ p.cards, e.2.id.letter = letter := by
  simp [Part.cardsOf, List.length_pos_iff_exists_mem]

theorem Part.refMove_of_ne (p : Part) (kind : RefKind) {old new : Option Nat} (h : old ≠ new) :
    p.refMove kind old new = (p.refRelease kind old).refTake kind new := if_neg h

/-- Settles O31: each request by its checks in order, and the two claims of a reference that moves. -/
theorem lookNamingsMoved : Obligations.LookNamingsMoved := by
  refine ⟨fun s d look => ⟨fun i h => ⟨fun ha => ?assignRange, fun ha => ⟨fun hn => ?assignFree, fun c hc hl => ?assigned⟩⟩,
    fun n h => ⟨fun hr => ?defaultRange, fun h65 h90 ha => ⟨fun hn => ?defaultFree, fun i cam hc hl => ?defaultSet⟩⟩,
    fun n h => ⟨fun hc => ?cameraFree, fun i cam hc => ⟨fun hu => ?cameraUsed, fun hu => ?cameraGone⟩⟩⟩,
    fun p kind old new => ⟨fun he => if_pos he, fun a b ka kb ho hn hab ha hb => ?both, fun b kb ho hn hb => ?take,
      fun a ka ho hn ha => ?release⟩⟩
  case assignRange => exact declines_of_refuse h rfl (if_pos ((lookAbove_eq_true look).2 ha)) rfl
  case assignFree =>
    have ha := (lookAbove_eq_false look).2 ha
    refine declines_of_refuse h rfl ?_ rfl
    cases hc : s.part.clip i with
    | none => simp [Part.assignLook, ha, hc]
    | some c =>
      have hfree : s.part.quiet.lookFree look = true :=
        (s.part.quiet.lookFree_eq_true look).2 (hn.resolve_left (by simp [hc]))
      simp [Part.assignLook, ha, hc, hfree]
  case assigned =>
    have hfree : s.part.quiet.lookFree look = false := (s.part.quiet.lookFree_eq_false look).2 hl
    have ha := (lookAbove_eq_false look).2 ha
    refine taken_of_reply h rfl (a := .bare .ok) ?_ rfl
    simp only [Part.assignLook, ha, Part.clip_quiet, hc, hfree, Bool.false_eq_true, if_false]
    rfl
  case defaultRange =>
    refine declines_of_refuse h rfl (if_pos ?_) rfl
    exact hr.imp (isLetter_eq_false n).2 (lookAbove_eq_true look).2
  case defaultFree =>
    have ha := (lookAbove_eq_false look).2 ha
    have hletter := (isLetter_iff n).2 ⟨h65, h90⟩
    refine declines_of_refuse h rfl ?_ rfl
    cases hc : s.part.quiet.cameraOf n with
    | none => simp [Part.setCameraDefault, ha, hletter, hc]
    | some e =>
      have hc' : s.part.cameraOf n ≠ none := fun hnone => by cases hc.symm.trans hnone
      have hfree : s.part.quiet.lookFree look = true :=
        (s.part.quiet.lookFree_eq_true look).2 (hn.resolve_left hc')
      simp [Part.setCameraDefault, ha, hletter, hc, hfree]
  case defaultSet =>
    have hfree : s.part.quiet.lookFree look = false := (s.part.quiet.lookFree_eq_false look).2 hl
    have ha := (lookAbove_eq_false look).2 ha
    have hletter := (isLetter_iff n).2 ⟨h65, h90⟩
    have hc : s.part.quiet.cameraOf n = some (i, cam) := hc
    refine taken_of_reply h rfl (a := .bare .ok) ?_ rfl
    simp only [Part.setCameraDefault, hletter, ha, hc, hfree, Bool.true_eq_false, Bool.false_eq_true, or_self, if_false]
    rfl
  case cameraFree =>
    have hc : s.part.quiet.cameraOf n = none := hc
    exact declines_of_refuse h rfl (by simp [Part.retireCamera, hc]) rfl
  case cameraUsed =>
    have hc : s.part.quiet.cameraOf n = some (i, cam) := hc
    have hu : 0 < s.part.quiet.cardsOf n := (s.part.quiet.cardsOf_pos n).2 hu
    exact declines_of_refuse h rfl (by simp [Part.retireCamera, hc, hu]) rfl
  case cameraGone =>
    have hc : s.part.quiet.cameraOf n = some (i, cam) := hc
    have hu : ¬ 0 < s.part.quiet.cardsOf n := fun hp => by
      obtain ⟨e, he, hl⟩ := (s.part.quiet.cardsOf_pos n).1 hp
      exact hu e he hl
    refine taken_of_reply h rfl (a := .bare .ok) ?_ rfl
    simp only [Part.retireCamera, hc, hu, if_false]
    rfl
  case both =>
    subst ho hn
    rw [p.refMove_of_ne kind (by simpa using hab)]
    refine ⟨?_, ?_, fun l hla hlb => ?_⟩
    · exact (Part.look_modLook_other _ b a _ hab).trans (p.look_modLook_self a _ ha)
    · exact Part.look_modLook_self _ b _ ((p.look_modLook_other a b _ (Ne.symm hab)).trans hb)
    · exact (Part.look_modLook_other _ b l _ hlb).trans (p.look_modLook_other a l _ hla)
  case take =>
    subst ho hn
    exact p.look_modLook_self b _ hb
  case release =>
    subst ho hn
    exact p.look_modLook_self a _ ha

/-! ### Set Policy (R116) -/

theorem Part.setPolicy_of_kind (p : Part) {n : Nat} {k : FaultKind} (h : faultKindOf n = some k) (x : Policy) :
    p.setPolicy n x =
      if policyOutside k x = true then p.refuse .range
      else
        let q : Part := { p with fault := { p.fault with policy := p.fault.policy.set k.index (policyStored k x) } }
        if (p.policy k).holds = x.holds then q.accept else q.evaluateAll.accept := by
  simp only [Part.setPolicy, h]

/-- A kind by its code is the one whose place in key order is the code less 1. -/
theorem faultKindOf_index {n : Nat} {k : FaultKind} (h : faultKindOf n = some k) : 1 ≤ n ∧ n ≤ 8 ∧ k.index = n - 1 := by
  have hn : ¬ (n = 0 ∨ 8 < n) := fun hr => by cases (faultKindOf_eq_none.2 hr).symm.trans h
  have : 1 ≤ n ∧ n ≤ 8 := by omega
  obtain ⟨h1, h8⟩ := this
  interval_cases n <;> cases h <;> decide

theorem exists_faultKindOf {n : Nat} (h1 : 1 ≤ n) (h8 : n ≤ 8) : ∃ k, faultKindOf n = some k :=
  Option.ne_none_iff_exists'.1 fun hn => by have := faultKindOf_eq_none.1 hn; omega

/-- The RANGE conditions of Set Policy by the code of the kind. -/
theorem policyOutside_iff {n : Nat} {k : FaultKind} (h : faultKindOf n = some k) (x : Policy) :
    policyOutside k x = true ↔
      15 < x.trip ∨ (n = 1 ∧ (x.first < 8 ∨ 255 < x.first ∨ 1023 < x.second)) ∨
        (n = 2 ∧ (x.first < 1 ∨ 1000 < x.first ∨ x.second < 1 ∨ 255 < x.second)) ∨
        (n = 3 ∧ (1023 < x.first ∨ x.second < 1 ∨ 255 < x.second)) ∨
        (5 ≤ n ∧ (x.enabled = false ∨ x.holds = false)) ∨ (n = 6 ∧ x.trip ≠ 0) := by
  obtain ⟨h1, h8, -⟩ := faultKindOf_index h
  interval_cases n <;> cases h <;>
    simp [policyOutside, FaultKind.thresholds, FaultKind.isIntegrity, outside, or_assoc]

theorem policyStored_of_kind {n : Nat} {k : FaultKind} (h : faultKindOf n = some k) (x : Policy) :
    policyStored k x =
      { x with first := if n ≤ 3 then x.first else 0, second := if n ≤ 3 then x.second else 0 } := by
  obtain ⟨h1, h8, -⟩ := faultKindOf_index h
  interval_cases n <;> cases h <;> rfl

/-- Settles O33. -/
theorem policySet : Obligations.PolicySet := by
  intro s d n e h t a b hd
  have hrange {k : FaultKind} (hk : faultKindOf n = some k)
      (ho : policyOutside k { enabled := e, holds := h, trip := t, first := a, second := b } = true) :
      Declines s d (.setPolicy n e h t a b) .range :=
    declines_of_refuse hd rfl ((Part.setPolicy_of_kind _ hk _).trans (if_pos ho)) rfl
  have hkind (h1 : 1 ≤ n) (h8 : n ≤ 8)
      (ho : ∀ k, faultKindOf n = some k →
        policyOutside k { enabled := e, holds := h, trip := t, first := a, second := b } = true) :
      Declines s d (.setPolicy n e h t a b) .range := by
    obtain ⟨k, hk⟩ := exists_faultKindOf h1 h8
    exact hrange hk (ho k hk)
  have houtside {k : FaultKind} (hk : faultKindOf n = some k) :=
    policyOutside_iff hk { enabled := e, holds := h, trip := t, first := a, second := b }
  refine ⟨fun hr => ?_, fun hn hr => hkind (by omega) (by omega) fun k hk => (houtside hk).2 (.inr (.inl ⟨hn, hr⟩)),
    fun hn hr => hkind (by omega) (by omega) fun k hk => (houtside hk).2 (.inr (.inr (.inl ⟨hn, hr⟩))),
    fun hn hr => hkind (by omega) (by omega) fun k hk => (houtside hk).2 (.inr (.inr (.inr (.inl ⟨hn, hr⟩)))),
    fun h5 h8 hr => hkind (by omega) h8 fun k hk => (houtside hk).2 (.inr (.inr (.inr (.inr (.inl ⟨h5, hr⟩))))),
    fun hn hr => hkind (by omega) (by omega) fun k hk => (houtside hk).2 (.inr (.inr (.inr (.inr (.inr ⟨hn, hr⟩))))),
    fun k hk ht h1 h2 h3 h5 h6 => ?_⟩
  · by_cases hn : n = 0 ∨ 8 < n
    · exact declines_of_refuse hd rfl (by simp [Part.setPolicy, faultKindOf_eq_none.2 hn]) rfl
    · exact hkind (by omega) (by omega) fun k hk => (houtside hk).2 (Or.inl (show 15 < t by omega))
  · have hin : ¬ policyOutside k { enabled := e, holds := h, trip := t, first := a, second := b } = true := by
      rw [houtside hk]
      rintro (hr | ⟨hn, hr⟩ | ⟨hn, hr⟩ | ⟨hn, hr⟩ | ⟨hn, hr⟩ | ⟨hn, hr⟩)
      · exact absurd hr (Nat.not_lt.2 ht)
      · have := h1 hn; dsimp only at hr; omega
      · have := h2 hn; dsimp only at hr; omega
      · have := h3 hn; dsimp only at hr; omega
      · obtain ⟨he, hh⟩ := h5 hn
        exact hr.elim (fun hr => by cases he.symm.trans hr) (fun hr => by cases hh.symm.trans hr)
      · exact hr (h6 hn)
    have hreply := (Part.setPolicy_of_kind s.part.quiet hk
      { enabled := e, holds := h, trip := t, first := a, second := b }).trans (if_neg hin)
    rw [(faultKindOf_index hk).2.2, policyStored_of_kind hk] at hreply
    intro stored q
    by_cases hh : (s.part.policy k).holds = h
    · rw [if_pos hh]
      exact taken_of_reply hd rfl (hreply.trans (if_pos hh)) rfl
    · rw [if_neg hh]
      exact taken_of_reply hd rfl (hreply.trans (if_neg hh)) rfl

end Sys2Proof.Machine

/-! Faults (06): Acknowledge Fault; the merge of a raise into a clip's fault set, and the entry that a fifth COPY_MISMATCH
key displaces. -/

namespace Sys2Proof.Machine

/-! ### Acknowledge Fault (R132) -/

theorem Part.acknowledgeFault_of_used (p : Part) {i n v : Nat} {k : FaultKind} {c : Clip}
    (hk : faultKindOf n = some k) (hi : i ≤ 1023) (hv : k = .copyMismatch → v ≤ 7) (hc : p.clip i = some c) :
    p.acknowledgeFault i n v =
      match c.faultWith k (if k = .copyMismatch then v else 0) with
      | none => p.refuse .notFound
      | some f =>
        (p.acknowledge i k (if k = .copyMismatch then v else 0)).answerWith (countByte f.count f.saturated) := by
  have hr : ¬ (1023 < i ∨ (k = .copyMismatch ∧ 7 < v)) := by
    rintro (h | ⟨h, hv7⟩)
    · omega
    · exact absurd (hv h) (Nat.not_le.2 hv7)
  simp only [Part.acknowledgeFault, hk, hr, if_false, hc, Option.bind_some] <;> rfl

theorem Part.acknowledge_of_entry (p : Part) {i v : Nat} {k : FaultKind} {c : Clip} {f : FaultEntry}
    (hc : p.clip i = some c) (hf : c.faultWith k v = some f) :
    p.acknowledge i k v =
      if f.state = .opened then
        (p.modClip i fun c =>
          { c with faults := modWhere c.faults (fun f => f.kind == k && f.vol == v)
                      fun f => { f with state := .acknowledged } }).evaluate c.card
      else p := by
  simp only [Part.acknowledge, hc, hf]

/-! ### A merge into a fault set (R111) -/

/-- Whether an entry has a key. -/
def FaultEntry.has (k : FaultKind) (v : Nat) (f : FaultEntry) : Bool := f.kind == k && f.vol == v

theorem FaultEntry.has_iff (k : FaultKind) (v : Nat) (f : FaultEntry) : f.has k v = true ↔ f.kind = k ∧ f.vol = v := by
  simp [FaultEntry.has]

theorem Clip.faultWith_eq_none (c : Clip) (k : FaultKind) (v : Nat) :
    c.faultWith k v = none ↔ ∀ f ∈ c.faults, ¬ (f.kind = k ∧ f.vol = v) := by
  simp [Clip.faultWith]

theorem Clip.merged_of_none (c : Clip) (r : Raise) (h : c.faultWith r.kind r.vol = none) :
    c.merged r = { c with faults := insertFault c.faults r.entry } := by
  simp only [Clip.merged, h]

theorem Clip.merged_of_some (c : Clip) (r : Raise) {f : FaultEntry} (h : c.faultWith r.kind r.vol = some f) :
    c.merged r =
      { c with faults := modWhere c.faults (fun f => f.kind == r.kind && f.vol == r.vol) fun f => f.merge r } := by
  simp only [Clip.merged, h]

/-- The first entry of a key, after every entry that satisfies a test was changed with its key kept. -/
theorem find_modWhere (fs : List FaultEntry) (test : FaultEntry → Bool) (g : FaultEntry → FaultEntry) (k : FaultKind)
    (v : Nat) (hg : ∀ f, (g f).kind = f.kind ∧ (g f).vol = f.vol) :
    (modWhere fs test g).find? (FaultEntry.has k v) =
      (fs.find? (FaultEntry.has k v)).map fun f => if test f then g f else f := by
  have hkey : FaultEntry.has k v ∘ (fun f => if test f then g f else f) = FaultEntry.has k v := by
    funext f
    simp only [Function.comp, FaultEntry.has]
    split
    · rw [(hg f).1, (hg f).2]
    · rfl
  rw [modWhere, List.find?_map, hkey]

theorem find_insertFault (fs : List FaultEntry) (e : FaultEntry) (k : FaultKind) (v : Nat) (he : e.has k v = false) :
    (insertFault fs e).find? (FaultEntry.has k v) = fs.find? (FaultEntry.has k v) := by
  induction fs with
  | nil => simp [insertFault, he]
  | cons f fs ih =>
    rw [insertFault]
    split
    · rw [List.find?_cons_of_neg (by simp [he])]
    · cases hf : f.has k v
      · rw [List.find?_cons_of_neg (by simp [hf]), List.find?_cons_of_neg (by simp [hf]), ih]
      · rw [List.find?_cons_of_pos hf, List.find?_cons_of_pos hf]

theorem Clip.faultWith_merged_self (c : Clip) (r : Raise) {f : FaultEntry} (h : c.faultWith r.kind r.vol = some f) :
    (c.merged r).faultWith r.kind r.vol = some (f.merge r) := by
  have hfind : c.faults.find? (FaultEntry.has r.kind r.vol) = some f := h
  have hf : f.has r.kind r.vol = true := List.find?_some hfind
  rw [c.merged_of_some r h]
  refine (find_modWhere c.faults (FaultEntry.has r.kind r.vol) (fun f => f.merge r) r.kind r.vol
    fun _ => ⟨rfl, rfl⟩).trans ?_
  rw [hfind, Option.map_some, if_pos hf]

theorem Clip.faultWith_merged_other (c : Clip) (r : Raise) {k : FaultKind} {v : Nat} (h : ¬ (k = r.kind ∧ v = r.vol)) :
    (c.merged r).faultWith k v = c.faultWith k v := by
  cases hr : c.faultWith r.kind r.vol with
  | none =>
    rw [c.merged_of_none r hr]
    refine find_insertFault c.faults r.entry k v (Bool.eq_false_iff.2 fun he => h ?_)
    obtain ⟨hk, hv⟩ := (FaultEntry.has_iff k v r.entry).1 he
    exact ⟨hk.symm, hv.symm⟩
  | some f =>
    rw [c.merged_of_some r hr]
    refine (find_modWhere c.faults (FaultEntry.has r.kind r.vol) (fun f => f.merge r) k v fun _ => ⟨rfl, rfl⟩).trans ?_
    cases hfind : c.faults.find? (FaultEntry.has k v) with
    | none => exact hfind.symm
    | some g =>
      obtain ⟨hk, hv⟩ := (FaultEntry.has_iff k v g).1 (List.find?_some hfind)
      have hg : ¬ g.has r.kind r.vol = true := fun hg => h (by rw [← hk, ← hv]; exact (FaultEntry.has_iff _ _ g).1 hg)
      rw [Option.map_some, if_neg hg]
      exact hfind.symm

/-! ### The entry that a fifth key displaces (R112) -/

/-- The COPY_MISMATCH entries whose volume holds no copy of the clip. -/
def Clip.loose (c : Clip) : List FaultEntry :=
  c.faults.filter fun f => f.kind == .copyMismatch && (c.copyOn f.vol).isNone

theorem Clip.mem_loose (c : Clip) (f : FaultEntry) :
    f ∈ c.loose ↔ f ∈ c.faults ∧ f.kind = .copyMismatch ∧ c.copyOn f.vol = none := by
  simp [Clip.loose]

theorem Clip.displaced_eq (c : Clip) :
    c.displaced = ((c.loose.find? fun f => f.state == .acknowledged).orElse fun _ => c.loose.head?).map (·.vol) := rfl

theorem Clip.displaced_eq_none (c : Clip) : c.displaced = none ↔ c.loose = [] := by
  rw [c.displaced_eq, Option.map_eq_none_iff]
  cases hl : c.loose with
  | nil => simp
  | cons f fs => cases (f :: fs).find? fun f => f.state == .acknowledged <;> simp

/-- In key order the COPY_MISMATCH entries stand by rising volume. -/
theorem Clip.loose_rising {c : Clip}
    (h : c.faults.Pairwise fun f g => keyBefore f.kind f.vol g.kind g.vol = true) :
    c.loose.Pairwise fun f g => f.vol < g.vol := by
  refine (h.filter _).imp_of_mem ?_
  intro f g hf hg hfg
  obtain ⟨-, hf, -⟩ := (c.mem_loose f).1 hf
  obtain ⟨-, hg, -⟩ := (c.mem_loose g).1 hg
  simpa [keyBefore, hf, hg] using hfg

/-- The first element with a property, in a list that rises, is below every other one. -/
theorem le_of_find {fs : List FaultEntry} (h : fs.Pairwise fun f g => f.vol < g.vol) {test : FaultEntry → Bool}
    {f g : FaultEntry} (hf : fs.find? test = some f) (hg : g ∈ fs) (ht : test g = true) : f.vol ≤ g.vol := by
  obtain ⟨-, front, back, rfl, hfront⟩ := List.find?_eq_some_iff_append.1 hf
  rcases List.mem_append.1 hg with hg | hg
  · have := hfront g hg
    simp [ht] at this
  · rcases List.mem_cons.1 hg with rfl | hg
    · exact Nat.le_refl _
    · obtain ⟨-, hback, -⟩ := List.pairwise_append.1 h
      exact Nat.le_of_lt ((List.pairwise_cons.1 hback).1 g hg)

theorem Clip.displaced_lowest {c : Clip} {v : Nat}
    (h : c.faults.Pairwise fun f g => keyBefore f.kind f.vol g.kind g.vol = true) (hv : c.displaced = some v) :
    ∃ f, f ∈ c.loose ∧ f.vol = v ∧
      ((f.state = .acknowledged ∧ ∀ g, g ∈ c.loose → g.state = .acknowledged → v ≤ g.vol) ∨
        (f.state = .opened ∧ ∀ g, g ∈ c.loose → g.state = .opened ∧ v ≤ g.vol)) := by
  have hrising := Clip.loose_rising h
  rw [c.displaced_eq] at hv
  cases hfind : c.loose.find? fun f => f.state == .acknowledged with
  | some f =>
    obtain rfl : f.vol = v := by simpa [hfind] using hv
    exact ⟨f, List.mem_of_find?_eq_some hfind, rfl,
      Or.inl ⟨by simpa using List.find?_some hfind, fun g hg hst => le_of_find hrising hfind hg (by simpa using hst)⟩⟩
  | none =>
    have hopen (g : FaultEntry) (hg : g ∈ c.loose) : g.state = .opened := by
      have := List.find?_eq_none.1 hfind g hg
      cases hst : g.state with
      | opened => rfl
      | acknowledged => simp [hst] at this
    cases hl : c.loose with
    | nil => simp [hl] at hv
    | cons f fs =>
      rw [hl] at hfind hv
      obtain rfl : f.vol = v := by simpa [hfind] using hv
      rw [hl] at hrising hopen
      refine ⟨f, List.mem_cons_self, rfl, Or.inr ⟨hopen f List.mem_cons_self, fun g hg => ⟨hopen g hg, ?_⟩⟩⟩
      rcases List.mem_cons.1 hg with rfl | hg
      · exact Nat.le_refl _
      · exact Nat.le_of_lt ((List.pairwise_cons.1 hrising).1 g hg)

/-! ### A raise reaching the Fault Unit (R111, R112, R114) -/

/-- An evaluation changes the cards and the attention state alone. -/
theorem Part.evaluate_clip (p : Part) (i k : Nat) : (p.evaluate i).clip k = p.clip k := by
  unfold Part.evaluate
  split
  · split
    · rfl
    · split <;> rfl
  · rfl

/-- The raise would make a fifth COPY_MISMATCH entry of the clip. -/
def Clip.crowded (c : Clip) (r : Raise) : Prop :=
  r.kind = .copyMismatch ∧ c.faultWith .copyMismatch r.vol = none ∧
    4 ≤ (c.faults.filter fun f => f.kind == .copyMismatch).length

theorem Part.displace_of_room {p : Part} {i : Nat} {c : Clip} {r : Raise} (hc : p.clip i = some c)
    (h : ¬ c.crowded r) : p.displace i r = p := by
  have hn : ¬ (r.kind = .copyMismatch ∧ (c.faultWith r.kind r.vol).isNone ∧
      4 ≤ (c.faults.filter fun f => f.kind == .copyMismatch).length) := by
    rintro ⟨hk, hf, h4⟩
    exact h ⟨hk, by simpa [hk] using hf, h4⟩
  simp only [Part.displace, hc]
  exact if_neg hn

theorem Part.displace_of_crowded {p : Part} {i : Nat} {c : Clip} {r : Raise} (hc : p.clip i = some c)
    (h : c.crowded r) :
    p.displace i r =
      match c.displaced with
      | some v => p.removeFaults i fun f => f.kind == .copyMismatch && f.vol == v
      | none => p := by
  obtain ⟨hk, hf, h4⟩ := h
  simp only [Part.displace, hc]
  refine (if_pos ⟨hk, by simp [hk, hf], h4⟩).trans ?_
  cases c.displaced <;> rfl

theorem Part.removeFaults_of_some {p : Part} {i : Nat} {c : Clip} {test : FaultEntry → Bool} (hc : p.clip i = some c)
    (h : c.faults.any test = true) :
    p.removeFaults i test =
      (p.modClip i fun c => { c with faults := c.faults.filter fun f => !test f }).evaluate c.card := by
  simp only [Part.removeFaults, hc, h, if_true]

/-- With the displacement done, the raise is merged, and opens the entry or not. -/
theorem Part.mergeFault_of_clip {p q : Part} {i : Nat} {c : Clip} {r : Raise}
    (hv : r.kind = .copyMismatch → p.volume r.vol ≠ none) (hq : p.displace i r = q) (hc : q.clip i = some c) :
    p.mergeFault i r =
      if c.opens r = true then (q.modClip i fun c => c.merged r).opening c.card else q.modClip i fun c => c.merged r := by
  have hn : ¬ (r.kind = .copyMismatch ∧ (p.volume r.vol).isNone) := fun ⟨hk, hnone⟩ => hv hk (by simpa using hnone)
  rw [Part.mergeFault, if_neg hn]
  simp only [hq, hc]

theorem Clip.opens_of_none {c : Clip} {r : Raise} (h : c.faultWith r.kind r.vol = none) : c.opens r = true := by
  simp only [Clip.opens, h]

theorem Clip.opens_of_some {c : Clip} {r : Raise} {f : FaultEntry} (h : c.faultWith r.kind r.vol = some f) :
    c.opens r = true ↔ f.state = .acknowledged := by
  simp [Clip.opens, h]

/-- Settles O32. -/
theorem faultAcknowledged : Obligations.FaultAcknowledged := by
  refine ⟨fun s d i n v h => ⟨fun hr => ?range, fun k hk hi hv => ⟨fun hc => ?free, fun c hc => ⟨fun hf => ?noEntry,
      fun f hf => ⟨fun hst => ?already, fun hst => ?acknowledged⟩⟩⟩⟩,
    fun c r => ⟨fun hn => ⟨by rw [c.merged_of_none r hn], rfl, Clip.opens_of_none hn⟩,
      fun f hf => ⟨⟨_, c.faultWith_merged_self r hf, rfl, rfl, ?saturated, rfl, rfl, ?detail⟩, Clip.opens_of_some hf,
        by rw [c.merged_of_some r hf]; exact List.length_map _⟩⟩,
    fun c r k v hkv => c.faultWith_merged_other r hkv,
    fun p i r => ⟨fun hn => ?discarded, fun c hc hv => ⟨fun hroom ho => ?opened, fun hroom ho => ?unopened,
      fun hfull hd => ?noneLoose, fun v hfull hd => ?displaced⟩⟩,
    fun c v hrising hv => ?lowest, fun c => ?loose⟩
  case range =>
    refine declines_of_refuse h rfl ?_ rfl
    by_cases hn : n = 0 ∨ 8 < n
    · simp [Part.acknowledgeFault, faultKindOf_eq_none.2 hn]
    · obtain ⟨k, hk⟩ := exists_faultKindOf (n := n) (by omega) (by omega)
      have hrange : 1023 < i ∨ (k = .copyMismatch ∧ 7 < v) := by
        rcases hr with hr | hr | hr | ⟨rfl, hr⟩
        · exact absurd (Or.inl hr) hn
        · exact absurd (Or.inr hr) hn
        · exact Or.inl hr
        · cases hk
          exact Or.inr ⟨rfl, hr⟩
      simp only [Part.acknowledgeFault, hk]
      exact if_pos hrange
  case free =>
    have hr : ¬ (1023 < i ∨ (k = .copyMismatch ∧ 7 < v)) := by
      rintro (hr | ⟨hr, hv7⟩)
      · omega
      · exact absurd (hv hr) (Nat.not_le.2 hv7)
    refine declines_of_refuse h rfl ?_ rfl
    simp only [Part.acknowledgeFault, hk, Part.clip_quiet, hc, Option.bind_none]
    exact if_neg hr
  case noEntry =>
    refine declines_of_refuse h rfl ((Part.acknowledgeFault_of_used s.part.quiet hk hi hv hc).trans ?_) rfl
    rw [hf]
  case already =>
    refine taken_of_reply h rfl ((Part.acknowledgeFault_of_used s.part.quiet hk hi hv hc).trans ?_) rfl
    rw [hf, Part.acknowledge_of_entry s.part.quiet hc hf, if_neg (by simp [hst])]
    rfl
  case acknowledged =>
    refine taken_of_reply h rfl ((Part.acknowledgeFault_of_used s.part.quiet hk hi hv hc).trans ?_) rfl
    rw [hf, Part.acknowledge_of_entry s.part.quiet hc hf, if_pos hst]
    rfl
  case saturated => simp [FaultEntry.merge, or_assoc]
  case detail => cases hd : r.detail <;> simp [FaultEntry.merge, hd]
  case discarded =>
    by_cases hm : r.kind = .copyMismatch ∧ p.volume r.vol = none
    · exact if_pos ⟨hm.1, by simp [hm.2]⟩
    · have hc := hn.resolve_right hm
      rw [Part.mergeFault, if_neg (by simpa using hm)]
      simp only [Part.displace, hc]
  case opened =>
    rw [Part.mergeFault_of_clip hv (Part.displace_of_room hc hroom) hc, if_pos ho]
    rfl
  case unopened =>
    rw [Part.mergeFault_of_clip hv (Part.displace_of_room hc hroom) hc, if_neg (by simp [ho])]
  case noneLoose =>
    have hdisplace : p.displace i r = p := by rw [Part.displace_of_crowded hc hfull, hd]
    have ho : c.opens r = true := Clip.opens_of_none (by rw [hfull.1]; exact hfull.2.1)
    rw [Part.mergeFault_of_clip hv hdisplace hc, if_pos ho]
    rfl
  case displaced =>
    obtain ⟨hk, hf, h4⟩ := hfull
    have hany : (c.faults.any fun f => f.kind == .copyMismatch && f.vol == v) = true := by
      rw [c.displaced_eq] at hd
      obtain ⟨f, hfound, rfl⟩ := Option.map_eq_some_iff.1 hd
      have hmem : f ∈ c.loose := by
        cases hfind : c.loose.find? fun f => f.state == .acknowledged with
        | some g => rw [hfind] at hfound; cases hfound; exact List.mem_of_find?_eq_some hfind
        | none => rw [hfind] at hfound; exact List.mem_of_head? hfound
      obtain ⟨hmem, hkind, -⟩ := (c.mem_loose f).1 hmem
      exact List.any_eq_true.2 ⟨f, hmem, by simp [hkind]⟩
    have hdisplace := Part.displace_of_crowded hc ⟨hk, hf, h4⟩
    rw [hd] at hdisplace
    have hdisplace := hdisplace.trans (Part.removeFaults_of_some hc hany)
    have hc' := (Part.evaluate_clip _ c.card i).trans (p.clip_modClip_self i
      (fun x => { x with faults := x.faults.filter fun f => !(f.kind == .copyMismatch && f.vol == v) }) hc)
    rw [Part.mergeFault_of_clip hv hdisplace hc', if_pos]
    · rfl
    · refine Clip.opens_of_none ((Clip.faultWith_eq_none _ _ _).2 fun f hfm => ?_)
      rw [hk]
      exact (Clip.faultWith_eq_none c _ _).1 hf f (List.mem_filter.1 hfm).1
  case lowest =>
    have := Clip.displaced_lowest hrising hv
    simpa only [Clip.mem_loose] using this
  case loose =>
    rw [c.displaced_eq_none, List.eq_nil_iff_forall_not_mem]
    simp only [c.mem_loose, not_and, ne_eq]

end Sys2Proof.Machine

/-! The known-defect map and the frame analyzer (06): the map's commands, the gathering of frames, the trackers, the
detectors, the timecode check, the pending fault buffer. -/

namespace Sys2Proof.Machine

/-! ### The known-defect map (R123, R125) -/

theorem FaultUnit.has_iff (f : FaultUnit) (d : Defect) :
    f.has d = true ↔ ∃ e ∈ f.defects, e.2.letter = d.letter ∧ e.2.x = d.x ∧ e.2.y = d.y ∧ e.2.xmask = d.xmask ∧
      e.2.ymask = d.ymask := by
  simp [FaultUnit.has, Defect.same, and_assoc]

theorem Part.takeDefect_of_same {p : Part} {d : Defect} (h : p.fault.has d = true) :
    p.takeDefect d = .inl .duplicate := by
  rw [Part.takeDefect, if_pos h]

theorem Part.takeDefect_of_full {p : Part} {d : Defect} (h : ¬ p.fault.has d = true)
    (hfull : ∀ m, m < 128 → tget p.fault.defects m ≠ none) : p.takeDefect d = .inl .tableFull := by
  have hfree : tfree p.fault.defects Config.defects = none := (tfree_eq_none _ _).2 hfull
  rw [Part.takeDefect, if_neg h, hfree]

theorem Part.takeDefect_of_free {p : Part} {d : Defect} {i : Nat} (h : ¬ p.fault.has d = true)
    (hi : i < 128 ∧ tget p.fault.defects i = none ∧ ∀ m, m < i → tget p.fault.defects m ≠ none) :
    p.takeDefect d = .inr ({ p with fault := { p.fault with defects := tset p.fault.defects i d } }, i) := by
  have hfree : tfree p.fault.defects Config.defects = some i := (tfree_eq_some _ _ _).2 hi
  rw [Part.takeDefect, if_neg h, hfree]

theorem Part.addDefect_of_taken {p : Part} {n x y mx my : Nat} {r : Status ⊕ (Part × Nat)}
    (h : 65 ≤ n ∧ n ≤ 90 ∧ x ≤ 8191 ∧ y ≤ 8191 ∧ mx ≤ 8191 ∧ my ≤ 8191)
    (hr : p.takeDefect (newDefect n x y mx my) = r) :
    p.addDefect n x y mx my =
      match (generalizing := false) r with
      | .inl st => p.refuse st
      | .inr (q, i) => q.answerWith (leBytes 1 i) := by
  have hn : ¬ (isLetter n = false ∨ 8191 < x ∨ 8191 < y ∨ 8191 < mx ∨ 8191 < my) := by
    rw [isLetter_eq_false]; omega
  rw [Part.addDefect, if_neg hn, hr] <;> cases r <;> rfl

theorem Part.adoptDefect_of_taken {p : Part} {i x y : Nat} {c : Clip} {r : Status ⊕ (Part × Nat)} (hi : i ≤ 1023)
    (hc : p.clip i = some c) (h : (c.faultWith .stuckSite 0).bind (·.firstSite) = some (x, y))
    (hr : p.takeDefect (newDefect c.ident.letter x y 8191 8191) = r) :
    p.adoptDefect i =
      match (generalizing := false) r with
      | .inl st => p.refuse st
      | .inr (q, k) => (q.acknowledge i .stuckSite 0).answerWith (leBytes 1 k) := by
  simp only [Part.adoptDefect, Nat.not_lt.2 hi, if_false, hc, h, hr] <;> cases r <;> rfl

theorem leBytes_one (n : Nat) : leBytes 1 n = [BitVec.ofNat 8 n] := by
  simp [leBytes]

/-! ### Frames (R117, R118) -/

theorem FrameAcc.closes_iff (a : FrameAcc) (b : Block) (last : Bool) :
    a.closes b last = true ↔ b.frameEnd = true ∨ 16 ≤ a.blocks ∨ last = true := by
  simp [FrameAcc.closes, or_assoc]

theorem siteAt_rowsOf (w : Nat) : ∀ (h : Nat) (sites : List Nat) (x y : Nat), x < w → y < h →
    siteAt (rowsOf w h sites) x y = sites.getD (w * y + x) 0
  | 0, _, _, _, _, hy => absurd hy (Nat.not_lt_zero _)
  | _ + 1, sites, x, 0, hx, _ => by
    simp [siteAt, rowsOf, List.getD_eq_getElem?_getD, hx]
  | h + 1, sites, x, y + 1, hx, hy => by
    have ih := siteAt_rowsOf w h (sites.drop w) x y hx (by omega)
    have hplace : w + (w * y + x) = w * (y + 1) + x := by rw [Nat.mul_succ]; omega
    simp only [siteAt, rowsOf, List.getD_eq_getElem?_getD, List.getElem?_cons_succ, List.getElem?_drop, hplace] at ih ⊢
    exact ih

theorem mem_extremeSites (rows : List (List Nat)) (w h limit x y code : Nat) :
    (x, y, code) ∈ extremeSites rows w h limit ↔
      y < h ∧ x < w ∧ isExtreme rows w h limit x y = true ∧ code = siteAt rows x y := by
  simp only [extremeSites, List.mem_flatten, List.mem_map, List.mem_range]
  constructor
  · rintro ⟨-, ⟨y', hy, rfl⟩, hmem⟩
    obtain ⟨x', hx, he⟩ := List.mem_map.1 hmem
    obtain ⟨hrow, hext⟩ := List.mem_filter.1 hx
    cases he
    exact ⟨hy, List.mem_range.1 hrow, hext, rfl⟩
  · rintro ⟨hy, hx, hext, rfl⟩
    exact ⟨_, ⟨y, hy, rfl⟩, List.mem_map.2 ⟨x, List.mem_filter.2 ⟨List.mem_range.2 hx, hext⟩, rfl⟩⟩

theorem isExtreme_iff (rows : List (List Nat)) (w h limit x y : Nat) :
    isExtreme rows w h limit x y = true ↔
      2 ≤ x ∧ x + 2 < w ∧ 2 ≤ y ∧ y + 2 < h ∧ (siteAt rows x y = 0 ∨ siteAt rows x y = 1023) ∧
        ∀ n ∈ [siteAt rows (x - 2) y, siteAt rows (x + 2) y, siteAt rows x (y - 2), siteAt rows x (y + 2)],
          limit < (siteAt rows x y - n) + (n - siteAt rows x y) := by
  simp only [isExtreme, apart, Bool.and_eq_true, Bool.or_eq_true, beq_iff_eq, decide_eq_true_eq, List.forall_mem_cons]
  tauto

theorem extremeSites_rowOrder (rows : List (List Nat)) (w h limit : Nat) :
    (extremeSites rows w h limit).Pairwise fun e f => e.2.1 < f.2.1 ∨ (e.2.1 = f.2.1 ∧ e.1 < f.1) := by
  rw [extremeSites, List.pairwise_flatten]
  constructor
  · intro row hrow
    obtain ⟨y, -, rfl⟩ := List.mem_map.1 hrow
    rw [List.pairwise_map]
    exact (List.pairwise_lt_range.filter _).imp fun hx => Or.inr ⟨rfl, hx⟩
  · rw [List.pairwise_map]
    refine List.pairwise_lt_range.imp fun {y z} hyz e he f hf => Or.inl ?_
    obtain ⟨_, -, rfl⟩ := List.mem_map.1 he
    obtain ⟨_, -, rfl⟩ := List.mem_map.1 hf
    exact hyz

/-! ### The trackers (R120) -/

theorem Part.suspects_of_passed (l : Fin 6) (letter limit : Nat) (ts : List (Option Tracker)) (n : Nat) (p : Part)
    {t : Tracker} (h : t.suspect = true ∨ t.run < limit) :
    Part.suspects l letter limit (some t :: ts) n p = Part.suspects l letter limit ts (n + 1) p := by
  have hn : ¬ (t.suspect = false ∧ limit ≤ t.run) := by
    rintro ⟨hs, hr⟩
    rcases h with h | h
    · simp [hs] at h
    · omega
  rw [Part.suspects, if_neg hn]

/-- The tracker of number `n` made SUSPECT. -/
def Part.markSuspect (p : Part) (l : Fin 6) (n : Nat) (t : Tracker) : Part :=
  p.modAnalyzer l fun a => { a with trackers := a.trackers.set n (some { t with suspect := true }) }

theorem Part.suspects_of_reached (l : Fin 6) (letter limit : Nat) (ts : List (Option Tracker)) (n : Nat) (p : Part)
    {t : Tracker} (hs : t.suspect = false) (hr : limit ≤ t.run) :
    Part.suspects l letter limit (some t :: ts) n p =
      unlessTrip
        ((p.markSuspect l n t).checkSuspect l letter t)
        (Part.suspects l letter limit ts (n + 1)) := by
  rw [Part.suspects, if_pos ⟨hs, hr⟩]
  rfl

theorem Part.checkSuspect_of_known {p : Part} (l : Fin 6) {letter : Nat} {t : Tracker} {e : Nat × Defect}
    (h : (p.fault.defects.find? fun e => e.2.covers letter t.x t.y) = some e) :
    p.checkSuspect l letter t =
      ({ p with fault := { p.fault with defects := tmod p.fault.defects e.1 Defect.hit } }, none) := by
  rw [Part.checkSuspect, h]

theorem Part.checkSuspect_of_unknown {p : Part} (l : Fin 6) {letter : Nat} {t : Tracker}
    (h : (p.fault.defects.find? fun e => e.2.covers letter t.x t.y) = none) :
    p.checkSuspect l letter t = p.imageRaise l .stuckSite t.first (some (t.x, t.y)) := by
  rw [Part.checkSuspect, h]

theorem unlessTrip_of_some {r : Part × Option Trip} {trip : Trip} (h : r.2 = some trip) (f : Part → Part × Option Trip) :
    unlessTrip r f = r := by
  simp only [unlessTrip, h]

theorem unlessTrip_of_none {r : Part × Option Trip} (h : r.2 = none) (f : Part → Part × Option Trip) :
    unlessTrip r f = f r.1 := by
  simp only [unlessTrip, h]

/-- A tracker holds a site. -/
def holdsSite (x y : Nat) (t : Option Tracker) : Bool :=
  match t with
  | some t => t.x == x && t.y == y
  | none => false

theorem any_holdsSite (x y : Nat) (ts : List (Option Tracker)) :
    ts.any (holdsSite x y) = true ↔ ∃ t, some t ∈ ts ∧ t.x = x ∧ t.y = y := by
  rw [List.any_eq_true]
  constructor
  · rintro ⟨t, ht, hold⟩
    cases t with
    | none => simp [holdsSite] at hold
    | some t => exact ⟨t, ht, by simpa [holdsSite] using hold⟩
  · rintro ⟨t, ht, hold⟩
    exact ⟨some t, ht, by simpa [holdsSite] using hold⟩

theorem takeSite_eq (frame x y code : Nat) (ts : List (Option Tracker)) (ignored : Bool) :
    takeSite frame (ts, ignored) (x, y, code) =
      if ts.any (holdsSite x y) then (ts, ignored)
      else
        match ts.findIdx? (·.isNone) with
        | some n =>
          (ts.set n (some { x := x, y := y, code := code, run := 1, first := frame, suspect := false }), ignored)
        | none => (ts, true) := rfl

theorem takeSite_of_held (frame code : Nat) {x y : Nat} {ts : List (Option Tracker)} (ignored : Bool)
    (h : ∃ t, some t ∈ ts ∧ t.x = x ∧ t.y = y) : takeSite frame (ts, ignored) (x, y, code) = (ts, ignored) := by
  rw [takeSite_eq, if_pos ((any_holdsSite x y ts).2 h)]

theorem any_holdsSite_of_unheld {x y : Nat} {ts : List (Option Tracker)}
    (h : ∀ t, some t ∈ ts → t.x ≠ x ∨ t.y ≠ y) : ¬ ts.any (holdsSite x y) = true := by
  rw [any_holdsSite]
  rintro ⟨t, ht, hx, hy⟩
  exact (h t ht).elim (absurd hx) (absurd hy)

theorem takeSite_of_noneFree (frame code : Nat) {x y : Nat} {ts : List (Option Tracker)} (ignored : Bool)
    (h : ∀ t, some t ∈ ts → t.x ≠ x ∨ t.y ≠ y) (hfree : none ∉ ts) :
    takeSite frame (ts, ignored) (x, y, code) = (ts, true) := by
  have hidx : ts.findIdx? (·.isNone) = none := by
    rw [List.findIdx?_eq_none_iff]
    intro t ht
    cases t with
    | none => exact absurd ht hfree
    | some t => rfl
  rw [takeSite_eq, if_neg (any_holdsSite_of_unheld h), hidx]

theorem takeSite_of_free (frame code : Nat) {x y : Nat} {front back : List (Option Tracker)} (ignored : Bool)
    (h : ∀ t, some t ∈ front ++ none :: back → t.x ≠ x ∨ t.y ≠ y) (hfront : none ∉ front) :
    takeSite frame (front ++ none :: back, ignored) (x, y, code) =
      (front ++ some { x := x, y := y, code := code, run := 1, first := frame, suspect := false } :: back, ignored) := by
  have hidx : (front ++ none :: back).findIdx? (·.isNone) = some front.length := by
    have hnone : front.findIdx? (·.isNone) = none := by
      rw [List.findIdx?_eq_none_iff]
      intro t ht
      cases t with
      | none => exact absurd ht hfront
      | some t => rfl
    rw [List.findIdx?_append, hnone]
    simp [List.findIdx?_cons]
  rw [takeSite_eq, if_neg (any_holdsSite_of_unheld h), hidx]
  simp

/-- Step 1 sets every tracker from what it was. -/
theorem Part.updateTrackers_eq (p : Part) (l : Fin 6) (i letter frame : Nat) (extremes : List (Nat × Nat × Nat))
    {kept : List (Option Tracker)} (hkept : kept = (p.reader l).analyzer.trackers.map fun t => t.bind (Tracker.held extremes)) :
    p.updateTrackers l i letter frame extremes =
      unlessTrip
        (Part.suspects l letter (p.policy .stuckSite).first kept 0
          (p.modAnalyzer l fun a => { a with trackers := kept }))
        fun p =>
          let taken := extremes.foldl (takeSite frame) ((p.reader l).analyzer.trackers, false)
          let p := p.modAnalyzer l fun a => { a with trackers := taken.1 }
          (if taken.2 then p.modClip i fun c => { c with trackerOverflow := true } else p, none) := by
  have hp : (p.modAnalyzer l fun a => { a with trackers := a.trackers.map fun t => t.bind (Tracker.held extremes) }) =
      p.modAnalyzer l fun a => { a with trackers := kept } := p.modReader_congr l _ _ (by rw [hkept])
  have ht : ((p.modAnalyzer l fun a => { a with trackers := kept }).reader l).analyzer.trackers = kept := by
    simp [Part.modAnalyzer]
  rw [Part.updateTrackers, hp, ht]
  rfl

/-! ### The detectors and the timecode (R126, R127, R128) -/

theorem detect_of_raise {enabled armed : Bool} {run limit : Nat} (h : limit ≤ min (run + 1) 255) (ha : armed = true)
    (he : enabled = true) : detect enabled true run armed limit = ((min (run + 1) 255, false), true) := by
  simp only [detect, if_true, h, ha, he, and_self]

theorem detect_of_quiet {enabled armed : Bool} {run limit : Nat}
    (h : min (run + 1) 255 < limit ∨ armed = false ∨ enabled = false) :
    detect enabled true run armed limit = ((min (run + 1) 255, armed), false) := by
  have hn : ¬ (limit ≤ min (run + 1) 255 ∧ armed = true ∧ enabled = true) := by
    rintro ⟨hl, ha, he⟩
    rcases h with h | h | h
    · omega
    · simp [ha] at h
    · simp [he] at h
  simp only [detect, if_true]
  exact if_neg hn

theorem Timecode.valid_iff (t : Timecode) (base : Nat) :
    t.valid base = true ↔ t.hours < 24 ∧ t.minutes < 60 ∧ t.seconds < 60 ∧ t.frames < base := by
  simp [Timecode.valid, and_assoc]

/-- The frames since midnight. -/
def Timecode.countOf (base : Nat) (t : Timecode) : Nat :=
  ((t.hours * 60 + t.minutes) * 60 + t.seconds) * base + t.frames

theorem frameBase_mem {n base : Nat} (h : frameBase n = some base) : base ∈ [24, 25, 30, 48, 50, 60] := by
  unfold frameBase at h
  split at h <;> simp_all

/-- With a base that is a numeral, the count on from a valid timecode is linear arithmetic. -/
theorem Timecode.oneOn_spec {t : Timecode} {n base : Nat} (hb : frameBase n = some base) (ht : t.valid base = true) :
    (t.oneOn base).valid base = true ∧
      (t.oneOn base).countOf base = (t.countOf base + 1) % (86400 * base) := by
  rw [Timecode.valid_iff] at ht ⊢
  obtain ⟨hh, hm, hs, hf⟩ := ht
  have hbase := frameBase_mem hb
  simp only [List.mem_cons, List.not_mem_nil, or_false] at hbase
  unfold Timecode.oneOn Timecode.countOf
  split
  · rcases hbase with rfl | rfl | rfl | rfl | rfl | rfl <;> dsimp only <;> omega
  · split
    · rcases hbase with rfl | rfl | rfl | rfl | rfl | rfl <;> dsimp only <;> omega
    · split
      · rcases hbase with rfl | rfl | rfl | rfl | rfl | rfl <;> dsimp only <;> omega
      · split <;> rcases hbase with rfl | rfl | rfl | rfl | rfl | rfl <;> dsimp only <;> omega

theorem frameBase_of_large {n : Nat} (h : 6 < n) : frameBase n = none := by
  obtain ⟨k, rfl⟩ := Nat.exists_eq_add_of_lt h
  rw [show 6 + k + 1 = k + 7 by omega]
  rfl

/-! ### The pending fault buffer (R129) -/

theorem insertPending_split (e : PendingFault) : ∀ buffer : List PendingFault,
    ∃ front back, buffer = front ++ back ∧ insertPending buffer e = front ++ e :: back ∧
      (∀ f ∈ front, f.kind.index ≤ e.kind.index) ∧ ∀ f rest, back = f :: rest → e.kind.index < f.kind.index
  | [] => ⟨[], [], rfl, rfl, by simp, by simp⟩
  | f :: t => by
    by_cases h : e.kind.index < f.kind.index
    · exact ⟨[], f :: t, rfl, by rw [insertPending, if_pos h]; rfl, by simp, fun g rest hg => by cases hg; exact h⟩
    · obtain ⟨front, back, ht, hins, hfront, hback⟩ := insertPending_split e t
      refine ⟨f :: front, back, by rw [ht]; rfl, by rw [insertPending, if_neg h, hins]; rfl, ?_, hback⟩
      intro g hg
      rcases List.mem_cons.1 hg with rfl | hg
      · omega
      · exact hfront g hg

theorem bufferRaise_of_kind {buffer : List PendingFault} {k : FaultKind} (frame : Nat) (site : Option (Nat × Nat))
    (h : ∃ f ∈ buffer, f.kind = k) :
    bufferRaise buffer k frame site =
      buffer.map fun f =>
        if f.kind = k then
          { f with count := min (f.count + 1) 127, saturated := f.saturated || decide (127 < f.count + 1) }
        else f := by
  have hany : (buffer.any fun f => f.kind == k) = true := by simpa using h
  rw [bufferRaise, if_pos hany, modWhere]
  simp only [beq_iff_eq]

theorem bufferRaise_of_new {buffer : List PendingFault} {k : FaultKind} (frame : Nat) (site : Option (Nat × Nat))
    (h : ∀ f ∈ buffer, f.kind ≠ k) :
    bufferRaise buffer k frame site =
      insertPending buffer { kind := k, count := 1, saturated := false, firstFrame := frame, firstSite := site } := by
  have hany : ¬ (buffer.any fun f => f.kind == k) = true := by simpa using h
  rw [bufferRaise, if_neg hany]

/-- Settles O34. -/
theorem defectsMapped : Obligations.DefectsMapped := by
  refine ⟨fun s d => ⟨fun n x y mx my h => ⟨fun hr => ?addRange, fun h1 h2 h3 h4 h5 h6 => ⟨fun hs => ?addSame,
        fun hs hf => ?addFull, fun i hs hi => ?add⟩⟩,
      fun i h => ⟨fun hi => ?removeRange, fun hi hn => ?removeNone, fun hi hn => ?remove⟩,
      fun i h => ⟨fun hi => ?adoptRange, fun hi hn => ?adoptNone, fun c hi hc => ⟨fun hn => ?adoptNoSite,
        fun x y hxy => ⟨fun hs => ?adoptSame, fun hs hf => ?adoptFull, fun k hs hk => ?adopt⟩⟩⟩⟩,
    fun p l i c b last => ⟨fun hclose => ?closes, fun hend hblocks hlast => ?gathers⟩,
    fun p l i c acc => rfl,
    fun w h sites x y hx hy => siteAt_rowsOf w h sites x y hx hy,
    fun rows w h limit => ⟨extremeSites_rowOrder rows w h limit, fun x y code => ?extremes⟩,
    fun p l i letter frame extremes => ?trackers,
    fun l letter limit ts n p => ⟨rfl, rfl, fun t => ⟨Part.suspects_of_passed l letter limit ts n p, fun hs hr => ?suspects⟩⟩,
    fun frame x y code ts ignored => ⟨takeSite_of_held frame code ignored, fun h => ⟨takeSite_of_noneFree frame code ignored h,
      fun front back hts hfront => ?taken⟩⟩,
    fun p l frame met => ⟨⟨fun hm hl ha he => ?clipRaise, fun hm hq => ?clipQuiet, fun hm => ?clipUnmet⟩,
      ⟨fun hm hl ha he => ?blackRaise, fun hm hq => ?blackQuiet, fun hm => ?blackUnmet⟩⟩,
    ⟨by decide, fun n => frameBase_of_large⟩,
    fun t n base hb => ⟨t.valid_iff base, fun hv => Timecode.oneOn_spec hb hv⟩,
    fun p l c frame t => ⟨fun hn => ?unchecked, fun base hb => ⟨fun hv => ?invalid, fun hv he => ?expected,
      fun u hv he hu => ?unexpected⟩⟩,
    fun p l k frame site => ⟨fun he => ?disabled, fun he => ?enabled⟩,
    fun buffer k frame site => ⟨bufferRaise_of_kind frame site, fun hn => ?inserted⟩⟩
  case addRange =>
    refine declines_of_refuse h rfl (if_pos ?_) rfl
    rw [isLetter_eq_false]
    omega
  case addSame =>
    exact declines_of_refuse h rfl (Part.addDefect_of_taken ⟨h1, h2, h3, h4, h5, h6⟩
      (Part.takeDefect_of_same (p := s.part.quiet) ((FaultUnit.has_iff _ _).2 hs))) rfl
  case addFull =>
    exact declines_of_refuse h rfl (Part.addDefect_of_taken ⟨h1, h2, h3, h4, h5, h6⟩
      (Part.takeDefect_of_full (p := s.part.quiet) (fun he => hs ((FaultUnit.has_iff _ _).1 he)) hf)) rfl
  case add =>
    rw [← leBytes_one]
    exact taken_of_reply h rfl (Part.addDefect_of_taken ⟨h1, h2, h3, h4, h5, h6⟩
      (Part.takeDefect_of_free (p := s.part.quiet) (fun he => hs ((FaultUnit.has_iff _ _).1 he)) hi)) rfl
  case removeRange => exact declines_of_refuse h rfl (if_pos hi) rfl
  case removeNone =>
    refine declines_of_refuse h rfl ((if_neg (Nat.not_lt.2 hi)).trans ?_) rfl
    have hn : tget s.part.quiet.fault.defects i = none := hn
    rw [hn]
  case remove =>
    obtain ⟨e, he⟩ := Option.ne_none_iff_exists'.1 hn
    refine taken_of_reply h rfl ((if_neg (Nat.not_lt.2 hi)).trans ?_) rfl
    have he : tget s.part.quiet.fault.defects i = some e := he
    rw [he]
    rfl
  case adoptRange => exact declines_of_refuse h rfl (if_pos hi) rfl
  case adoptNone =>
    refine declines_of_refuse h rfl ((if_neg (Nat.not_lt.2 hi)).trans ?_) rfl
    have hn : s.part.quiet.clip i = none := hn
    rw [hn]
  case adoptNoSite =>
    refine declines_of_refuse h rfl ((if_neg (Nat.not_lt.2 hi)).trans ?_) rfl
    have hc : s.part.quiet.clip i = some c := hc
    simp only [hc, hn]
  case adoptSame =>
    exact declines_of_refuse h rfl (Part.adoptDefect_of_taken (p := s.part.quiet) hi hc hxy
      (Part.takeDefect_of_same (p := s.part.quiet) ((FaultUnit.has_iff _ _).2 hs))) rfl
  case adoptFull =>
    exact declines_of_refuse h rfl (Part.adoptDefect_of_taken (p := s.part.quiet) hi hc hxy
      (Part.takeDefect_of_full (p := s.part.quiet) (fun he => hs ((FaultUnit.has_iff _ _).1 he)) hf)) rfl
  case adopt =>
    rw [← leBytes_one]
    exact taken_of_reply h rfl (Part.adoptDefect_of_taken (p := s.part.quiet) hi hc hxy
      (Part.takeDefect_of_free (p := s.part.quiet) (fun he => hs ((FaultUnit.has_iff _ _).1 he)) hk)) rfl
  case closes => exact if_pos ((FrameAcc.closes_iff _ b last).2 hclose)
  case gathers =>
    refine if_neg ?_
    rw [FrameAcc.closes_iff]
    rintro (h | h | h)
    · simp [hend] at h
    · exact absurd hblocks (Nat.not_lt.2 h)
    · simp [hlast] at h
  case extremes =>
    rw [mem_extremeSites, isExtreme_iff]
    constructor
    · rintro ⟨-, -, ⟨hx, hxw, hy, hyh, hcode, happart⟩, rfl⟩
      exact ⟨hx, hxw, hy, hyh, rfl, hcode, happart⟩
    · rintro ⟨hx, hxw, hy, hyh, rfl, hcode, happart⟩
      exact ⟨by omega, by omega, ⟨hx, hxw, hy, hyh, hcode, happart⟩, rfl⟩
  case trackers =>
    intro place kept checked taken
    have hupdate := p.updateTrackers_eq l i letter frame extremes (kept := kept) rfl
    refine ⟨fun trip ht => ?_, fun hc ht => ?_, fun hc ht => ?_⟩
    · exact hupdate.trans (unlessTrip_of_some ht _)
    · refine (hupdate.trans (unlessTrip_of_none hc _)).trans ?_
      exact congrArg (·, none) (if_neg (by rw [Bool.not_eq_true]; exact ht))
    · refine (hupdate.trans (unlessTrip_of_none hc _)).trans ?_
      exact congrArg (·, none) (if_pos ht)
  case suspects =>
    have hstep := Part.suspects_of_reached l letter limit ts n p hs hr
    refine ⟨fun k d hfound => ?_, fun hfound hraised => ?_, fun trip hfound hraised => ?_⟩
    · rw [Part.checkSuspect_of_known (p := p.markSuspect l n t) l hfound] at hstep
      exact hstep.trans (unlessTrip_of_none rfl _)
    · rw [Part.checkSuspect_of_unknown (p := p.markSuspect l n t) l hfound] at hstep
      exact hstep.trans (unlessTrip_of_none hraised _)
    · rw [Part.checkSuspect_of_unknown (p := p.markSuspect l n t) l hfound] at hstep
      exact hstep.trans (unlessTrip_of_some hraised _)
  case taken => subst hts; exact takeSite_of_free frame code ignored h hfront
  case clipRaise => subst hm; simp only [Part.detectClipped, detect_of_raise hl ha he, if_true] <;> rfl
  case clipQuiet => subst hm; simp only [Part.detectClipped, detect_of_quiet hq] <;> rfl
  case clipUnmet => subst hm; rfl
  case blackRaise => subst hm; simp only [Part.detectBlack, detect_of_raise hl ha he, if_true] <;> rfl
  case blackQuiet => subst hm; simp only [Part.detectBlack, detect_of_quiet hq] <;> rfl
  case blackUnmet => subst hm; rfl
  case unchecked => rw [Part.checkTimecode, hn]
  case invalid => simp only [Part.checkTimecode, hb, hv, Bool.false_eq_true, if_false] <;> rfl
  case expected =>
    have he : expectedTimecode c.start (p.reader l).analyzer.reference frame base = none ∨
        expectedTimecode c.start (p.reader l).analyzer.reference frame base = some t := he
    rcases he with he | he <;> simp only [Part.checkTimecode, hb, hv, he, if_true] <;> rfl
  case unexpected =>
    have he : expectedTimecode c.start (p.reader l).analyzer.reference frame base = some u := he
    simp only [Part.checkTimecode, hb, hv, he, if_true, hu, if_false] <;> rfl
  case disabled => exact if_neg (by simp [he])
  case enabled => exact if_pos he
  case inserted =>
    rw [bufferRaise_of_new frame site hn]
    exact insertPending_split _ buffer

end Sys2Proof.Machine

/-! Port reset (09): the events of its blocks, each on the state it finds; what the operations that end a lane's traffic
leave as it was. -/

namespace Sys2Proof.Machine

/-! ### The same change of every unit -/

theorem Part.each_modReader (p : Part) (f : ReaderLane → ReaderLane) :
    p.each allReaders (fun p l => p.modReader l f) = { p with readers := p.readers.map f } := by
  have h : (p.each allReaders fun p l => p.modReader l f).readers = p.readers.map f := by
    apply Vector.ext
    intro i hi
    interval_cases i <;> simp [Part.each, allReaders, Part.modReader, Part.reader, Vector.get_eq_getElem]
  rw [← h]
  rfl

theorem Part.each_modDest (p : Part) (f : DestLane → DestLane) :
    p.each allDests (fun p d => p.modDest d f) = { p with dests := p.dests.map f } := by
  have h : (p.each allDests fun p d => p.modDest d f).dests = p.dests.map f := by
    apply Vector.ext
    intro i hi
    interval_cases i <;> simp [Part.each, allDests, Part.modDest, Part.dest, Vector.get_eq_getElem]
  rw [← h]
  rfl

theorem Part.each_modChannel (p : Part) (f : Channel → Channel) :
    p.each allChannels (fun p c => p.modChannel c f) = { p with channels := p.channels.map f } := by
  have h : (p.each allChannels fun p c => p.modChannel c f).channels = p.channels.map f := by
    apply Vector.ext
    intro i hi
    interval_cases i <;> simp [Part.each, allChannels, Part.modChannel, Part.channel, Vector.get_eq_getElem]
  rw [← h]
  rfl

theorem vector_get_map {α β : Type} {n : Nat} (v : Vector α n) (f : α → β) (i : Fin n) : (v.map f).get i = f (v.get i) := by
  simp [Vector.get_eq_getElem]

theorem Part.resetAttention_eq (p : Part) :
    p.resetAttention =
      { p with
        attention := { p.attention with custody := false, faults := false, vector := 15 }
        render := { p.render with term := TermSlot.none }
        channels := p.channels.map fun ch => { ch with term := TermSlot.none }
        readers := p.readers.map fun r => { r with term := TermSlot.none, changed := false }
        dests := p.dests.map fun r => { r with term := TermSlot.none, changed := false } } := by
  simp only [Part.resetAttention, Part.each_modChannel, Part.each_modReader, Part.each_modDest] <;> rfl

/-! ### What the end of a recopy leaves (R108, R109) -/

/-- The engine, the termination slots of the lanes, and the explicit operations: what a recopy's end does not touch but for
the operation of its own lane. -/
def Part.outline (p : Part) : RenderEngine × (Fin 6 → TermSlot) × (Fin 4 → TermSlot × Option ExplicitOp) :=
  (p.render, fun l => (p.reader l).term, fun d => ((p.dest d).term, (p.dest d).explicit))

theorem Part.outline_each {α : Type} (xs : List α) (f : Part → α → Part) (h : ∀ q x, (f q x).outline = q.outline) :
    ∀ p : Part, (p.each xs f).outline = p.outline := by
  induction xs with
  | nil => exact fun p => rfl
  | cons x xs ih => exact fun p => (ih (f p x)).trans (h p x)

theorem Part.outline_modReader (p : Part) (l : Fin 6) (f : ReaderLane → ReaderLane) (h : ∀ r, (f r).term = r.term) :
    (p.modReader l f).outline = p.outline := by
  have hterm : (fun k => ((p.modReader l f).reader k).term) = fun k => (p.reader k).term := by
    funext k
    by_cases hk : k = l
    · subst hk
      rw [p.reader_modReader_self, h]
    · rw [p.reader_modReader_other l k f hk]
  exact congrArg (fun x => (p.render, x, fun d => ((p.dest d).term, (p.dest d).explicit))) hterm

theorem Part.outline_modDest (p : Part) (d : Fin 4) (f : DestLane → DestLane)
    (h : ∀ r, ((f r).term, (f r).explicit) = (r.term, r.explicit)) : (p.modDest d f).outline = p.outline := by
  have hlane : (fun e => (((p.modDest d f).dest e).term, ((p.modDest d f).dest e).explicit)) =
      fun e => ((p.dest e).term, (p.dest e).explicit) := by
    funext e
    by_cases he : e = d
    · subst he
      rw [p.dest_modDest_self, h]
    · rw [p.dest_modDest_other d e f he]
  exact congrArg (fun x => (p.render, (fun l => (p.reader l).term), x)) hlane

theorem Part.outline_modChannel (p : Part) (c : Fin 2) (f : Channel → Channel) :
    (p.modChannel c f).outline = p.outline := rfl

theorem ReaderLane.abandonOf_term (r : ReaderLane) (o : ReaderOwner) : (r.abandonOf o).term = r.term := by
  unfold ReaderLane.abandonOf
  split
  · split <;> rfl
  · rfl

theorem Part.outline_evaluate (p : Part) (i : Nat) : (p.evaluate i).outline = p.outline := by
  unfold Part.evaluate
  split
  · split
    · rfl
    · split <;> rfl
  · rfl

theorem Part.outline_evaluateClip (p : Part) (i : Nat) : (p.evaluateClip i).outline = p.outline := by
  unfold Part.evaluateClip
  split
  · exact p.outline_evaluate _
  · rfl

theorem Part.outline_withdrawRead (p : Part) (c : Fin 2) : (p.withdrawRead c).outline = p.outline := by
  refine (Part.outline_modChannel _ c _).trans ((Part.outline_each _ _ (fun q l => ?_) _).trans
    (Part.outline_each _ _ (fun q d => ?_) p))
  · exact q.outline_modReader l _ fun r => ReaderLane.abandonOf_term _ _
  · exact q.outline_modDest d _ fun _ => rfl

theorem Part.outline_noSource (p : Part) (c : Fin 2) (i : Nat) : (p.noSource c i).outline = p.outline := rfl

theorem Part.outline_loseSource (p : Part) (c : Fin 2) : (p.loseSource c).outline = p.outline := by
  unfold Part.loseSource
  split
  · dsimp only
    split
    · exact (Part.outline_modChannel _ c _).trans (p.outline_withdrawRead c)
    · exact (Part.outline_noSource _ c _).trans (p.outline_withdrawRead c)
  · rfl

theorem Part.outline_dropCopy (p : Part) (i v : Nat) : (p.dropCopy i v).outline = p.outline := by
  refine (Part.outline_each _ _ (fun q c => ?_) _).trans (Part.outline_evaluateClip (p.modClip i _) i)
  split
  · exact q.outline_loseSource c
  · rfl

theorem Part.outline_claimRelease (p : Part) (v : Nat) (k : CopyKey) : (p.claimRelease v k).outline = p.outline := by
  unfold Part.claimRelease
  split
  · split
    · exact p.outline_modDest _ _ fun _ => rfl
    · rfl
  · rfl

theorem Part.outline_withdrawRecopyReads (p : Part) (d : Fin 4) : (p.withdrawRecopyReads d).outline = p.outline := by
  refine (Part.outline_each _ _ (fun q l => ?_) _).trans (Part.outline_each _ _ (fun q e => ?_) p)
  · exact q.outline_modReader l _ fun r => ReaderLane.abandonOf_term _ _
  · exact q.outline_modDest e _ fun _ => rfl

theorem Part.outline_withdrawRecopyWrites (p : Part) (d : Fin 4) : (p.withdrawRecopyWrites d).outline = p.outline := by
  unfold Part.withdrawRecopyWrites
  exact p.outline_modDest d _ fun _ => rfl

theorem Part.outline_releaseReader (p : Part) (x : RecopyCtx) : (p.releaseReader x).outline = p.outline := by
  unfold Part.releaseReader
  split
  · exact Part.outline_modReader _ _ _ fun _ => rfl
  · rfl

/-- The reads, the writes, the service mark of a recopy withdrawn, and its operation taken off its lane. -/
def Part.detachRecopy (p : Part) (d : Fin 4) (x : RecopyCtx) : Part :=
  (((p.withdrawRecopyReads d).withdrawRecopyWrites d).releaseReader x).modDest d fun r => { r with explicit := none }

theorem Part.dropRecopy_of_some {p : Part} {d : Fin 4} {x : RecopyCtx} (h : p.recopyOf d = some x) :
    p.dropRecopy d =
      match (p.detachRecopy d x).keyOf x.clip false with
      | some k => ((p.detachRecopy d x).dropCopy x.clip x.target).claimRelease x.target k
      | none => (p.detachRecopy d x).dropCopy x.clip x.target := by
  simp only [Part.dropRecopy, h] <;> rfl

theorem Part.dropRecopy_of_none {p : Part} {d : Fin 4} (h : p.recopyOf d = none) : p.dropRecopy d = p := by
  simp only [Part.dropRecopy, h]

theorem Part.outline_dropRecopy {p : Part} {d : Fin 4} {x : RecopyCtx} (h : p.recopyOf d = some x) :
    (p.dropRecopy d).outline = (p.modDest d fun r => { r with explicit := none }).outline := by
  have hout : (p.dropRecopy d).outline = (p.detachRecopy d x).outline := by
    rw [Part.dropRecopy_of_some h]
    split
    · exact (Part.outline_claimRelease _ _ _).trans (Part.outline_dropCopy _ _ _)
    · exact Part.outline_dropCopy _ _ _
  have hbefore : (((p.withdrawRecopyReads d).withdrawRecopyWrites d).releaseReader x).outline = p.outline :=
    (Part.outline_releaseReader _ x).trans
      ((Part.outline_withdrawRecopyWrites _ d).trans (p.outline_withdrawRecopyReads d))
  rw [hout, Part.detachRecopy]
  generalize ((p.withdrawRecopyReads d).withdrawRecopyWrites d).releaseReader x = q at hbefore ⊢
  simp only [Part.outline, Prod.mk.injEq, funext_iff] at hbefore ⊢
  obtain ⟨hrender, hreader, hdest⟩ := hbefore
  refine ⟨hrender, hreader, fun e => ?_⟩
  by_cases he : e = d
  · subst he
    simp only [Part.dest_modDest_self, and_true]
    exact (hdest e).1
  · simp only [Part.dest_modDest_other _ _ _ _ he]
    exact hdest e

/-- What ending recopies leaves of a part: the engine, the terminations, and no operation that was not there. -/
structure Part.Fewer (p q : Part) : Prop where
  render : q.render = p.render
  reader : ∀ l, (q.reader l).term = (p.reader l).term
  dest : ∀ e, (q.dest e).term = (p.dest e).term
  explicit : ∀ e x, (q.dest e).explicit = some x → (p.dest e).explicit = some x

theorem Part.Fewer.refl (p : Part) : p.Fewer p := ⟨rfl, fun _ => rfl, fun _ => rfl, fun _ _ h => h⟩

theorem Part.Fewer.trans {p q r : Part} (h : p.Fewer q) (k : q.Fewer r) : p.Fewer r :=
  ⟨k.render.trans h.render, fun l => (k.reader l).trans (h.reader l), fun e => (k.dest e).trans (h.dest e),
    fun e x hx => h.explicit e x (k.explicit e x hx)⟩

theorem Part.fewer_dropRecopy (p : Part) (d : Fin 4) :
    p.Fewer (p.dropRecopy d) ∧ ∀ x, ((p.dropRecopy d).dest d).explicit ≠ some (.recopy x) := by
  cases h : p.recopyOf d with
  | none =>
    rw [Part.dropRecopy_of_none h]
    refine ⟨Part.Fewer.refl p, fun x hx => ?_⟩
    simp [Part.recopyOf, hx] at h
  | some x =>
    have hout := Part.outline_dropRecopy h
    simp only [Part.outline, Prod.mk.injEq, funext_iff] at hout
    obtain ⟨hrender, hreader, hdest⟩ := hout
    refine ⟨⟨hrender, hreader, fun e => ?_, fun e y hy => ?_⟩, fun y hy => ?_⟩
    · rw [(hdest e).1]
      by_cases he : e = d
      · subst he; rw [Part.dest_modDest_self]
      · rw [Part.dest_modDest_other _ _ _ _ he]
    · rw [(hdest e).2] at hy
      by_cases he : e = d
      · subst he; rw [Part.dest_modDest_self] at hy; cases hy
      · rwa [Part.dest_modDest_other _ _ _ _ he] at hy
    · rw [(hdest d).2, Part.dest_modDest_self] at hy
      cases hy

theorem Part.fewer_dropRecopiesFrom (v : Nat) (ts : List (Fin 4)) : ∀ p : Part,
    let q := p.each ts fun p t =>
      match p.recopyOf t with
      | some x => if x.source == .volume v then p.dropRecopy t else p
      | none => p
    p.Fewer q ∧ ∀ e ∈ ts, ∀ x, (q.dest e).explicit = some (.recopy x) → x.source ≠ .volume v := by
  induction ts with
  | nil => exact fun p => ⟨Part.Fewer.refl p, by simp⟩
  | cons t ts ih =>
    intro p
    have hstep : ∃ q : Part, q = (match p.recopyOf t with
        | some x => if x.source == .volume v then p.dropRecopy t else p
        | none => p) ∧ p.Fewer q ∧ ∀ x, (q.dest t).explicit = some (.recopy x) → x.source ≠ .volume v := by
      refine ⟨_, rfl, ?_⟩
      cases h : p.recopyOf t with
      | none =>
        refine ⟨Part.Fewer.refl p, fun x hx => ?_⟩
        simp [Part.recopyOf, hx] at h
      | some y =>
        by_cases hy : (y.source == .volume v) = true
        · simp only [hy, if_true]
          obtain ⟨hfewer, hgone⟩ := p.fewer_dropRecopy t
          exact ⟨hfewer, fun x hx => absurd hx (hgone x)⟩
        · simp only [hy]
          refine ⟨Part.Fewer.refl p, fun x hx hsource => hy ?_⟩
          simp only [Part.recopyOf, Bool.false_eq_true, if_false] at h hx
          rw [hx] at h
          cases h
          simp [hsource]
    obtain ⟨q, hq, hfewer, hgone⟩ := hstep
    obtain ⟨hrest, hnone⟩ := ih q
    subst hq
    refine ⟨hfewer.trans hrest, fun e he x hx => ?_⟩
    rcases List.mem_cons.1 he with rfl | he
    · exact hgone x (hrest.explicit e _ hx)
    · exact hnone e he x hx

/-! ### The other blocks -/

theorem Part.portResetRender_active (p : Part) : p.portResetRender.render.active = none := by
  unfold Part.portResetRender Part.dropRender
  split
  · rfl
  · next h => exact h

theorem Part.portResetReader_eq (p : Part) (l : Fin 6) :
    p.portResetReader l =
      if ((p.clearReader l).reader l).state = .equipment then p.clearReader l
      else (p.clearReader l).restartReader l := rfl

/-- What a reset has ended on a reader lane. -/
theorem Part.clearReader_idle (p : Part) (l : Fin 6) :
    let r := (p.clearReader l).reader l
    r.out = none ∧ r.serves = none ∧ r.previews = [] ∧ r.term = TermSlot.none ∧ r.changed = false := by
  simp [Part.clearReader]

theorem Part.takeReset_dest (p : Part) (d : Fin 4) {q : Part}
    (h : (match p.boundVolume d with
      | some v => ((p.dropRecopiesFrom v).clearTraffic d v).each (allChannels.filter (p.readingDest d)) Part.loseSource
      | none => p.portResetVerify d) = q) :
    p.takeReset (.dest d) = (q.modDest d DestLane.cleared).reidentify d := by
  subst h; rfl

theorem mem_allReaders (l : Fin 6) : l ∈ allReaders := by revert l; decide
theorem mem_allDests (d : Fin 4) : d ∈ allDests := by revert d; decide
theorem mem_allChannels (c : Fin 2) : c ∈ allChannels := by revert c; decide

theorem mem_allBlocks (b : ResetBlock) : b ∈ allBlocks := by
  cases b <;> simp [allBlocks, mem_allReaders, mem_allDests, mem_allChannels]

theorem exec_portReset_settings {turn : ResetTurn} {s t : State} (h : exec (.portReset turn) s = .next t) :
    t.part.settings = s.part.settings :=
  (exec_portReset_keeps (st := true) (bd := false) h).settings rfl

/-- Settles O5. -/
theorem portResets : Obligations.PortResets := by
  refine ⟨fun s => ⟨rfl, exec_portReset_settings (turn := .whole) (s := s) rfl, rfl, fun b hb hstage => ?takes,
      fun b hb => ?waits⟩,
    fun s t h o => ?window, mem_allBlocks, ⟨rfl, fun _ => rfl, fun _ => rfl, fun _ => rfl, rfl, rfl⟩,
    fun p => ⟨?attention, rfl, fun _ => rfl, rfl, fun d => ⟨fun h => ?unbound, fun v h => ?bound⟩, fun v => ?recopies,
      fun l h => ?idle, fun l d h => ?serving⟩,
    Part.portResetRender_active, fun p l => ?reader⟩
  case takes =>
    have hexec := (exec_portReset_block b s).trans (if_pos ((mayTakeReset_iff b s.owed).2 ⟨hb, hstage⟩))
    exact ⟨hexec, exec_portReset_settings hexec⟩
  case waits =>
    refine (exec_portReset_block b s).trans (if_neg fun h => ?_)
    obtain ⟨hmem, hstage⟩ := (mayTakeReset_iff b s.owed).1 h
    rcases hb with hb | ⟨x, hx, hlt⟩
    · exact hb hmem
    · exact absurd (hstage x hx) (Nat.not_le.2 hlt)
  case window =>
    have hmask : t.part.attention.mask = s.part.attention.mask := by
      rcases h with h | h <;> exact congrArg (fun x => x.2.2) (exec_portReset_settings h)
    rw [State.windowByte_of_cleared (exec_portReset_port_cleared h), hmask]
  case attention =>
    intro q
    have hq : q = p.resetAttention := rfl
    rw [hq, p.resetAttention_eq]
    refine ⟨rfl, rfl, fun c => ?_, fun l => ?_, fun d => ?_⟩
    · exact congrArg Channel.term (vector_get_map _ _ c)
    · exact ⟨congrArg ReaderLane.term (vector_get_map _ _ l), congrArg ReaderLane.changed (vector_get_map _ _ l)⟩
    · exact ⟨congrArg DestLane.term (vector_get_map _ _ d), congrArg DestLane.changed (vector_get_map _ _ d)⟩
  case unbound => exact p.takeReset_dest d (by rw [h])
  case bound => exact p.takeReset_dest d (by rw [h]; rfl)
  case recopies =>
    obtain ⟨hfewer, hgone⟩ := Part.fewer_dropRecopiesFrom v allDests p
    exact ⟨hfewer.render, hfewer.reader, fun e => ⟨hfewer.dest e, hgone e (mem_allDests e)⟩⟩
  case idle =>
    show (match (p.reader l).serves with
      | some d => (p.dropRecopy d).portResetReader l
      | none => p.portResetReader l) = _
    rw [h]
  case serving =>
    show (match (p.reader l).serves with
      | some d => (p.dropRecopy d).portResetReader l
      | none => p.portResetReader l) = _
    rw [h]
  case reader =>
    intro was r
    have hidle := p.clearReader_idle l
    have hr : r = (p.portResetReader l).reader l := rfl
    have hwas : was = ((p.clearReader l).reader l).state := rfl
    clear_value was r
    rw [p.portResetReader_eq] at hr
    by_cases he : was = .equipment
    · rw [if_pos (hwas.symm.trans he)] at hr
      subst hr
      exact ⟨by rw [if_pos (Or.inr he), hwas], fun _ h => absurd he h, hidle⟩
    · rw [if_neg (fun h => he (hwas.trans h)), Part.restartReader, Part.reader_modReader_self] at hr
      by_cases hn : was = .noReader
      · rw [if_pos (hwas.symm.trans hn)] at hr
        subst hr
        exact ⟨by rw [if_pos (Or.inl hn), hwas], fun h => absurd hn h, hidle⟩
      · rw [if_neg (fun h => hn (hwas.trans h))] at hr
        subst hr
        exact ⟨by rw [if_neg (by simp [he, hn])], fun _ _ => rfl, hidle⟩

end Sys2Proof.Machine

/-! The copy and volume requests (04, 05): Verify Copy and the sweep, Recopy and its source, Set Verify Mode, Set Role,
Eject, Retire Volume. -/

namespace Sys2Proof.Machine

/-! ### Verify Copy, the sweep (R97, R100) -/

theorem Volume.attachedLane_eq_none (v : Volume) : v.attachedLane = none ↔ v.attach = .detached ∨ v.lane = none := by
  unfold Volume.attachedLane
  split
  · next h => simp [h]
  · next h => simp [h]

theorem Volume.attachedLane_of_attached {v : Volume} {l : Fin 4} (h : v.attach ≠ .detached) (hl : v.lane = some l) :
    v.attachedLane = some l := by
  rw [Volume.attachedLane, if_neg h, hl]

theorem Part.verifyRequest_of_missing (p : Part) {i v : Nat} (hi : i ≤ 1023) (hv : v ≤ 7)
    (h : p.clip i = none ∨ p.volume v = none ∨ p.copyState i v = none) : p.verifyRequest i v = p.refuse .notFound := by
  rw [Part.verifyRequest, if_neg (by omega)]
  split
  · next hc hr hs =>
    rcases h with h | h | h
    · cases hc.symm.trans h
    · cases hr.symm.trans h
    · cases hs.symm.trans h
  · rfl

theorem Part.verifyRequest_of_found (p : Part) {i v : Nat} {r : Volume} {st : CopyState} (hi : i ≤ 1023) (hv : v ≤ 7)
    (hc : p.clip i ≠ none) (hr : p.volume v = some r) (hs : p.copyState i v = some st) :
    p.verifyRequest i v =
      match r.attachedLane with
      | none => p.refuse .notPresent
      | some d =>
        if (p.dest d).explicit.isSome ∨ st = .writing ∨ st = .verifying then p.refuse .busy
        else if (p.dest d).term.unsensed then p.refuse .unsensed
        else (p.acceptVerify d i v st, Answer.bare .accepted) := by
  obtain ⟨c, hc⟩ := Option.ne_none_iff_exists'.1 hc
  rw [Part.verifyRequest, if_neg (by omega)]
  simp only [hc, hr, hs] <;> rfl

theorem Part.takeSweep_of_bound (p : Part) {d : Fin 4} {v : Nat} {r : Volume} (hb : p.boundVolume d = some v)
    (hr : p.volume v = some r) :
    p.takeSweep d =
      match r.verifyList with
      | i :: rest =>
        if r.attach ≠ .detached ∧ r.mode = .auto ∧ (p.dest d).sweep.isNone then
          (p.modVolume v fun x => { x with verifyList := rest }).startVerify d false i v .written
        else p
      | [] => p := by
  simp only [Part.takeSweep, hb, hr] <;> rfl

/-- Settles O35. -/
theorem verifyStarted : Obligations.VerifyStarted := by
  refine ⟨fun s d i v h => ⟨fun hr => ?range, fun hi hv => ⟨fun hm => ?missing, fun r st hc hr hs => ⟨fun hn => ?detached,
      fun l ha hl => ⟨fun hb => ?busy, fun he hw hy => ⟨fun hu => ?unsensed, fun hu => ?accepted⟩⟩⟩⟩⟩,
    fun p d v r hb hr => ⟨fun hl => ?empty, fun i rest hl => ⟨fun hn => ?held, fun hf => ?taken⟩⟩⟩
  case range => exact declines_of_refuse h rfl (if_pos hr) rfl
  case missing => exact declines_of_refuse h rfl (Part.verifyRequest_of_missing s.part.quiet hi hv hm) rfl
  case detached =>
    refine declines_of_refuse h rfl ((Part.verifyRequest_of_found s.part.quiet hi hv hc hr hs).trans ?_) rfl
    rw [r.attachedLane_eq_none.2 hn]
  case busy =>
    refine declines_of_refuse h rfl ((Part.verifyRequest_of_found s.part.quiet hi hv hc hr hs).trans ?_) rfl
    rw [Volume.attachedLane_of_attached ha hl]
    exact if_pos (hb.imp_left Option.isSome_iff_ne_none.2)
  case unsensed =>
    refine declines_of_refuse h rfl ((Part.verifyRequest_of_found s.part.quiet hi hv hc hr hs).trans ?_) rfl
    rw [Volume.attachedLane_of_attached ha hl]
    exact (if_neg (by simp [he, hw, hy])).trans (if_pos hu)
  case accepted =>
    refine taken_of_reply h rfl ((Part.verifyRequest_of_found s.part.quiet hi hv hc hr hs).trans ?_) rfl
    rw [Volume.attachedLane_of_attached ha hl]
    exact (if_neg (by simp [he, hw, hy])).trans (if_neg (by simp [hu]))
  case empty => rw [p.takeSweep_of_bound hb hr, hl]
  case held =>
    rw [p.takeSweep_of_bound hb hr, hl]
    exact if_neg (by simpa [Option.isNone_iff_eq_none] using hn)
  case taken =>
    rw [p.takeSweep_of_bound hb hr, hl]
    exact if_pos (by simpa [Option.isNone_iff_eq_none] using hf)

/-! ### The source of a recopy (R103) -/

theorem find_allVolumes (test : Nat → Bool) (w : Nat) :
    allVolumes.find? test = some w ↔ w ≤ 7 ∧ test w = true ∧ ∀ u, u < w → test u = false := by
  have h : allVolumes = List.range 8 := by decide
  rw [h, List.find?_range_eq_some]
  constructor
  · rintro ⟨ht, hw, hbelow⟩
    exact ⟨by have := List.mem_range.1 hw; omega, ht, fun u hu => by simpa using hbelow u hu⟩
  · rintro ⟨hw, ht, hbelow⟩
    exact ⟨ht, List.mem_range.2 (by omega), fun u hu => by simpa using hbelow u hu⟩

theorem find_allVolumes_eq_none (test : Nat → Bool) :
    allVolumes.find? test = none ↔ ∀ w, w ≤ 7 → test w = false := by
  have h : allVolumes = List.range 8 := by decide
  rw [h, List.find?_range_eq_none]
  exact ⟨fun hn w hw => by simpa using hn w (by omega), fun hn w hw => by simpa using hn w (by omega)⟩

theorem Part.attached_iff (p : Part) (v : Nat) :
    p.attached v = true ↔ ∃ r, p.volume v = some r ∧ r.attach ≠ .detached := by
  unfold Part.attached
  split
  · next r h => simp [h]
  · next h => simp [h]

theorem Part.copyState_eq_some (p : Part) (i v : Nat) (st : CopyState) :
    p.copyState i v = some st ↔ ∃ c e, p.clip i = some c ∧ c.copyOn v = some e ∧ e.state = st := by
  unfold Part.copyState
  cases hc : p.clip i with
  | none => simp
  | some c => cases he : c.copyOn v <;> simp [he]

/-- A volume that proves the source: attached, not the target, with a VERIFIED entry of the clip. -/
def Part.Proves (p : Part) (i v w : Nat) : Prop :=
  w ≠ v ∧ (∃ r, p.volume w = some r ∧ r.attach ≠ .detached) ∧
    ∃ c e, p.clip i = some c ∧ c.copyOn w = some e ∧ e.state = .verified

theorem Part.proves_iff (p : Part) (i v w : Nat) :
    (p.attached w && p.copyState i w == some .verified && some v != some w) = true ↔ p.Proves i v w := by
  rw [Bool.and_eq_true, Bool.and_eq_true, p.attached_iff, beq_iff_eq, p.copyState_eq_some, bne_iff_ne, Part.Proves]
  constructor
  · rintro ⟨⟨ha, hc⟩, hn⟩
    exact ⟨fun e => hn (by rw [e]), ha, hc⟩
  · rintro ⟨hn, ha, hc⟩
    exact ⟨⟨ha, hc⟩, fun e => hn (Option.some.inj e).symm⟩

theorem Part.proves_eq_false (p : Part) (i v w : Nat) :
    (p.attached w && p.copyState i w == some .verified && some v != some w) = false ↔ ¬ p.Proves i v w := by
  rw [← p.proves_iff, Bool.not_eq_true]

/-- The clip's card in a BOUND lane that serves no recopy, not RELEASED, ERASING or erased. -/
def Part.Serves (p : Part) (i : Nat) (l : Fin 6) (k : Nat) : Prop :=
  ∃ c card, p.clip i = some c ∧ c.card = k ∧ p.card k = some card ∧ card.lane = some l ∧ (p.reader l).state = .bound ∧
    (p.reader l).serves = none ∧ card.state ≠ .released ∧ card.state ≠ .erasing ∧ card.erased = false

/-- The clip's card as the source of a recopy. -/
def Part.cardToRead (p : Part) (i : Nat) : Option RecopySource :=
  match p.clip i with
  | some c =>
    match p.card c.card with
    | some card =>
      match card.lane with
      | some l =>
        if (p.reader l).state = .bound ∧ (p.reader l).serves.isNone ∧ card.state ≠ .released ∧ card.state ≠ .erasing ∧
            card.erased = false then some (.card l c.card)
        else none
      | none => none
    | none => none
  | none => none

theorem Part.recopySource_eq (p : Part) (i v : Nat) :
    p.recopySource i v =
      match p.volumeWith i .verified (some v) with
      | some w => some (.volume w)
      | none => p.cardToRead i := rfl

theorem Part.cardToRead_eq_some (p : Part) (i : Nat) (src : RecopySource) :
    p.cardToRead i = some src ↔ ∃ l k, src = .card l k ∧ p.Serves i l k := by
  unfold Part.cardToRead
  constructor
  · intro h
    split at h
    · next c hc =>
      split at h
      · next card hk =>
        split at h
        · next l hl =>
          split at h
          · next hif =>
            cases h
            obtain ⟨hstate, hserves, hreleased, herasing, herased⟩ := hif
            exact ⟨l, c.card, rfl, c, card, hc, rfl, hk, hl, hstate, Option.isNone_iff_eq_none.1 hserves, hreleased,
              herasing, herased⟩
          · cases h
        · cases h
      · cases h
    · cases h
  · rintro ⟨l, k, rfl, c, card, hc, rfl, hk, hl, hstate, hserves, hreleased, herasing, herased⟩
    simp only [hc, hk, hl]
    exact if_pos ⟨hstate, Option.isNone_iff_eq_none.2 hserves, hreleased, herasing, herased⟩

theorem Part.recopySource_eq_volume (p : Part) (i v w : Nat) :
    p.recopySource i v = some (.volume w) ↔ (w ≤ 7 ∧ p.Proves i v w) ∧ ∀ u, u < w → ¬ p.Proves i v u := by
  have hfind : p.volumeWith i .verified (some v) = some w ↔
      (w ≤ 7 ∧ p.Proves i v w) ∧ ∀ u, u < w → ¬ p.Proves i v u := by
    simp only [Part.volumeWith, find_allVolumes, p.proves_iff, p.proves_eq_false, and_assoc]
  rw [← hfind, p.recopySource_eq]
  cases hvol : p.volumeWith i .verified (some v) with
  | some u => simp
  | none =>
    simp only [reduceCtorEq, iff_false, p.cardToRead_eq_some]
    rintro ⟨l, k, h, -⟩
    cases h

theorem Part.volumeWith_eq_none (p : Part) (i v : Nat) :
    p.volumeWith i .verified (some v) = none ↔ ∀ w, ¬ (w ≤ 7 ∧ p.Proves i v w) := by
  simp only [Part.volumeWith, find_allVolumes_eq_none, p.proves_eq_false, not_and]

theorem Part.recopySource_eq_card (p : Part) (i v : Nat) (l : Fin 6) (k : Nat) :
    p.recopySource i v = some (.card l k) ↔ (∀ w, ¬ (w ≤ 7 ∧ p.Proves i v w)) ∧ p.Serves i l k := by
  rw [← p.volumeWith_eq_none, p.recopySource_eq]
  cases hvol : p.volumeWith i .verified (some v) with
  | some u => simp
  | none =>
    simp only [true_and, p.cardToRead_eq_some]
    constructor
    · rintro ⟨l', k', h, hs⟩
      cases h
      exact hs
    · exact fun hs => ⟨l, k, rfl, hs⟩

theorem Part.recopySource_eq_none (p : Part) (i v : Nat) :
    p.recopySource i v = none ↔ (∀ w, ¬ (w ≤ 7 ∧ p.Proves i v w)) ∧ ∀ l k, ¬ p.Serves i l k := by
  rw [← p.volumeWith_eq_none, p.recopySource_eq]
  cases hvol : p.volumeWith i .verified (some v) with
  | some u => simp
  | none =>
    simp only [true_and]
    rw [Option.eq_none_iff_forall_not_mem]
    simp only [Option.mem_def, p.cardToRead_eq_some]
    constructor
    · exact fun h l k hs => h _ ⟨l, k, rfl, hs⟩
    · rintro h - ⟨l, k, -, hs⟩
      exact h l k hs

/-! ### A write claim, the start of a recopy (R14, R103) -/

theorem Clip.claimWrite_of_none {c : Clip} {v : Nat} (o : Origin) (h : c.copyOn v = none) :
    c.claimWrite v o = { c with copies := c.copies ++ [{ vol := v, state := .writing, origin := o }] } := by
  rw [Clip.claimWrite]
  simp only [h, Option.isSome_none, Bool.false_eq_true, if_false]

theorem Clip.claimWrite_of_some {c : Clip} {v : Nat} {e : Copy} (o : Origin) (h : c.copyOn v = some e) :
    c.claimWrite v o =
      { c with copies := modWhere c.copies (fun x => x.vol == v) fun _ => { vol := v, state := .writing, origin := o } } := by
  rw [Clip.claimWrite]
  simp only [h, Option.isSome_some, if_true]

/-- The entries keep their volumes when those on a volume are replaced by an entry on it. -/
theorem find_modWhere_vol (xs : List Copy) {e : Copy} {v : Nat} (he : e.vol = v) (w : Nat) :
    ((modWhere xs (fun x => x.vol == v) fun _ => e).find? fun x => x.vol == w) =
      (xs.find? fun x => x.vol == w).map fun x => if x.vol = v then e else x := by
  have hkey : ((fun x : Copy => x.vol == w) ∘ fun x => if x.vol == v then e else x) = fun x => x.vol == w := by
    funext x
    simp only [Function.comp, beq_iff_eq]
    split
    · next h => rw [he, h]
    · rfl
  rw [modWhere, List.find?_map, hkey]
  simp only [beq_iff_eq]

theorem Clip.copyOn_claimWrite {c : Clip} {v : Nat} {e : Copy} (o : Origin) (h : c.copyOn v = some e) (w : Nat) :
    (c.claimWrite v o).copyOn w = if w = v then some { vol := v, state := .writing, origin := o } else c.copyOn w := by
  rw [c.claimWrite_of_some o h]
  refine (find_modWhere_vol c.copies (e := { vol := v, state := .writing, origin := o }) rfl w).trans ?_
  cases hw : c.copies.find? fun x => x.vol == w with
  | none =>
    have hne : w ≠ v := by
      rintro rfl
      cases hw.symm.trans h
    rw [if_neg hne, Option.map_none]
    exact hw.symm
  | some x =>
    have hx : x.vol = w := by simpa using List.find?_some hw
    rw [Option.map_some, hx]
    split
    · rfl
    · exact hw.symm

theorem Clip.volumes_claimWrite {c : Clip} {v : Nat} {e : Copy} (o : Origin) (h : c.copyOn v = some e) :
    (c.claimWrite v o).copies.map (·.vol) = c.copies.map (·.vol) := by
  rw [c.claimWrite_of_some o h]
  simp only [modWhere, List.map_map]
  refine List.map_congr_left fun x _ => ?_
  simp only [Function.comp, beq_iff_eq]
  split
  · next hx => exact hx.symm
  · rfl

theorem Clip.writeClaimTaken_iff (c : Clip) (v : Nat) :
    c.writeClaimTaken v = true ↔
      (c.copyOn v = none ∧ c.copies.length < 4) ∨ ∃ e m, c.copyOn v = some e ∧ e.state = .failed m := by
  unfold Clip.writeClaimTaken
  cases h : c.copyOn v with
  | none => simp
  | some e => cases hs : e.state <;> simp [hs]

/-- An evaluation changes the cards and the attention state alone. -/
theorem Part.evaluateClip_eq (p : Part) (i : Nat) :
    ∃ cards attention, p.evaluateClip i = { p with cards := cards, attention := attention } := by
  unfold Part.evaluateClip Part.evaluate
  split
  · split
    · split
      · exact ⟨_, _, rfl⟩
      · split
        · exact ⟨_, _, rfl⟩
        · exact ⟨_, _, rfl⟩
    · exact ⟨_, _, rfl⟩
  · exact ⟨_, _, rfl⟩

theorem Part.clip_modClip_other (p : Part) (i j : Nat) (f : Clip → Clip) (h : j ≠ i) :
    (p.modClip i f).clip j = p.clip j := by
  simp [Part.clip, Part.modClip, tget_tmod, h]

/-- The clip claimed, its card evaluated, and the operation on its lane: what a recopy begins with from either source. -/
def Part.openRecopy (p : Part) (d : Fin 4) (x : RecopyCtx) : Part :=
  ((p.modClip x.clip fun c => c.claimWrite x.target .recopy).evaluateClip x.clip).setExplicit d (some (.recopy x))

theorem Part.openRecopy_spec (p : Part) (d : Fin 4) (x : RecopyCtx) {c : Clip} (hc : p.clip x.clip = some c) :
    ((p.openRecopy d x).dest d).explicit = some (.recopy x) ∧
      (p.openRecopy d x).clip x.clip = some (c.claimWrite x.target .recopy) ∧
      (∀ j, j ≠ x.clip → (p.openRecopy d x).clip j = p.clip j) ∧
      (∀ e, e ≠ d → (p.openRecopy d x).dest e = p.dest e) ∧
      (∀ e, ((p.openRecopy d x).dest e).recopies = (p.dest e).recopies) ∧
      (∀ r, (p.openRecopy d x).reader r = p.reader r) ∧ ∀ w, (p.openRecopy d x).volumeLane w = p.volumeLane w := by
  obtain ⟨cards, attention, h⟩ := (p.modClip x.clip fun c => c.claimWrite x.target .recopy).evaluateClip_eq x.clip
  rw [Part.openRecopy, h]
  have hother (e : Fin 4) (he : e ≠ d) : (Part.setExplicit
      { p.modClip x.clip fun c => c.claimWrite x.target .recopy with cards := cards, attention := attention } d
      (some (.recopy x))).dest e = p.dest e := Part.dest_modDest_other _ _ _ _ he
  refine ⟨?_, p.clip_modClip_self x.clip (fun c => c.claimWrite x.target .recopy) hc,
    fun j hj => p.clip_modClip_other x.clip j (fun c => c.claimWrite x.target .recopy) hj, hother, fun e => ?_,
    fun r => rfl, fun w => rfl⟩
  · rw [Part.setExplicit, Part.dest_modDest_self]
  · by_cases he : e = d
    · subst he
      rw [Part.setExplicit, Part.dest_modDest_self]
      rfl
    · rw [hother e he]

theorem Part.recopyRead_of_opened (p : Part) (d : Fin 4) (i v w : Nat) {c : Clip} (hc : p.clip i = some c) :
    (p.openRecopy d
      { clip := i, target := v, source := .volume w, next := 0, digest := digestStart, written := 0 }).recopyRead d =
      match p.volumeLane w with
      | some e =>
        (p.openRecopy d
          { clip := i, target := v, source := .volume w, next := 0, digest := digestStart, written := 0 }).modDest e
          fun r => { r with recopies := r.recopies ++ [.read d (c.key false) 0] }
      | none =>
        p.openRecopy d { clip := i, target := v, source := .volume w, next := 0, digest := digestStart, written := 0 } := by
  obtain ⟨hexplicit, hclip, -, -, -, -, hlane⟩ := p.openRecopy_spec d
    { clip := i, target := v, source := .volume w, next := 0, digest := digestStart, written := 0 } hc
  have hkey : (c.claimWrite v .recopy).key false = c.key false := by
    unfold Clip.claimWrite
    dsimp only
    split <;> rfl
  rw [Part.recopyRead]
  simp only [Part.recopyOf, hexplicit, Part.keyOf, hclip, Option.map_some, hkey, hlane] <;> rfl

theorem Part.startRecopy_bound (p : Part) (d : Fin 4) (i v w : Nat) {c : Clip} {e : Fin 4} (hc : p.clip i = some c)
    (he : p.volumeLane w = some e) :
    p.startRecopy d i v (.volume w) =
      (p.openRecopy d
        { clip := i, target := v, source := .volume w, next := 0, digest := digestStart, written := 0 }).modDest e
        fun r => { r with recopies := r.recopies ++ [.read d (c.key false) 0] } := by
  refine (p.recopyRead_of_opened d i v w hc).trans ?_
  rw [he]

theorem Part.startRecopy_unbound (p : Part) (d : Fin 4) (i v w : Nat) {c : Clip} (hc : p.clip i = some c)
    (he : p.volumeLane w = none) :
    p.startRecopy d i v (.volume w) =
      p.openRecopy d { clip := i, target := v, source := .volume w, next := 0, digest := digestStart, written := 0 } := by
  refine (p.recopyRead_of_opened d i v w hc).trans ?_
  rw [he]

theorem Part.recopyRequest_of_found (p : Part) {i v : Nat} {c : Clip} {r : Volume} (hi : i ≤ 1023) (hv : v ≤ 7)
    (hc : p.clip i = some c) (hr : p.volume v = some r) :
    p.recopyRequest i v =
      match r.attachedLane with
      | none => p.refuse .notPresent
      | some d =>
        if r.role = .proxy ∨ r.attach = .onlineReadonly then p.refuse .readonly
        else if (p.dest d).explicit.isSome then p.refuse .busy
        else if (p.dest d).term.unsensed then p.refuse .unsensed
        else if c.ingestDigest.isNone ∨ (c.copyOn v).any (fun e => !e.state.isFailed) ∨ (p.dest d).state = .full then
          p.refuse .wrongState
        else if (c.copyOn v).isNone ∧ 4 ≤ c.copies.length then p.refuse .copyListFull
        else
          match p.recopySource i v with
          | none => p.refuse .noSource
          | some src => (p.startRecopy d i v src, Answer.bare .accepted) := by
  rw [Part.recopyRequest, if_neg (by omega)]
  simp only [hc, hr] <;> rfl

/-- On a lane that takes a recopy, what is left to refuse it. -/
theorem Part.recopyRequest_of_lane (p : Part) {i v : Nat} {c : Clip} {r : Volume} {l : Fin 4} (hi : i ≤ 1023)
    (hv : v ≤ 7) (hc : p.clip i = some c) (hr : p.volume v = some r) (hl : r.lane = some l) (hrole : r.role = .archive)
    (hon : r.attach = .online) (he : (p.dest l).explicit = none) (hu : (p.dest l).term.unsensed = false) :
    p.recopyRequest i v =
      if c.ingestDigest.isNone ∨ (c.copyOn v).any (fun e => !e.state.isFailed) ∨ (p.dest l).state = .full then
        p.refuse .wrongState
      else if (c.copyOn v).isNone ∧ 4 ≤ c.copies.length then p.refuse .copyListFull
      else
        match p.recopySource i v with
        | none => p.refuse .noSource
        | some src => (p.startRecopy l i v src, Answer.bare .accepted) := by
  rw [p.recopyRequest_of_found hi hv hc hr, Volume.attachedLane_of_attached (by simp [hon]) hl]
  simp only [hrole, hon, he, hu, reduceCtorEq, or_self, Option.isSome_none, Bool.false_eq_true, if_false]

/-- The clip is ingested, its entry on the volume FAILED or none, the lane not FULL. -/
theorem recopyBarred_iff (c : Clip) (v : Nat) (st : DestState) :
    (c.ingestDigest.isNone = true ∨ (c.copyOn v).any (fun e => !e.state.isFailed) = true ∨ st = .full) ↔
      ¬ (c.ingestDigest ≠ none ∧ (∀ e, c.copyOn v = some e → e.state.isFailed = true) ∧ st ≠ .full) := by
  cases hd : c.ingestDigest <;> cases hc : c.copyOn v <;> simp
  rw [Classical.or_iff_not_imp_left, Bool.not_eq_false]

theorem recopyRoom (c : Clip) (v : Nat) (h : c.copyOn v ≠ none ∨ c.copies.length < 4) :
    ¬ ((c.copyOn v).isNone = true ∧ 4 ≤ c.copies.length) := by
  rintro ⟨hn, h4⟩
  rcases h with h | h
  · exact h (Option.isNone_iff_eq_none.1 hn)
  · omega

/-- Settles O36. -/
theorem recopyStarted : Obligations.RecopyStarted := by
  refine ⟨fun s d i v h => ⟨fun hr => ?range, fun hi hv => ⟨fun hm => ?missing, fun c r hc hr => ⟨fun hn => ?detached,
      fun l ha hl => ⟨fun hro => ?readonly, fun hrole hon => ⟨fun he => ?busy, fun he hu => ?unsensed,
        fun he hu => ⟨fun hf => ?wrongState, fun hf hn h4 => ?full, fun hf hroom => ⟨fun hs => ?noSource,
          fun src hs => ?started⟩⟩⟩⟩⟩⟩⟩,
    fun p i v => ?source, fun c v => ⟨fun hn => by rw [c.claimWrite_of_none .recopy hn], fun e he =>
      ⟨by rw [Clip.copyOn_claimWrite .recopy he, if_pos rfl], Clip.volumes_claimWrite .recopy he,
        fun w hw => by rw [Clip.copyOn_claimWrite .recopy he, if_neg hw]⟩, c.writeClaimTaken_iff v⟩,
    fun p l i v src c hc => ?start⟩
  case range => exact declines_of_refuse h rfl (if_pos hr) rfl
  case missing =>
    refine declines_of_refuse h rfl ((if_neg (by omega)).trans ?_) rfl
    split
    · next hc hr =>
      rcases hm with hm | hm
      · cases hc.symm.trans hm
      · cases hr.symm.trans hm
    · rfl
  case detached =>
    refine declines_of_refuse h rfl ((Part.recopyRequest_of_found s.part.quiet hi hv hc hr).trans ?_) rfl
    rw [r.attachedLane_eq_none.2 hn]
  case readonly =>
    refine declines_of_refuse h rfl ((Part.recopyRequest_of_found s.part.quiet hi hv hc hr).trans ?_) rfl
    rw [Volume.attachedLane_of_attached ha hl]
    exact if_pos hro
  case busy =>
    refine declines_of_refuse h rfl ((Part.recopyRequest_of_found s.part.quiet hi hv hc hr).trans ?_) rfl
    rw [Volume.attachedLane_of_attached ha hl]
    exact (if_neg (by simp [hrole, hon])).trans (if_pos (Option.isSome_iff_ne_none.2 he))
  case unsensed =>
    refine declines_of_refuse h rfl ((Part.recopyRequest_of_found s.part.quiet hi hv hc hr).trans ?_) rfl
    rw [Volume.attachedLane_of_attached ha hl]
    exact (if_neg (by simp [hrole, hon])).trans ((if_neg (by simp [he])).trans (if_pos hu))
  case wrongState =>
    exact declines_of_refuse h rfl ((Part.recopyRequest_of_lane s.part.quiet hi hv hc hr hl hrole hon he hu).trans
      (if_pos ((recopyBarred_iff c v _).2 hf))) rfl
  case full =>
    exact declines_of_refuse h rfl ((Part.recopyRequest_of_lane s.part.quiet hi hv hc hr hl hrole hon he hu).trans
      ((if_neg fun hb => (recopyBarred_iff c v _).1 hb hf).trans (if_pos ⟨by simp [hn], h4⟩))) rfl
  case noSource =>
    refine declines_of_refuse h rfl ((Part.recopyRequest_of_lane s.part.quiet hi hv hc hr hl hrole hon he hu).trans
      ((if_neg fun hb => (recopyBarred_iff c v _).1 hb hf).trans ((if_neg (recopyRoom c v hroom)).trans ?_))) rfl
    have hs : s.part.quiet.recopySource i v = none := hs
    rw [hs]
  case started =>
    refine taken_of_reply h rfl ((Part.recopyRequest_of_lane s.part.quiet hi hv hc hr hl hrole hon he hu).trans
      ((if_neg fun hb => (recopyBarred_iff c v _).1 hb hf).trans ((if_neg (recopyRoom c v hroom)).trans ?_))) rfl
    have hs : s.part.quiet.recopySource i v = some src := hs
    rw [hs]
  case source =>
    intro proves serves
    have hproves (w : Nat) : proves w ↔ w ≤ 7 ∧ p.Proves i v w := Iff.rfl
    refine ⟨fun w => (p.recopySource_eq_volume i v w).trans ?_, fun l k => p.recopySource_eq_card i v l k,
      p.recopySource_eq_none i v⟩
    refine and_congr_right fun hw => forall₂_congr fun u hu => ?_
    rw [hproves]
    exact ⟨fun h hp => h hp.2, fun h hp => h ⟨by omega, hp⟩⟩
  case start =>
    intro q
    cases src with
    | card r k =>
      obtain ⟨hexplicit, hclip, hclips, hdests, -, -, -⟩ := p.openRecopy_spec l
        { clip := i, target := v, source := .card r k, next := 0, digest := digestStart, written := 0 } hc
      refine ⟨hexplicit, hclip, hclips, fun r' k' hr => ?_, fun w hw => nomatch hw⟩
      cases hr
      exact ⟨congrArg ReaderLane.serves (Part.reader_modReader_self _ _ _), hdests⟩
    | volume w =>
      obtain ⟨hexplicit, hclip, hclips, -, hrecopies, hreaders, hlane⟩ := p.openRecopy_spec l
        { clip := i, target := v, source := .volume w, next := 0, digest := digestStart, written := 0 } hc
      cases he : p.volumeLane w with
      | none =>
        have hq : q = _ := p.startRecopy_unbound l i v w hc he
        clear_value q
        subst hq
        exact ⟨hexplicit, hclip, hclips, fun r k hr => (nomatch hr),
          fun w' hw => ⟨hreaders, fun e hl => by cases hw; cases he.symm.trans hl⟩⟩
      | some e =>
        have hq : q = _ := p.startRecopy_bound l i v w hc he
        clear_value q
        subst hq
        refine ⟨?_, hclip, hclips, fun r k hr => (nomatch hr), fun w' hw => ⟨hreaders, fun e' hl => ?_⟩⟩
        · by_cases hle : l = e
          · subst hle
            rw [Part.dest_modDest_self]
            exact hexplicit
          · rw [Part.dest_modDest_other _ _ _ _ hle]
            exact hexplicit
        · cases hw
          cases he.symm.trans hl
          rw [Part.dest_modDest_self, ← hrecopies]

end Sys2Proof.Machine

/-! The settings of volumes and lanes, the departures of a volume by request, and Sense Unit (02, 04, 08, 10). -/

namespace Sys2Proof.Machine

/-! ### Set Verify Mode, Set Role (R83, R99) -/

theorem verifyModeOf_of_le {n : Nat} (h : n ≤ 1) : verifyModeOf n = some (if n = 0 then .auto else .paused) := by
  interval_cases n <;> rfl

theorem verifyModeOf_of_gt {n : Nat} (h : 1 < n) : verifyModeOf n = none := by
  obtain ⟨k, rfl⟩ := Nat.exists_eq_add_of_le h
  rw [Nat.add_comm]
  rfl

theorem roleOf_of_le {n : Nat} (h : n ≤ 1) : roleOf n = some (if n = 0 then .archive else .proxy) := by
  interval_cases n <;> rfl

theorem roleOf_of_gt {n : Nat} (h : 1 < n) : roleOf n = none := by
  obtain ⟨k, rfl⟩ := Nat.exists_eq_add_of_le h
  rw [Nat.add_comm]
  rfl

theorem Part.setVerifyMode_of_mode (p : Part) {v n : Nat} (h : n ≤ 1) :
    p.setVerifyMode v n =
      if 7 < v then p.refuse .range
      else
        match p.volume v with
        | none => p.refuse .notFound
        | some r =>
          (if r.mode = (if n = 0 then .auto else .paused) then p
            else p.changeVerifyMode v (if n = 0 then .auto else .paused)).accept := by
  simp only [Part.setVerifyMode, verifyModeOf_of_le h] <;> rfl

theorem Part.setVerifyMode_of_found (p : Part) {v n : Nat} {r : Volume} (h : n ≤ 1) (hv : v ≤ 7)
    (hr : p.volume v = some r) :
    p.setVerifyMode v n =
      (if r.mode = (if n = 0 then .auto else .paused) then p
        else p.changeVerifyMode v (if n = 0 then .auto else .paused)).accept := by
  rw [p.setVerifyMode_of_mode h, if_neg (by omega), hr]

theorem Part.volumeLane_modVolume (p : Part) (v : Nat) (f : Volume → Volume) (hf : ∀ r, (f r).lane = r.lane) :
    (p.modVolume v f).volumeLane v = p.volumeLane v := by
  have hvol : (p.modVolume v f).volume v = (p.volume v).map f := by
    simp [Part.volume, Part.modVolume, tget_tmod]
  rw [Part.volumeLane, hvol, Part.volumeLane]
  cases p.volume v with
  | none => rfl
  | some r => exact hf r

theorem Part.volumeLane_of_some {p : Part} {v : Nat} {r : Volume} (h : p.volume v = some r) :
    p.volumeLane v = r.lane := by
  rw [Part.volumeLane, h, Option.bind_some]

theorem Part.changeVerifyMode_held {p : Part} {v : Nat} {m : VerifyMode} (h : m = .paused ∨ p.volumeLane v = none) :
    p.changeVerifyMode v m = p.modVolume v fun r => { r with mode := m } := by
  have hlane := p.volumeLane_modVolume v (fun r => { r with mode := m }) fun _ => rfl
  rcases h with rfl | h
  · rfl
  · simp only [Part.changeVerifyMode, hlane, h]

theorem Part.changeVerifyMode_auto {p : Part} {v : Nat} {l : Fin 4} (h : p.volumeLane v = some l) :
    p.changeVerifyMode v .auto = (p.modVolume v fun r => { r with mode := .auto }).takeSweep l := by
  have hlane := p.volumeLane_modVolume v (fun r => { r with mode := .auto }) fun _ => rfl
  simp only [Part.changeVerifyMode, hlane, h]

theorem Part.setRole_of_role (p : Part) {v n : Nat} (h : n ≤ 1) (hv : v ≤ 7) :
    p.setRole v n =
      match p.volume v with
      | none => p.refuse .notFound
      | some r =>
        if !(p.entriesOn v).isEmpty ∨ 0 < p.proxiesOn v ∨ p.targeted v = true then p.refuse .inUse
        else if r.role = (if n = 0 then .archive else .proxy) then p.accept
        else
          let q := p.modVolume v fun x => { x with role := if n = 0 then .archive else .proxy }
          let q := if (if n = 0 then Role.archive else .proxy) = .proxy then q.losePlanVolumeAll v else q
          q.examine.accept := by
  simp only [Part.setRole, roleOf_of_le h, Nat.not_lt.2 hv, if_false] <;> rfl

theorem Part.setRole_of_unused (p : Part) {v n : Nat} {r : Volume} (h : n ≤ 1) (hv : v ≤ 7) (hr : p.volume v = some r)
    (he : p.entriesOn v = []) (hp : p.proxiesOn v = 0) (ht : p.targeted v = false) :
    p.setRole v n =
      if r.role = (if n = 0 then .archive else .proxy) then p.accept
      else
        let q := p.modVolume v fun x => { x with role := if n = 0 then .archive else .proxy }
        let q := if (if n = 0 then Role.archive else .proxy) = .proxy then q.losePlanVolumeAll v else q
        q.examine.accept := by
  rw [p.setRole_of_role h hv, hr]
  exact if_neg (by simp [he, hp, ht])

/-- Settles O37. -/
theorem volumeSettings : Obligations.VolumeSettings := by
  refine fun s d v n => ⟨fun h => ⟨fun hr => ?modeRange, fun hn hv hvol => ?modeNone, fun r hn hv hvol =>
      ⟨fun hm => ?modeSame, fun hm hl => ?modeHeld, fun l hm hn hl => ?modeSweep⟩⟩,
    fun h => ⟨fun hr => ?roleRange, fun hn hv hvol => ?roleNone, fun r hn hv hvol => ⟨fun hu => ?roleUsed,
      fun he hp ht => ⟨fun hm => ?roleSame, fun hm hn => ?roleProxy, fun hm hn => ?roleArchive⟩⟩⟩⟩
  case modeRange =>
    refine declines_of_refuse h rfl ?_ rfl
    by_cases hn : 1 < n
    · rw [Part.setVerifyMode, verifyModeOf_of_gt hn]
    · rw [Part.setVerifyMode_of_mode s.part.quiet (by omega)]
      exact if_pos (by omega)
  case modeNone =>
    refine declines_of_refuse h rfl ((Part.setVerifyMode_of_mode s.part.quiet hn).trans ((if_neg (by omega)).trans ?_)) rfl
    have hvol : s.part.quiet.volume v = none := hvol
    rw [hvol]
  case modeSame =>
    exact taken_of_reply h rfl ((Part.setVerifyMode_of_found s.part.quiet hn hv hvol).trans
      (congrArg Part.accept (if_pos hm))) rfl
  case modeHeld =>
    refine taken_of_reply h rfl ((Part.setVerifyMode_of_found s.part.quiet hn hv hvol).trans
      (congrArg Part.accept ((if_neg hm).trans (Part.changeVerifyMode_held ?_)))) rfl
    rcases hl with rfl | hl
    · exact Or.inl rfl
    · exact Or.inr ((Part.volumeLane_of_some (p := s.part.quiet) hvol).trans hl)
  case modeSweep =>
    subst hn
    exact taken_of_reply h rfl ((Part.setVerifyMode_of_found s.part.quiet (by omega) hv hvol).trans
      (congrArg Part.accept ((if_neg hm).trans
        (Part.changeVerifyMode_auto ((Part.volumeLane_of_some (p := s.part.quiet) hvol).trans hl))))) rfl
  case roleRange =>
    refine declines_of_refuse h rfl ?_ rfl
    by_cases hn : 1 < n
    · rw [Part.setRole, roleOf_of_gt hn]
    · rw [Part.setRole, roleOf_of_le (by omega)]
      exact if_pos (by omega)
  case roleNone =>
    refine declines_of_refuse h rfl ((Part.setRole_of_role s.part.quiet hn hv).trans ?_) rfl
    have hvol : s.part.quiet.volume v = none := hvol
    rw [hvol]
  case roleUsed =>
    refine declines_of_refuse h rfl ((Part.setRole_of_role s.part.quiet hn hv).trans ?_) rfl
    have hvol : s.part.quiet.volume v = some r := hvol
    rw [hvol]
    refine if_pos (hu.imp_left fun he => ?_)
    cases hl : s.part.entriesOn v with
    | nil => exact absurd hl he
    | cons e es =>
      have hl : s.part.quiet.entriesOn v = e :: es := hl
      rw [hl]
      rfl
  case roleSame =>
    exact taken_of_reply h rfl ((Part.setRole_of_unused s.part.quiet hn hv hvol he hp ht).trans (if_pos hm)) rfl
  case roleProxy =>
    subst hn
    exact taken_of_reply h rfl ((Part.setRole_of_unused s.part.quiet (by omega) hv hvol he hp ht).trans
      (if_neg (by simp [hm]))) rfl
  case roleArchive =>
    subst hn
    exact taken_of_reply h rfl ((Part.setRole_of_unused s.part.quiet (by omega) hv hvol he hp ht).trans
      (if_neg (by simp [hm]))) rfl

/-! ### Eject, Retire Volume (R12, R88, R89) -/

theorem Clip.forget_eq (c : Clip) (v : Nat) :
    c.forget v =
      { c with
        copies := c.copies.filter fun e => e.vol != v
        proxy := if c.proxy.map (·.vol) = some v then none else c.proxy
        faults := c.faults.filter fun f => !(f.kind == .copyMismatch && f.vol == v) } := by
  unfold Clip.forget
  cases h : c.proxy with
  | none => rfl
  | some x =>
    simp only [Option.map_some, Option.some.injEq]
    rfl

theorem Part.ejectRequest_of_found (p : Part) {v : Nat} {r : Volume} (hv : v ≤ 7) (hr : p.volume v = some r) :
    p.ejectRequest v =
      match r.attachedLane with
      | none => p.refuse .wrongState
      | some d => if p.ejectHeld d v then p.refuse .inUse else (p.ejectVolume d v).accept := by
  simp only [Part.ejectRequest, Nat.not_lt.2 hv, if_false, hr] <;> rfl

theorem Part.retireVolume_of_found (p : Part) {v : Nat} {r : Volume} (hv : v ≤ 7) (hr : p.volume v = some r) :
    p.retireVolume v =
      if r.lane.isSome ∨ 0 < p.cardsOn v ∨ p.targeted v = true then p.refuse .inUse
      else
        ({ p.forgetVolume v with volumes := tdel (p.forgetVolume v).volumes v } : Part).answerWith
          (leBytes 2 ((p.entriesOn v).length + p.proxiesOn v)) := by
  simp only [Part.retireVolume, Nat.not_lt.2 hv, if_false, hr]

/-- Settles O38. -/
theorem volumesLeave : Obligations.VolumesLeave := by
  refine ⟨fun p v => ?forget, fun s d v => ⟨fun h => ⟨fun hr => ?ejectRange, fun hv hvol => ?ejectNone, fun r hv hvol =>
      ⟨fun hn => ?detached, fun l ha hl => ⟨fun hh => ?held, fun hh => ?ejected⟩⟩⟩,
    fun h => ⟨fun hr => ?retireRange, fun hv hvol => ?retireNone, fun r hv hvol => ⟨fun hu => ?used,
      fun hl hc ht => ?retired⟩⟩⟩⟩
  case forget =>
    intro bare left
    have hleft : (fun c : Clip => c.forget v) = left := funext fun c => c.forget_eq v
    rw [← hleft]
    rfl
  case ejectRange => exact declines_of_refuse h rfl (if_pos hr) rfl
  case ejectNone =>
    refine declines_of_refuse h rfl ((if_neg (by omega)).trans ?_) rfl
    have hvol : s.part.quiet.volume v = none := hvol
    rw [hvol]
  case detached =>
    refine declines_of_refuse h rfl ((Part.ejectRequest_of_found s.part.quiet hv hvol).trans ?_) rfl
    rw [r.attachedLane_eq_none.2 hn]
  case held =>
    refine declines_of_refuse h rfl ((Part.ejectRequest_of_found s.part.quiet hv hvol).trans ?_) rfl
    rw [Volume.attachedLane_of_attached ha hl]
    exact if_pos hh
  case ejected =>
    refine taken_of_reply h rfl ((Part.ejectRequest_of_found s.part.quiet hv hvol).trans ?_) rfl
    rw [Volume.attachedLane_of_attached ha hl]
    exact if_neg (by rw [Bool.not_eq_true]; exact hh)
  case retireRange => exact declines_of_refuse h rfl (if_pos hr) rfl
  case retireNone =>
    refine declines_of_refuse h rfl ((if_neg (by omega)).trans ?_) rfl
    have hvol : s.part.quiet.volume v = none := hvol
    rw [hvol]
  case used =>
    exact declines_of_refuse h rfl ((Part.retireVolume_of_found s.part.quiet hv hvol).trans
      (if_pos (hu.imp_left Option.isSome_iff_ne_none.2))) rfl
  case retired =>
    refine taken_of_reply h rfl ((Part.retireVolume_of_found s.part.quiet hv hvol).trans (if_neg ?_)) rfl
    rintro (hn | hn | hn)
    · simp [hl] at hn
    · exact absurd hc (Nat.ne_of_gt hn)
    · exact absurd (ht.symm.trans hn) Bool.false_ne_true

/-! ### Lane settings (R43, R87) -/

theorem laneModeOf_of_le {m : Nat} (h : m ≤ 1) : laneModeOf m = some (if m = 0 then .manual else .auto) := by
  interval_cases m <;> rfl

theorem laneModeOf_of_gt {m : Nat} (h : 1 < m) : laneModeOf m = none := by
  obtain ⟨k, rfl⟩ := Nat.exists_eq_add_of_le h
  rw [Nat.add_comm]
  rfl

/-- Settles O39. -/
theorem laneSettings : Obligations.LaneSettings := by
  refine fun s d n => ⟨fun m h => ⟨fun hr => ?modeRange, fun l hl hm => ?mode⟩,
    fun c e r h => ⟨fun hr => ?readerRange, fun l hl hc he hr => ?reader⟩,
    fun c e h => ⟨fun hr => ?destRange, fun l hl hc he => ?dest⟩⟩
  case modeRange =>
    refine declines_of_refuse h rfl ?_ rfl
    by_cases hn : 5 < n
    · simp only [Part.setLaneMode, unitAt_of_ge 6 n (by omega)]
    · rw [Part.setLaneMode, laneModeOf_of_gt (by omega), unitAt_of_lt 6 n (by omega)]
  case mode =>
    subst hl
    refine taken_of_reply h rfl ?_ rfl
    rw [Part.setLaneMode, unitAt_val, laneModeOf_of_le hm]
    rfl
  case readerRange =>
    refine declines_of_refuse h rfl ?_ rfl
    by_cases hn : 5 < n
    · rw [Part.setTimingReader, unitAt_of_ge 6 n (by omega)]
    · rw [Part.setTimingReader, unitAt_of_lt 6 n (by omega)]
      exact if_pos (by omega)
  case reader =>
    subst hl
    refine taken_of_reply h rfl ?_ rfl
    rw [Part.setTimingReader, unitAt_val]
    exact if_neg (by omega)
  case destRange =>
    refine declines_of_refuse h rfl ?_ rfl
    by_cases hn : 3 < n
    · rw [Part.setTimingDestination, unitAt_of_ge 4 n (by omega)]
    · rw [Part.setTimingDestination, unitAt_of_lt 4 n (by omega)]
      exact if_pos (by omega)
  case dest =>
    subst hl
    refine taken_of_reply h rfl ?_ rfl
    rw [Part.setTimingDestination, unitAt_val]
    exact if_neg (by omega)

/-! ### Sense Unit (R194) -/

theorem unitOf_dest (l : Fin 4) : unitOf l.val = some (.dest l) := by revert l; decide
theorem unitOf_reader (l : Fin 6) : unitOf (4 + l.val) = some (.reader l) := by revert l; decide
theorem unitOf_channel (c : Fin 2) : unitOf (13 + c.val) = some (.channel c) := by revert c; decide

theorem unitOf_eq_none {n : Nat} (h : n = 10 ∨ n = 11 ∨ 14 < n) : unitOf n = none := by
  rw [unitOf, unitAt_of_ge 4 n (by omega), unitAt_of_ge 6 (n - 4) (by omega)]
  have h12 : n ≠ 12 := by omega
  have h13 : n ≠ 13 := by omega
  have h14 : n ≠ 14 := by omega
  simp only [h12, h13, h14, if_false]

/-- With the termination sensed, what is left to hold an identification back. -/
theorem Part.senseDest_eq (p : Part) (d : Fin 4) :
    p.senseDest d =
      if (p.dest d).state = .empty ∧ (p.dest d).identifyPending = true ∧ (p.dest d).out = none then
        ((p.modDest d fun r => { r with term := { r.term with unsensed := false }, changed := false }).modDest d
          fun r => { r with state := .identifying, identifyPending := false }).sendVolume d .identify
      else p.modDest d fun r => { r with term := { r.term with unsensed := false }, changed := false } := by
  unfold Part.senseDest Part.startIdentify
  simp only [Part.dest_modDest_self, TermSlot.sensed, true_and, Option.isNone_iff_eq_none]

theorem Part.senseReader_eq (p : Part) (l : Fin 6) :
    p.senseReader l =
      if (p.reader l).state = .empty ∧ (p.reader l).mountPending = true then
        (p.modReader l fun r => { r with term := { r.term with unsensed := false }, changed := false }).startMount l
      else p.modReader l fun r => { r with term := { r.term with unsensed := false }, changed := false } := by
  unfold Part.senseReader
  simp only [Part.reader_modReader_self, TermSlot.sensed]

/-- Settles O41. -/
theorem unitsSensed : Obligations.UnitsSensed := by
  refine fun s d n h => ⟨fun hn => ?range, fun l hl => ?dest, fun l hl => ?reader, fun hn => ?render, fun c hc => ?channel⟩
  case range =>
    refine declines_of_refuse h rfl ?_ rfl
    rw [Part.senseUnit, unitOf_eq_none hn]
  case dest =>
    intro p q
    have hq : s.part.quiet.senseDest l = q := s.part.quiet.senseDest_eq l
    clear_value q
    subst hl
    refine taken_of_reply h rfl ?_ rfl
    rw [Part.senseUnit, unitOf_dest]
    dsimp only
    rw [hq]
    rfl
  case reader =>
    intro p q
    have hq : s.part.quiet.senseReader l = q := s.part.quiet.senseReader_eq l
    clear_value q
    subst hl
    refine taken_of_reply h rfl ?_ rfl
    rw [Part.senseUnit, unitOf_reader]
    dsimp only
    rw [hq]
    rfl
  case render =>
    subst hn
    exact taken_of_reply h rfl rfl rfl
  case channel =>
    subst hc
    refine taken_of_reply h rfl ?_ rfl
    rw [Part.senseUnit, unitOf_channel]
    rfl

end Sys2Proof.Machine

/-! The looks (07): Create Look, Retire Look, Stage Parameter; the identity parameters applied. -/

namespace Sys2Proof.Machine

/-! ### Create Look, Retire Look (R139, R152) -/

theorem isPrintable_iff (b : Byte) : isPrintable b = true ↔ 0x20 ≤ b.toNat ∧ b.toNat ≤ 0x7E := by
  simp [isPrintable]

theorem all_isPrintable_eq_false (tag : List Byte) :
    tag.all isPrintable = false ↔ ∃ b ∈ tag, ¬ (0x20 ≤ b.toNat ∧ b.toNat ≤ 0x7E) := by
  simp only [List.all_eq_false, isPrintable_iff]

theorem Part.createLook_of_range (p : Part) {tag : List Byte} {look : Option Nat} (hl : ∀ l, look = some l → l ≤ 63)
    (ht : ∀ b ∈ tag, 0x20 ≤ b.toNat ∧ b.toNat ≤ 0x7E) :
    p.createLook tag look =
      if look.any (fun l => (p.look l).isSome) = true then p.refuse .inUse
      else
        match p.lookId look with
        | none => p.refuse .tableFull
        | some l => ({ p with looks := tset p.looks l (Look.created tag) } : Part).answerWith (leBytes 1 l) := by
  refine if_neg ?_
  rintro (h | h)
  · obtain ⟨l, hl', h63⟩ := (lookAbove_eq_true look).1 h
    exact absurd (hl l hl') (Nat.not_le.2 h63)
  · obtain ⟨b, hb, hn⟩ := (all_isPrintable_eq_false tag).1 h
    exact hn (ht b hb)

theorem Part.retireLook_of_active (p : Part) {l : Nat} {k : Look} (hl : l ≤ 63) (h : p.look l = some k) :
    p.retireLook l =
      if 0 < k.refs ∨ k.pinned = true then p.refuse .inUse
      else ({ p with looks := tdel p.looks l } : Part).accept := by
  simp only [Part.retireLook, Nat.not_lt.2 hl, if_false, h]

/-- Settles O42. -/
theorem looksCreatedAndRetired : Obligations.LooksCreatedAndRetired := by
  refine fun s d => ⟨fun tag look h => ⟨fun hr => ?createRange, fun hl ht => ⟨fun hu => ?used, fun hn hf => ?full,
      fun l hfree hle hpick => ?created⟩⟩,
    fun l h => ⟨fun hr => ?retireRange, fun hl hk => ?retireNone, fun k hl hk => ⟨fun hu => ?held, fun hr hp => ?retired⟩⟩⟩
  case createRange =>
    exact declines_of_refuse h rfl (if_pos (hr.imp (lookAbove_eq_true look).2 (all_isPrintable_eq_false tag).2)) rfl
  case used =>
    obtain ⟨l, rfl, hk⟩ := hu
    exact declines_of_refuse h rfl ((Part.createLook_of_range s.part.quiet hl ht).trans
      (if_pos (Option.isSome_iff_ne_none.2 hk))) rfl
  case full =>
    subst hn
    have hid : s.part.quiet.lookId none = none := (tfree_eq_none _ _).2 fun m hm => hf m (Nat.le_of_lt_succ hm)
    refine declines_of_refuse h rfl ((Part.createLook_of_range s.part.quiet hl ht).trans ((if_neg (by simp)).trans ?_)) rfl
    rw [hid]
  case created =>
    have hany : ¬ look.any (fun l => (s.part.quiet.look l).isSome) = true := by
      rcases hpick with rfl | ⟨rfl, -⟩ <;> simp [hfree]
    have hid : s.part.quiet.lookId look = some l := by
      rcases hpick with rfl | ⟨rfl, hbelow⟩
      · rfl
      · exact (tfree_eq_some _ _ _).2 ⟨Nat.lt_succ_of_le hle, hfree, hbelow⟩
    rw [← leBytes_one]
    refine taken_of_reply h rfl ((Part.createLook_of_range s.part.quiet hl ht).trans ((if_neg hany).trans ?_)) rfl
    rw [hid]
    rfl
  case retireRange => exact declines_of_refuse h rfl (if_pos hr) rfl
  case retireNone =>
    refine declines_of_refuse h rfl ((if_neg (Nat.not_lt.2 hl)).trans ?_) rfl
    have hk : s.part.quiet.look l = none := hk
    rw [hk]
  case held => exact declines_of_refuse h rfl ((Part.retireLook_of_active s.part.quiet hl hk).trans (if_pos hu)) rfl
  case retired =>
    refine taken_of_reply h rfl ((Part.retireLook_of_active s.part.quiet hl hk).trans (if_neg ?_)) rfl
    rintro (h | h)
    · exact absurd hr (Nat.ne_of_gt h)
    · exact absurd (hp.symm.trans h) Bool.false_ne_true

/-! ### Stage Parameter (R136, R140) -/

theorem paramInRange_iff (n : Nat) (v : Int) :
    paramInRange n v = true ↔
      (n ≤ 2 ∧ 0 ≤ v ∧ v ≤ 4096) ∨ (3 ≤ n ∧ n ≤ 5 ∧ -1024 ≤ v ∧ v ≤ 1024) ∨ (6 ≤ n ∧ n ≤ 8 ∧ 256 ≤ v ∧ v ≤ 4096) ∨
        (n = 9 ∧ 0 ≤ v ∧ v ≤ 4096) ∨ (n = 10 ∧ -128 ≤ v ∧ v ≤ 128) ∨ (n = 11 ∧ 0 ≤ v ∧ v ≤ 3) := by
  unfold paramInRange
  split_ifs <;> simp only [Bool.and_eq_true, decide_eq_true_eq] <;> omega

theorem Part.stageParameter_of_active (p : Part) {l n : Nat} {v : Int} {k : Look} (hl : l ≤ 63) (hn : n ≤ 11)
    (hv : paramInRange n v = true) (h : p.look l = some k) :
    p.stageParameter l n v =
      if k.mask.getLsbD n then
        match (k.stage n v).commit with
        | some after => (p.setLook l after, committed after)
        | none => (p.setLook l (k.stage n v), Answer.bare .stagedHeld)
      else (p.setLook l (k.stage n v), Answer.bare .staged) := by
  have hr : ¬ (63 < l ∨ 11 < n ∨ paramInRange n v = false) := by
    rintro (h | h | h)
    · omega
    · omega
    · exact absurd (hv.symm.trans h) Bool.noConfusion
  simp only [Part.stageParameter, hr, if_false, h] <;> rfl

theorem nextVersion_of_lt {v : Nat} (h : v < 65535) : nextVersion v = v + 1 := if_neg (Nat.ne_of_lt h)

/-- A commit made keeps the staging set, which LIVE then equals, the mask and the references. -/
theorem Look.kept_of_commit {k after : Look} (h : k.commit = some after) :
    after.staging = after.live.values ∧ after.staging = k.staging ∧ after.mask = k.mask ∧ after.refs = k.refs := by
  by_cases hs : k.staging = k.live.values
  · rw [k.commit_of_staging_eq hs, Option.some.injEq] at h
    subst h
    exact ⟨hs, rfl, rfl, rfl⟩
  by_cases hh : k.held = none
  · rcases Nat.eq_zero_or_pos k.live.pins with hp | hp
    · rw [k.commit_of_unpinned hs hh hp, Option.some.injEq] at h
      subst h
      exact ⟨rfl, rfl, rfl, rfl⟩
    · rw [k.commit_of_pinned hs hh hp, Option.some.injEq] at h
      subst h
      exact ⟨rfl, rfl, rfl, rfl⟩
  · rw [k.commit_of_held hs hh] at h
    cases h

/-- Settles O43. -/
theorem parameterStaged : Obligations.ParameterStaged := by
  refine ⟨fun s d l n v h => ⟨fun hr => declines_of_refuse h rfl (if_pos hr) rfl, fun hl hn hv => ⟨fun hk => ?free,
      fun k hk => ⟨fun hm => ?staged, fun hm hc => ?held, fun after hm hc => ?committed⟩⟩, paramInRange_iff n v⟩,
    fun k => ⟨k.commit_of_staging_eq, k.commit_of_held, k.commit_of_unpinned, k.commit_of_pinned,
      fun v => nextVersion_of_lt, rfl, fun after => Look.kept_of_commit⟩⟩
  case free =>
    refine declines_of_refuse h rfl ((if_neg ?_).trans ?_) rfl
    · rintro (h | h | h)
      · omega
      · omega
      · exact absurd (hv.symm.trans h) Bool.noConfusion
    · have hk : s.part.quiet.look l = none := hk
      rw [hk]
  case staged =>
    exact taken_of_reply h rfl ((Part.stageParameter_of_active s.part.quiet hl hn hv hk).trans
      (if_neg (by rw [hm]; exact Bool.false_ne_true))) rfl
  case held =>
    have hc : (k.stage n v).commit = none := hc
    refine taken_of_reply h rfl ((Part.stageParameter_of_active s.part.quiet hl hn hv hk).trans ((if_pos hm).trans ?_)) rfl
    rw [hc]
    rfl
  case committed =>
    have hc : (k.stage n v).commit = some after := hc
    refine taken_of_reply h rfl ((Part.stageParameter_of_active s.part.quiet hl hn hv hk).trans ((if_pos hm).trans ?_)) rfl
    rw [hc]
    rfl

/-! ### The identity parameters (R137) -/

/-- The search by bits finds the last code reached. -/
theorem codeFrom_eq {shaper : Int} {x d c : Nat} (h : ∀ k, 0 < k → (reaches shaper x d k = true ↔ k ≤ c)) :
    ∀ n k, k ≤ c → c < k + 2 ^ n → codeFrom shaper x d n k = c
  | 0, k, hk, hc => by
    rw [codeFrom]
    omega
  | n + 1, k, hk, hc => by
    have hpos : 0 < 2 ^ n := Nat.two_pow_pos n
    rw [codeFrom]
    rw [Nat.pow_succ] at hc
    by_cases hr : k + 2 ^ n ≤ c
    · rw [if_pos ((h _ (by omega)).2 hr)]
      exact codeFrom_eq h n _ hr (by omega)
    · rw [if_neg (mt (h _ (by omega)).1 hr)]
      exact codeFrom_eq h n _ hk (by omega)

/-- With no shaper, the value c/1023 is rounded to c. -/
theorem codeOf_exact {c u : Nat} (hc : c ≤ 1023) (hu : 0 < u) : codeOf 0 (c * u) (1023 * u) = c := by
  refine codeFrom_eq (fun k hk => ?_) 10 0 (Nat.zero_le c) (by omega)
  have hleft : (2 * k - 1) * (1023 * u) = ((2 * k - 1) * 1023) * u := by rw [Nat.mul_assoc]
  have hright : 2046 * (c * u) = (2046 * c) * u := by rw [Nat.mul_assoc]
  have hreaches : reaches 0 (c * u) (1023 * u) k = decide ((2 * k - 1) * (1023 * u) ≤ 2046 * (c * u)) := rfl
  rw [hreaches, decide_eq_true_eq, hleft, hright, Nat.mul_le_mul_right_iff hu]
  omega

theorem root16_whole : root16 160 0 = 2 ^ 160 := by decide +kernel

/-- A slope of 1.0 and an exposure of 0 cancel out, rounded down or up. -/
theorem div_identity (code k : Nat) : code * 1024 * 5000 * k * 2 ^ 8 / 2 ^ 18 = code * (5000 * k) := by
  have h : code * 1024 * 5000 * k * 2 ^ 8 = code * (5000 * k) * 2 ^ 18 := by ring
  rw [h, Nat.mul_div_cancel _ (Nat.two_pow_pos 18)]

theorem divUp_identity (code k : Nat) : divUp (code * 1024 * 5000 * k * 2 ^ 8) (2 ^ 18) = code * (5000 * k) := by
  have h : code * 1024 * 5000 * k * 2 ^ 8 = code * (5000 * k) * 2 ^ 18 := by ring
  rw [divUp, h]
  omega

/-- Exposure 0, slope 1.0 and offset 0 multiply a code by the 16th root alone, whatever the bits. -/
theorem exposed_unit (bits code : Nat) :
    exposed bits code 0 1024 0 =
      { lo := code * (5000 * root16 bits 0), hi := code * (5000 * root16 bits 0) } := by
  have hsum (n k : Nat) : ((n : Int) + 0 * (k : Int)).toNat = n := by
    rw [Int.zero_mul, Int.add_zero, Int.toNat_natCast]
  rw [← div_identity, ← hsum (code * 1024 * 5000 * root16 bits 0 * 2 ^ 8 / 2 ^ 18) (1023 * 5000 * 2 ^ (bits - 10))]
  have hup : (((code * 1024 * 5000 * root16 bits 0 * 2 ^ 8 / 2 ^ 18 : Nat) : Int) +
      0 * (1023 * 5000 * 2 ^ (bits - 10) : Nat)).toNat =
      (((divUp (code * 1024 * 5000 * root16 bits 0 * 2 ^ 8) (2 ^ 18) : Nat) : Int) +
        0 * (1023 * 5000 * 2 ^ (bits - 10) : Nat)).toNat := by
    rw [div_identity, divUp_identity]
  exact congrArg (Bounds.mk _) hup.symm

theorem exposed_identity (code : Nat) :
    exposed 160 code 0 1024 0 = { lo := code * (5000 * 2 ^ 160), hi := code * (5000 * 2 ^ 160) } := by
  rw [exposed_unit, root16_whole]

theorem saturated_identity (x r g b : Bounds) : saturated x r g b 1024 = x := by
  obtain ⟨lo, hi⟩ := x
  simp only [saturated, Bounds.mk.injEq]
  simp
  omega

/-- A power of 1.0 and a saturation of 1.0 leave the value, which is a whole number of codes. -/
theorem outputCode_identity {code : Nat} (h : code ≤ 1023) (r g b : Bounds) (fraction : Option (Nat × Nat))
    (value : Nat → Bounds) :
    outputCode 0 (saturated ((exposed 160 code 0 1024 0).power 160 1024) r g b 1024) fraction value = code := by
  have hpower : (exposed 160 code 0 1024 0).power 160 1024 = exposed 160 code 0 1024 0 := rfl
  have hscale : scale 160 = 1023 * (5000 * 2 ^ 160) := by rw [scale, Nat.mul_assoc]
  rw [hpower, saturated_identity, exposed_identity]
  unfold outputCode
  simp only [if_true, hscale]
  exact codeOf_exact h (Nat.mul_pos (by decide) (Nat.two_pow_pos 160))

/-- Settles O47, channel by channel. -/
theorem identityLook : Obligations.IdentityLook := fun _ _ _ hr hg hb =>
  Prod.ext (outputCode_identity hr _ _ _ _ _)
    (Prod.ext (outputCode_identity hg _ _ _ _ _) (outputCode_identity hb _ _ _ _ _))

end Sys2Proof.Machine

/-! The render engine (08): the tag of a new entry, the requests of the queue, and a render from its start over its work to
its completion or its abort. -/

namespace Sys2Proof.Machine

/-! ### The tag of a new entry (R155) -/

/-- No entry of the queue holds the value `k` steps past the counter. -/
def RenderEngine.tagFree (r : RenderEngine) (k : Nat) : Bool := r.queue.all fun e => e.tag != (r.nextTag + k) % 65536

theorem RenderEngine.tagFree_iff (r : RenderEngine) (k : Nat) :
    r.tagFree k = true ↔ ∀ e ∈ r.queue, e.tag ≠ (r.nextTag + k) % 65536 := by
  simp [RenderEngine.tagFree]

theorem RenderEngine.tagFree_eq_false (r : RenderEngine) (k : Nat) :
    (!r.tagFree k) = true ↔ ∃ e ∈ r.queue, e.tag = (r.nextTag + k) % 65536 := by
  simp [RenderEngine.tagFree]

theorem RenderEngine.takeTag_eq (r : RenderEngine) :
    r.takeTag = (r.nextTag + ((List.range 17).find? r.tagFree).getD 0) % 65536 := rfl

/-- Sixteen entries cannot hold seventeen values in a row. -/
theorem RenderEngine.exists_tagFree (r : RenderEngine) (h : r.queue.length ≤ 16) : ∃ k, k < 17 ∧ r.tagFree k = true := by
  by_contra hnone
  have hheld (k : Nat) (hk : k ∈ Finset.range 17) : (r.nextTag + k) % 65536 ∈ (r.queue.map (·.tag)).toFinset := by
    have hfree : ¬ r.tagFree k = true := fun hf => hnone ⟨k, Finset.mem_range.1 hk, hf⟩
    obtain ⟨e, he, htag⟩ := (r.tagFree_eq_false k).1 (by simpa using hfree)
    exact List.mem_toFinset.2 (List.mem_map.2 ⟨e, he, htag⟩)
  have hinj : Set.InjOn (fun k => (r.nextTag + k) % 65536) (Finset.range 17 : Set Nat) := by
    intro a ha b hb hab
    have ha : a < 17 := by simpa using ha
    have hb : b < 17 := by simpa using hb
    have hab : (r.nextTag + a) % 65536 = (r.nextTag + b) % 65536 := hab
    omega
  have hcard := Finset.card_le_card_of_injOn _ hheld hinj
  have hlen := List.toFinset_card_le (r.queue.map (·.tag))
  rw [Finset.card_range] at hcard
  rw [List.length_map] at hlen
  omega

/-- The tag taken: the first value from the counter on that no entry holds. -/
theorem RenderEngine.takeTag_spec (r : RenderEngine) (h : r.queue.length ≤ 16) :
    ∃ k, k ≤ 16 ∧ r.takeTag = (r.nextTag + k) % 65536 ∧ r.tagFree k = true ∧ ∀ j, j < k → (!r.tagFree j) = true := by
  obtain ⟨m, hm, hfree⟩ := r.exists_tagFree h
  cases hfind : (List.range 17).find? r.tagFree with
  | none => exact absurd hfree (List.find?_eq_none.1 hfind m (List.mem_range.2 hm))
  | some k =>
    obtain ⟨hk, hrange, hbelow⟩ := List.find?_range_eq_some.1 hfind
    have hk17 := List.mem_range.1 hrange
    exact ⟨k, by omega, by rw [r.takeTag_eq, hfind]; rfl, hk, hbelow⟩

/-! ### Enqueue Render, Cancel Render (R156, R157) -/

theorem Part.enqueueRender_of_range (p : Part) {i v : Nat} {look : Option Nat} (hi : i ≤ 1023) (hv : v ≤ 7)
    (hl : ∀ l, look = some l → l ≤ 63) :
    p.enqueueRender i look v =
      match p.clip i, p.volume v with
      | some _, some r =>
        if p.lookFree look then p.refuse .notFound
        else if r.role ≠ .proxy then p.refuse .wrongRole
        else if 16 ≤ p.render.queue.length then p.refuse .queueFull
        else
          ((p.setRender fun r => r.enqueue i look v).refTake .renders look).examine.answerWith
            (leBytes 2 p.render.takeTag)
      | _, _ => p.refuse .notFound := by
  refine if_neg ?_
  rintro (h | h | h)
  · omega
  · rw [(lookAbove_eq_false look).2 hl] at h
    cases h
  · omega

theorem Part.enqueueRender_of_found (p : Part) {i v : Nat} {look : Option Nat} {r : Volume} (hi : i ≤ 1023) (hv : v ≤ 7)
    (hl : ∀ l, look = some l → l ≤ 63) (hc : p.clip i ≠ none) (hr : p.volume v = some r)
    (hlook : ∀ l, look = some l → p.look l ≠ none) :
    p.enqueueRender i look v =
      if r.role ≠ .proxy then p.refuse .wrongRole
      else if 16 ≤ p.render.queue.length then p.refuse .queueFull
      else
        ((p.setRender fun r => r.enqueue i look v).refTake .renders look).examine.answerWith
          (leBytes 2 p.render.takeTag) := by
  obtain ⟨c, hc⟩ := Option.ne_none_iff_exists'.1 hc
  rw [p.enqueueRender_of_range hi hv hl, hc, hr]
  exact if_neg (by rw [(p.lookFree_eq_false look).2 hlook]; exact Bool.false_ne_true)

theorem Part.cancelRender_of_mem (p : Part) {n : Nat} (h : ∃ e ∈ p.render.queue, e.tag = n) :
    p.cancelRender n =
      (if p.render.isRendering n then p.abortRender .cancelled .none else p.removeEntry n).accept :=
  if_pos (by simpa using h)

theorem RenderEngine.isRendering_of_active {r : RenderEngine} {x : RenderCtx} (h : r.active = some x) :
    r.isRendering x.tag = true := by
  simp only [RenderEngine.isRendering, h, BEq.rfl]

theorem RenderEngine.isRendering_eq_false {r : RenderEngine} {n : Nat} (h : ∀ x, r.active = some x → x.tag ≠ n) :
    r.isRendering n = false := by
  unfold RenderEngine.isRendering
  split
  · next x hx => simpa using h x hx
  · rfl

/-! ### The start (R160) -/

/-- The look a render uses, with its version: the entry's or else the clip's, where that look is ACTIVE. -/
def Part.usedBy (p : Part) (e : RenderEntry) (c : Clip) : Option (Nat × Nat) :=
  let look : Option Nat := match e.look with
    | some l => some l
    | none => c.look
  look.bind fun l => (p.look l).map fun k => (l, k.live.version)

def Part.pinUsed (p : Part) (used : Option (Nat × Nat)) : Part :=
  match used with
  | some (l, _) => p.modLook l fun k : Look => { k with live := { k.live with pins := k.live.pins + 1 } }
  | none => p

/-- The clip's proxy is on a volume. -/
def Clip.proxyOn (c : Clip) (v : Nat) : Bool :=
  match c.proxy with
  | some x => x.vol == v
  | none => false

theorem Clip.proxyOn_iff (c : Clip) (v : Nat) : c.proxyOn v = true ↔ c.proxy.map (·.vol) = some v := by
  unfold Clip.proxyOn
  cases c.proxy <;> simp

/-- An old proxy on the target goes, with a release claim. -/
def Part.clearTarget (p : Part) (e : RenderEntry) (c : Clip) : Part :=
  if c.proxyOn e.target then
    (p.modClip e.clip fun c => { c with proxy := none }).claimRelease e.target (c.key true)
  else p

theorem Part.clearTarget_eq (p : Part) (e : RenderEntry) (c : Clip) :
    p.clearTarget e c =
      if c.proxy.map (·.vol) = some e.target then
        (p.modClip e.clip fun c => { c with proxy := none }).claimRelease e.target (c.key true)
      else p := by
  simp only [Part.clearTarget, c.proxyOn_iff]

def startCtx (e : RenderEntry) (v : Nat) (used : Option (Nat × Nat)) : RenderCtx :=
  { tag := e.tag, clip := e.clip, source := v, target := e.target, used := used, nextSource := 0, acc := FrameAcc.start,
    nextProxy := 0, frames := 0, proxyBlocks := 0, sourceBlocks := 0, writes := [], lastFrame := false }

/-- The engine with its context. -/
def Part.withCtx (p : Part) (x : RenderCtx) : Part := { p with render := { p.render with active := some x } }

theorem Part.withCtx_setCtx (p : Part) (x : RenderCtx) (f : RenderCtx → RenderCtx) :
    (p.withCtx x).setCtx f = p.withCtx (f x) := rfl

theorem Part.startRender_eq (p : Part) {e : RenderEntry} {v : Nat} {c : Clip}
    (hv : p.volumeWith e.clip .verified none = some v) (hc : p.clip e.clip = some c) :
    p.startRender e =
      (((p.pinUsed (p.usedBy e c)).clearTarget e c).withCtx (startCtx e v (p.usedBy e c))).renderRead := by
  simp only [Part.startRender, hv, hc] <;> rfl

theorem Part.renderRead_of_active {p : Part} {x : RenderCtx} (h : p.render.active = some x) :
    p.renderRead =
      match p.keyOf x.clip false with
      | some k => p.queueRender x.source (.read k x.nextSource)
      | none => p := by
  simp only [Part.renderRead, h] <;> rfl

theorem Part.queueRender_of_lane {p : Part} {v : Nat} {d : Fin 4} (h : p.volumeLane v = some d) (i : RenderItem) :
    p.queueRender v i = p.modDest d fun r => { r with renders := r.renders ++ [i] } := by
  rw [Part.queueRender, h]

theorem Part.queueRender_of_unbound {p : Part} {v : Nat} (h : p.volumeLane v = none) (i : RenderItem) :
    p.queueRender v i = p := by
  rw [Part.queueRender, h]

theorem Part.claimRelease_clips (p : Part) (v : Nat) (k : CopyKey) :
    (p.claimRelease v k).clips = p.clips ∧ (p.claimRelease v k).volumes = p.volumes ∧
      (p.claimRelease v k).render = p.render ∧ (p.claimRelease v k).looks = p.looks := by
  unfold Part.claimRelease
  split
  · split <;> exact ⟨rfl, rfl, rfl, rfl⟩
  · exact ⟨rfl, rfl, rfl, rfl⟩

theorem Part.pinUsed_clips (p : Part) (used : Option (Nat × Nat)) :
    (p.pinUsed used).clips = p.clips ∧ (p.pinUsed used).volumes = p.volumes := by
  unfold Part.pinUsed
  split <;> exact ⟨rfl, rfl⟩

/-- What the start does before its first read leaves the clip's key and the volumes. -/
theorem Part.clearTarget_spec (p : Part) {e : RenderEntry} {c : Clip} (hc : p.clip e.clip = some c) (proxy : Bool) :
    (p.clearTarget e c).keyOf e.clip proxy = some (c.key proxy) ∧ (p.clearTarget e c).volumes = p.volumes := by
  unfold Part.clearTarget
  split
  · obtain ⟨hclips, hvolumes, -, -⟩ :=
      (p.modClip e.clip fun c => { c with proxy := none }).claimRelease_clips e.target (c.key true)
    refine ⟨?_, hvolumes⟩
    have hclip := p.clip_modClip_self e.clip (fun c => { c with proxy := none }) hc
    rw [Part.keyOf, Part.clip, hclips]
    exact congrArg (Option.map fun c => c.key proxy) hclip
  · exact ⟨congrArg (Option.map fun c : Clip => c.key proxy) hc, rfl⟩

theorem Part.startRender_reads (p : Part) {e : RenderEntry} {v : Nat} {c : Clip}
    (hv : p.volumeWith e.clip .verified none = some v) (hc : p.clip e.clip = some c) :
    p.startRender e =
      (((p.pinUsed (p.usedBy e c)).clearTarget e c).withCtx (startCtx e v (p.usedBy e c))).queueRender v
        (.read (c.key false) 0) ∧
      (((p.pinUsed (p.usedBy e c)).clearTarget e c).withCtx (startCtx e v (p.usedBy e c))).volumeLane v =
        p.volumeLane v := by
  obtain ⟨hclips, hvolumes⟩ := p.pinUsed_clips (p.usedBy e c)
  have hc' : (p.pinUsed (p.usedBy e c)).clip e.clip = some c := by rw [Part.clip, hclips]; exact hc
  obtain ⟨hkey, hvolumes'⟩ := Part.clearTarget_spec _ hc' false
  constructor
  · rw [p.startRender_eq hv hc, Part.renderRead_of_active (x := startCtx e v (p.usedBy e c)) rfl]
    have hkey : (((p.pinUsed (p.usedBy e c)).clearTarget e c).withCtx (startCtx e v (p.usedBy e c))).keyOf
      (startCtx e v (p.usedBy e c)).clip false = some (c.key false) := hkey
    rw [hkey]
    rfl
  · have hvol : (((p.pinUsed (p.usedBy e c)).clearTarget e c).withCtx (startCtx e v (p.usedBy e c))).volumes =
      p.volumes := hvolumes'.trans hvolumes
    rw [Part.volumeLane, Part.volume, hvol]
    rfl

/-! ### The work (R162) -/

theorem Part.setCtx_of_active {p : Part} {x : RenderCtx} (h : p.render.active = some x) (f : RenderCtx → RenderCtx) :
    p.setCtx f = p.withCtx (f x) := by
  rw [Part.setCtx, Part.setRender, h]
  rfl

theorem Part.renderBlock_of_bad {p : Part} {x : RenderCtx} (h : p.render.active = some x) (b : Option Block)
    (hb : ∀ y, b = some y → y.computedCheck ≠ y.check) :
    p.renderBlock b = p.abortRender .sourceLost (.mismatch .unreadable x.nextSource) := by
  cases b with
  | none => simp only [Part.renderBlock, h]
  | some y =>
    have hcheck : ¬ y.checkGood = true := by simpa [Block.checkGood] using hb y rfl
    simp only [Part.renderBlock, h]
    exact if_neg hcheck

theorem Part.renderBlock_of_good {p : Part} {x : RenderCtx} {c : Clip} (h : p.render.active = some x)
    (hc : p.clip x.clip = some c) (b : Block) (hb : b.computedCheck = b.check) :
    p.renderBlock (some b) =
      if (x.acc.add b).closes b (decide (c.blockCount ≤ x.nextSource + 1)) then
        (p.withCtx { x with nextSource := x.nextSource + 1, sourceBlocks := x.sourceBlocks + 1, acc := FrameAcc.start,
                            lastFrame := decide (c.blockCount ≤ x.nextSource + 1),
                            writes := proxyBlocks x.used (c.key true) x.frames x.nextProxy
                              ((x.acc.add b).picture.graded (p.readVersion x.used)) }).renderWrite
      else
        (p.withCtx { x with nextSource := x.nextSource + 1, sourceBlocks := x.sourceBlocks + 1,
                            acc := x.acc.add b }).renderRead := by
  have hcheck : b.checkGood = true := by simpa [Block.checkGood] using hb
  simp only [Part.renderBlock, h, hcheck, if_true, hc, Part.setCtx_of_active h, Part.withCtx_setCtx] <;> rfl

theorem Part.renderWritten_of_active {p : Part} {x : RenderCtx} (h : p.render.active = some x) :
    p.renderWritten =
      if 2 ≤ x.writes.length then
        (p.withCtx { x with proxyBlocks := x.proxyBlocks + 1, nextProxy := x.nextProxy + 1,
                            writes := x.writes.tail }).renderWrite
      else if x.lastFrame then
        (p.withCtx { x with proxyBlocks := x.proxyBlocks + 1, nextProxy := x.nextProxy + 1, writes := x.writes.tail,
                            frames := x.frames + 1 }).completeRender
      else
        (p.withCtx { x with proxyBlocks := x.proxyBlocks + 1, nextProxy := x.nextProxy + 1, writes := x.writes.tail,
                            frames := x.frames + 1 }).renderRead := by
  simp only [Part.renderWritten, h, Part.setCtx_of_active h, Part.withCtx_setCtx]

/-! ### The end (R163, R164) -/

/-- What the withdrawal of a render makes of the request outstanding: a read sent is discarded at its answer, a write sent
is released at its answer. -/
def VolumeOut.withdrawRender (o : VolumeOut) : VolumeOut :=
  match o.request with
  | .read .render key n => { o with request := .read .dropped key n }
  | .write .render key n b => { o with request := .write .late key n b }
  | _ => o

theorem VolumeOut.withdrawRender_of_other {o : VolumeOut} (hr : ∀ k n, o.request ≠ .read .render k n)
    (hw : ∀ k n b, o.request ≠ .write .render k n b) : o.withdrawRender = o := by
  unfold VolumeOut.withdrawRender
  split
  · next h => exact absurd h (hr _ _)
  · next h => exact absurd h (hw _ _ _)
  · rfl

theorem Part.withdrawRender_eq (p : Part) :
    p.withdrawRender =
      { p with dests := p.dests.map fun r => { r with renders := [], out := r.out.map VolumeOut.withdrawRender } } :=
  p.each_modDest _

theorem Part.dest_withdrawRender (p : Part) (d : Fin 4) :
    p.withdrawRender.dest d =
      { p.dest d with renders := [], out := (p.dest d).out.map VolumeOut.withdrawRender } := by
  rw [p.withdrawRender_eq]
  exact vector_get_map _ _ d

theorem Part.keyOf_of_clip {p : Part} {i : Nat} {c : Clip} (h : p.clip i = some c) (proxy : Bool) :
    p.keyOf i proxy = some (c.key proxy) := by
  rw [Part.keyOf, h, Option.map_some]

theorem Part.dropRender_of_active {p : Part} {x : RenderCtx} {c : Clip} (h : p.render.active = some x)
    (hc : p.clip x.clip = some c) :
    p.dropRender =
      (((if 0 < x.proxyBlocks then p.withdrawRender.claimRelease x.target (c.key true) else p.withdrawRender).unpin
        x.used).removeEntry x.tag).setRender fun r => { r with active := none } := by
  have hkey : p.withdrawRender.keyOf x.clip true = some (c.key true) := by
    rw [p.withdrawRender_eq]
    exact Part.keyOf_of_clip (p := p) hc true
  simp only [Part.dropRender, h, hkey]

theorem Part.completeRender_of_active {p : Part} {x : RenderCtx} {c : Clip} (h : p.render.active = some x)
    (hc : p.clip x.clip = some c) :
    p.completeRender =
      ((((((match c.proxy with
        | some o => if o.vol = x.target then p else p.claimRelease o.vol (c.key true)
        | none => p).modClip x.clip fun c =>
          { c with proxy := some { vol := x.target, look := x.used.map Prod.fst, version := x.used.map Prod.snd,
                                   frames := x.frames } }).unpin x.used).removeEntry x.tag).setRender fun r =>
            { r with active := none }).termRender (x.termination .normal .complete (.look x.used))) := by
  simp only [Part.completeRender, h, hc, Option.bind_some, Part.keyOf_of_clip hc]
  cases c.proxy <;> rfl

theorem Part.abortRender_of_active {p : Part} {x : RenderCtx} (h : p.render.active = some x) (cause : Cause)
    (detail : Detail) : p.abortRender cause detail = p.dropRender.termRender (x.termination .abnormal cause detail) := by
  simp only [Part.abortRender, h]

/-- Settles O48: the requests by their checks; the life of a render step by step. -/
theorem rendersQueued : Obligations.RendersQueued := by
  refine ⟨fun s d => ⟨fun i look v h => ⟨fun hr => ?range, fun hi hv hl => ⟨fun hm => ?missing, fun r hc hvol hlook =>
      ⟨fun hrole => ?wrongRole, fun hrole hq => ?full, fun hrole hq => ?queued⟩⟩⟩,
      fun n h => ⟨fun hn => ?noEntry, fun hm => ⟨fun x hx ht => ?rendering, fun hx => ?waiting⟩⟩⟩,
    fun r hr => ?tag, fun p i v => ?source, fun p e v c hv hc => ?start, fun p x c hx hc => ?work,
    fun p x c hx hc => ?ends, fun p hp => ?idle, fun p d => ?withdrawn, fun p n => rfl, fun p k l n => ?unpin,
    fun p v key => ?claim⟩
  case range =>
    refine declines_of_refuse h rfl (if_pos ?_) rfl
    rcases hr with hr | hr | hr
    · exact Or.inl hr
    · exact Or.inr (Or.inr hr)
    · exact Or.inr (Or.inl ((lookAbove_eq_true look).2 hr))
  case missing =>
    refine declines_of_refuse h rfl ((Part.enqueueRender_of_range s.part.quiet hi hv hl).trans ?_) rfl
    split
    · next hc hvol =>
      rcases hm with hm | hm | hm
      · cases hc.symm.trans hm
      · cases hvol.symm.trans hm
      · exact if_pos ((Part.lookFree_eq_true s.part.quiet look).2 hm)
    · rfl
  case wrongRole =>
    exact declines_of_refuse h rfl ((Part.enqueueRender_of_found s.part.quiet hi hv hl hc hvol hlook).trans
      (if_pos (by simp [hrole]))) rfl
  case full =>
    exact declines_of_refuse h rfl ((Part.enqueueRender_of_found s.part.quiet hi hv hl hc hvol hlook).trans
      ((if_neg (by simp [hrole])).trans (if_pos hq))) rfl
  case queued =>
    exact taken_of_reply h rfl ((Part.enqueueRender_of_found s.part.quiet hi hv hl hc hvol hlook).trans
      ((if_neg (by simp [hrole])).trans (if_neg (Nat.not_le.2 hq)))) rfl
  case noEntry => exact declines_of_refuse h rfl (if_neg (by simpa using hn)) rfl
  case rendering =>
    subst ht
    exact taken_of_reply h rfl ((Part.cancelRender_of_mem s.part.quiet hm).trans
      (congrArg Part.accept (if_pos (RenderEngine.isRendering_of_active hx)))) rfl
  case waiting =>
    refine taken_of_reply h rfl ((Part.cancelRender_of_mem s.part.quiet hm).trans (congrArg Part.accept (if_neg ?_))) rfl
    have hfalse : s.part.quiet.render.isRendering n = false := RenderEngine.isRendering_eq_false hx
    rw [hfalse]
    exact Bool.false_ne_true
  case tag =>
    obtain ⟨k, hk, htag, hfree, hbelow⟩ := r.takeTag_spec hr
    refine ⟨by rw [htag]; omega, fun e he => ?_, fun hn hlt => ?_, k, hk, htag,
      fun j hj => (r.tagFree_eq_false j).1 (hbelow j hj)⟩
    · rw [htag]
      exact (r.tagFree_iff k).1 hfree e he
    · have hzero : r.tagFree 0 = true := (r.tagFree_iff 0).2 fun e he => by
        rw [Nat.add_zero, Nat.mod_eq_of_lt hlt]
        exact hn e he
      have hk0 : k = 0 := by
        by_contra hne
        have := hbelow 0 (Nat.pos_of_ne_zero hne)
        simp [hzero] at this
      rw [htag, hk0, Nat.add_zero, Nat.mod_eq_of_lt hlt]
  case source =>
    have hproves (w : Nat) : (p.attached w && p.copyState i w == some .verified && none != some w) = true ↔
        (∃ r, p.volume w = some r ∧ r.attach ≠ .detached) ∧
          ∃ c e, p.clip i = some c ∧ c.copyOn w = some e ∧ e.state = .verified := by
      simp only [Bool.and_eq_true, p.attached_iff, beq_iff_eq, p.copyState_eq_some, bne_iff_ne, ne_eq, reduceCtorEq,
        not_false_eq_true, and_true]
    intro proves
    rw [Part.volumeWith, find_allVolumes, hproves]
    constructor
    · rintro ⟨hv, hp, hbelow⟩
      exact ⟨⟨hv, hp⟩, fun u hu ⟨_, hpu⟩ => absurd ((hproves u).2 hpu) (Bool.eq_false_iff.1 (hbelow u hu))⟩
    · rintro ⟨⟨hv, hp⟩, hbelow⟩
      exact ⟨hv, hp, fun u hu => Bool.eq_false_iff.2 fun ht => hbelow u hu ⟨by omega, (hproves u).1 ht⟩⟩
  case start =>
    intro look used pinned cleared working
    have hcleared : (p.pinUsed used).clearTarget e c = cleared := Part.clearTarget_eq pinned e c
    obtain ⟨hstart, hlane⟩ := p.startRender_reads hv hc
    have hworking : ((p.pinUsed (p.usedBy e c)).clearTarget e c).withCtx (startCtx e v (p.usedBy e c)) = working :=
      congrArg (fun q : Part => q.withCtx (startCtx e v used)) hcleared
    rw [hworking] at hstart hlane
    clear_value working
    exact ⟨fun hn => hstart.trans (Part.queueRender_of_unbound (hlane.trans hn) _),
      fun d hd => hstart.trans (Part.queueRender_of_lane (hlane.trans hd) _)⟩
  case work =>
    intro at' lost
    refine ⟨Part.renderBlock_of_bad hx none (by simp), fun b hb => Part.renderBlock_of_bad hx (some b) (by simpa using hb),
      fun b hb => ?block, ⟨fun h2 => ?more, fun h2 hl => ?next, fun h2 hl => ?last⟩, fun d hd => ?read,
      fun d b rest hd hw => ?write⟩
    case block =>
      have hgood := Part.renderBlock_of_good hx hc b hb
      exact ⟨fun hcl => hgood.trans (if_neg (by rw [hcl]; exact Bool.false_ne_true)), fun hcl => hgood.trans (if_pos hcl)⟩
    case more => exact (Part.renderWritten_of_active hx).trans (if_pos h2)
    case next =>
      exact (Part.renderWritten_of_active hx).trans
        ((if_neg (Nat.not_le.2 h2)).trans (if_neg (by rw [hl]; exact Bool.false_ne_true)))
    case last => exact (Part.renderWritten_of_active hx).trans ((if_neg (Nat.not_le.2 h2)).trans (if_pos hl))
    case read =>
      rw [Part.renderRead_of_active hx, Part.keyOf_of_clip hc]
      exact Part.queueRender_of_lane hd _
    case write =>
      simp only [Part.renderWrite, hx, Part.keyOf_of_clip hc, hw]
      exact Part.queueRender_of_lane hd _
  case ends =>
    intro left idle claimed dropped
    refine ⟨Part.completeRender_of_active hx hc, Part.dropRender_of_active hx hc, fun cause detail => ?_⟩
    rw [Part.abortRender_of_active hx, Part.dropRender_of_active hx hc]
    rfl
  case idle =>
    simp only [Part.dropRender, Part.completeRender, Part.abortRender, hp, implies_true, and_self]
  case withdrawn =>
    intro was now
    have hnow : now = _ := p.dest_withdrawRender d
    clear_value now
    subst hnow
    refine ⟨fun ho => ?_, fun o ho => ⟨fun k n hr => ?_, fun k n b hr => ?_, fun hr hw => ?_⟩⟩
    · have ho : (p.dest d).out = none := ho
      rw [ho, Option.map_none, ← ho]
    · have ho : (p.dest d).out = some o := ho
      rw [ho, Option.map_some, VolumeOut.withdrawRender, hr]
    · have ho : (p.dest d).out = some o := ho
      rw [ho, Option.map_some, VolumeOut.withdrawRender, hr]
    · have ho : (p.dest d).out = some o := ho
      rw [ho, Option.map_some, VolumeOut.withdrawRender_of_other hr hw, ← ho]
  case unpin =>
    refine ⟨rfl, rfl, fun hv => if_pos hv, fun h hv hh hver => ⟨fun hp => ?_, fun hp => ?_⟩⟩
    · simp only [Look.unpin, hv, if_false, hh, hver, if_true, hp]
    · simp only [Look.unpin, hv, if_false, hh, hver, if_true, Nat.not_le.2 hp]
  case claim =>
    refine ⟨fun hn => by rw [Part.claimRelease, hn], fun d hd => ⟨fun hst => ?_, fun ho hf => ?_⟩⟩
    · rw [Part.claimRelease, hd]
      exact if_pos hst
    · rw [Part.claimRelease, hd]
      exact if_neg (by simp [ho, hf])

end Sys2Proof.Machine

/-! The preview channels (08): the source of a channel, the withdrawal of its read, the loss and the return of a source,
Bind and Unbind Preview, Play, Pause and Seek. -/

namespace Sys2Proof.Machine

/-! ### The source of a channel (R168) -/

/-- The volume that an excluded source bars. -/
def barredVolume (excluded : Option Source) : Option Nat :=
  match excluded with
  | some (.volume v) => some v
  | _ => none

theorem barredVolume_ne (excluded : Option Source) (v : Nat) :
    (barredVolume excluded != some v) = true ↔ excluded ≠ some (.volume v) := by
  rw [bne_iff_ne]
  cases excluded with
  | none => simp [barredVolume]
  | some s => cases s <;> simp [barredVolume]

/-- A volume that can be the source: not excluded, attached, with the clip's entry in a state. -/
def Part.Ready (p : Part) (i : Nat) (excluded : Option Source) (st : CopyState) (v : Nat) : Prop :=
  v ≤ 7 ∧ excluded ≠ some (.volume v) ∧ (∃ r, p.volume v = some r ∧ r.attach ≠ .detached) ∧
    ∃ c e, p.clip i = some c ∧ c.copyOn v = some e ∧ e.state = st

theorem Part.ready_iff (p : Part) (i : Nat) (excluded : Option Source) (st : CopyState) (v : Nat) :
    p.Ready i excluded st v ↔
      v ≤ 7 ∧ (p.attached v && p.copyState i v == some st && barredVolume excluded != some v) = true := by
  rw [Bool.and_eq_true, Bool.and_eq_true, p.attached_iff, beq_iff_eq, p.copyState_eq_some, barredVolume_ne, Part.Ready]
  constructor
  · rintro ⟨hv, hn, ha, hc⟩
    exact ⟨hv, ⟨ha, hc⟩, hn⟩
  · rintro ⟨hv, ⟨ha, hc⟩, hn⟩
    exact ⟨hv, hn, ha, hc⟩

theorem Part.volumeWith_eq_some (p : Part) (i : Nat) (excluded : Option Source) (st : CopyState) (v : Nat) :
    p.volumeWith i st (barredVolume excluded) = some v ↔
      p.Ready i excluded st v ∧ ∀ u, u < v → ¬ p.Ready i excluded st u := by
  rw [Part.volumeWith, find_allVolumes, p.ready_iff, ← and_assoc]
  refine and_congr_right fun ⟨hv, _⟩ => forall₂_congr fun u hu => ?_
  rw [p.ready_iff, ← Bool.not_eq_true, not_and]
  exact ⟨fun h _ => h, fun h => h (by omega)⟩

theorem Part.volumeWith_none_iff (p : Part) (i : Nat) (excluded : Option Source) (st : CopyState) :
    p.volumeWith i st (barredVolume excluded) = none ↔ ∀ v, ¬ p.Ready i excluded st v := by
  simp only [Part.volumeWith, find_allVolumes_eq_none, p.ready_iff, not_and, Bool.not_eq_true]

theorem Part.cardSource_eq_some (p : Part) (i k : Nat) :
    p.cardSource i = some k ↔
      ∃ c card l, p.clip i = some c ∧ c.card = k ∧ p.card k = some card ∧ card.lane = some l ∧
        card.state ≠ .released ∧ card.state ≠ .erasing ∧ card.erased = false ∧ (p.reader l).state ≠ .equipment := by
  unfold Part.cardSource
  constructor
  · intro h
    split at h
    · next c hc =>
      split at h
      · next card hk =>
        split at h
        · next l hl =>
          split at h
          · next hif =>
            cases h
            obtain ⟨hreleased, herasing, herased, hstate⟩ := hif
            exact ⟨c, card, l, hc, rfl, hk, hl, hreleased, herasing, herased, hstate⟩
          · cases h
        · cases h
      · cases h
    · cases h
  · rintro ⟨c, card, l, hc, rfl, hk, hl, hreleased, herasing, herased, hstate⟩
    simp only [hc, hk, hl]
    exact if_pos ⟨hreleased, herasing, herased, hstate⟩

/-- The clip's card as a source that is not the excluded one. -/
def Part.cardAllowed (p : Part) (i : Nat) (excluded : Option Source) : Option Source :=
  match p.cardSource i with
  | some c => if excluded = some (.card c) then none else some (.card c)
  | none => none

theorem Part.cardAllowed_eq_some (p : Part) (i : Nat) (excluded : Option Source) (s : Source) :
    p.cardAllowed i excluded = some s ↔ ∃ k, s = .card k ∧ excluded ≠ some (.card k) ∧ p.cardSource i = some k := by
  unfold Part.cardAllowed
  cases hk : p.cardSource i with
  | none => simp
  | some k =>
    by_cases he : excluded = some (.card k)
    · simp only [he, if_true, reduceCtorEq, Option.some.injEq, false_iff]
      rintro ⟨k', -, hne, rfl⟩
      exact hne rfl
    · simp only [he, if_false, Option.some.injEq]
      constructor
      · rintro rfl
        exact ⟨k, rfl, he, rfl⟩
      · rintro ⟨k', rfl, -, rfl⟩
        rfl

theorem Part.selectSource_eq (p : Part) (i : Nat) (excluded : Option Source) :
    p.selectSource i excluded =
      match p.volumeWith i .verified (barredVolume excluded) with
      | some v => some (.volume v)
      | none =>
        match p.volumeWith i .written (barredVolume excluded) with
        | some v => some (.volume v)
        | none => p.cardAllowed i excluded := rfl

theorem Part.selectSource_of_verified {p : Part} {i v : Nat} {excluded : Option Source}
    (h : p.volumeWith i .verified (barredVolume excluded) = some v) : p.selectSource i excluded = some (.volume v) := by
  rw [p.selectSource_eq, h]

theorem Part.selectSource_of_written {p : Part} {i v : Nat} {excluded : Option Source}
    (h : p.volumeWith i .verified (barredVolume excluded) = none)
    (h' : p.volumeWith i .written (barredVolume excluded) = some v) : p.selectSource i excluded = some (.volume v) := by
  rw [p.selectSource_eq, h, h']

theorem Part.selectSource_of_card {p : Part} {i : Nat} {excluded : Option Source}
    (h : p.volumeWith i .verified (barredVolume excluded) = none)
    (h' : p.volumeWith i .written (barredVolume excluded) = none) :
    p.selectSource i excluded = p.cardAllowed i excluded := by
  rw [p.selectSource_eq, h, h']

theorem Part.cardAllowed_ne_volume (p : Part) (i v : Nat) (excluded : Option Source) :
    p.cardAllowed i excluded ≠ some (.volume v) := by
  rw [ne_eq, p.cardAllowed_eq_some]
  rintro ⟨k, hk, -⟩
  cases hk

theorem Part.selectSource_eq_volume (p : Part) (i v : Nat) (excluded : Option Source) :
    p.selectSource i excluded = some (.volume v) ↔
      p.volumeWith i .verified (barredVolume excluded) = some v ∨
        (p.volumeWith i .verified (barredVolume excluded) = none ∧
          p.volumeWith i .written (barredVolume excluded) = some v) := by
  cases hv : p.volumeWith i .verified (barredVolume excluded) with
  | some u => simp [Part.selectSource_of_verified hv]
  | none =>
    cases hw : p.volumeWith i .written (barredVolume excluded) with
    | some u => simp [Part.selectSource_of_written hv hw]
    | none => simp [Part.selectSource_of_card hv hw, p.cardAllowed_ne_volume]

theorem Part.selectSource_eq_other (p : Part) (i : Nat) (excluded s : Option Source) (hs : ∀ v, s ≠ some (.volume v)) :
    p.selectSource i excluded = s ↔
      (p.volumeWith i .verified (barredVolume excluded) = none ∧
        p.volumeWith i .written (barredVolume excluded) = none) ∧ p.cardAllowed i excluded = s := by
  cases hv : p.volumeWith i .verified (barredVolume excluded) with
  | some u => simpa [Part.selectSource_of_verified hv] using fun h => hs u h.symm
  | none =>
    cases hw : p.volumeWith i .written (barredVolume excluded) with
    | some u => simpa [Part.selectSource_of_written hv hw] using fun h => hs u h.symm
    | none => simp [Part.selectSource_of_card hv hw]

/-! ### The withdrawal of a read (R84) -/

/-- What the withdrawal of a channel's read makes of the request outstanding on a volume link. -/
def VolumeOut.withdrawPreview (c : Fin 2) (o : VolumeOut) : VolumeOut :=
  match o.request with
  | .read (.preview k) key n => if k = c then { o with request := .read .dropped key n } else o
  | _ => o

theorem VolumeOut.withdrawPreview_of_other {c : Fin 2} {o : VolumeOut} (h : ∀ k n, o.request ≠ .read (.preview c) k n) :
    o.withdrawPreview c = o := by
  unfold VolumeOut.withdrawPreview
  split
  · next k key n hr =>
    refine if_neg ?_
    rintro rfl
    exact h _ _ hr
  · rfl

theorem VolumeOut.withdrawPreview_of_read {c : Fin 2} {o : VolumeOut} {k : CopyKey} {n : Nat}
    (h : o.request = .read (.preview c) k n) : o.withdrawPreview c = { o with request := .read .dropped k n } := by
  rw [VolumeOut.withdrawPreview, h]
  exact if_pos rfl

theorem Part.withdrawRead_eq (p : Part) (c : Fin 2) :
    p.withdrawRead c =
      ({ p with
        dests := p.dests.map fun r =>
          { r with previews := r.previews.filter fun i => i.channel != c
                   out := r.out.map (VolumeOut.withdrawPreview c) }
        readers := p.readers.map fun r =>
          ({ r with previews := r.previews.filter fun i => i.channel != c } : ReaderLane).abandonOf (.preview c) } :
        Part).modChannel c fun ch => { ch with reading := false } := by
  rw [Part.withdrawRead]
  simp only [Part.each_modDest, Part.each_modReader] <;> rfl

theorem Part.dest_withdrawRead (p : Part) (c : Fin 2) (d : Fin 4) :
    (p.withdrawRead c).dest d =
      { p.dest d with previews := (p.dest d).previews.filter fun i => i.channel != c
                      out := (p.dest d).out.map (VolumeOut.withdrawPreview c) } := by
  rw [p.withdrawRead_eq]
  exact vector_get_map _ _ d

theorem Part.reader_withdrawRead (p : Part) (c : Fin 2) (l : Fin 6) :
    (p.withdrawRead c).reader l =
      ({ p.reader l with previews := (p.reader l).previews.filter fun i => i.channel != c } : ReaderLane).abandonOf
        (.preview c) := by
  rw [p.withdrawRead_eq]
  exact vector_get_map _ _ l

theorem Part.channel_withdrawRead (p : Part) (c : Fin 2) :
    (p.withdrawRead c).channel c = { p.channel c with reading := false } := by
  rw [p.withdrawRead_eq]
  exact Part.channel_modChannel_self _ c _

/-! ### Loss and return of a source (R173) -/

theorem Part.noSource_eq (p : Part) (c : Fin 2) (i : Nat) :
    p.noSource c i =
      p.modChannel c fun x =>
        { x with
          state := .noSource, source := none, shown := none, next := none, goal := .nothing, acc := FrameAcc.start
          term :=
            { record := some
                { cls := .abnormal, op := .playback, cause := .sourceLost, ref := .clip i, counts := [], detail := .none }
              unsensed := true } } := by
  unfold Part.noSource Part.termChannel
  rw [p.modChannel_modChannel]
  rfl

theorem Part.loseSource_of_bound {p : Part} {c : Fin 2} {s : Source} {i : Nat} (hs : (p.channel c).source = some s)
    (hc : (p.channel c).clip = some i) :
    p.loseSource c =
      match (p.withdrawRead c).selectSource i (some s) with
      | some t => (p.withdrawRead c).modChannel c fun ch => ({ ch with source := some t } : Channel).resume
      | none => (p.withdrawRead c).noSource c i := by
  simp only [Part.loseSource, hs, hc] <;> rfl

theorem Part.loseSource_of_unbound {p : Part} {c : Fin 2} (h : (p.channel c).source = none ∨ (p.channel c).clip = none) :
    p.loseSource c = p := by
  unfold Part.loseSource
  split
  · next hs hc =>
    rcases h with h | h
    · cases hs.symm.trans h
    · cases hc.symm.trans h
  · rfl

theorem Part.regainSource_of_lost {p : Part} {c : Fin 2} {i : Nat} (hs : (p.channel c).state = .noSource)
    (hc : (p.channel c).clip = some i) :
    p.regainSource c =
      match p.selectSource i none with
      | some t => p.modChannel c fun ch => ({ ch with state := .paused, source := some t } : Channel).aim ch.position
      | none => p := by
  simp only [Part.regainSource, hs, hc] <;> rfl

theorem Part.regainSource_of_kept {p : Part} {c : Fin 2} (h : (p.channel c).state ≠ .noSource ∨ (p.channel c).clip = none) :
    p.regainSource c = p := by
  unfold Part.regainSource
  split
  · next hs hc =>
    rcases h with h | h
    · exact absurd hs h
    · cases hc.symm.trans h
  · rfl

theorem Channel.resume_of_seeking {ch : Channel} (h : (∃ n, ch.goal = .shown n) ∨ ch.shown = none) :
    ch.resume = ch.aim ch.position := by
  unfold Channel.resume
  split
  · rfl
  · rfl
  · next hshown hgoal =>
    rcases h with ⟨n, h⟩ | h
    · exact absurd h (hgoal n)
    · cases hshown.symm.trans h

theorem Channel.resume_of_shown {ch : Channel} {f : Frame} (hg : ∀ n, ch.goal ≠ .shown n) (hf : ch.shown = some f) :
    ch.resume =
      if ch.state = .playing ∧ (f.last = false ∨ ch.loop = true) then
        { ch with goal := .nothing, next := none, acc := FrameAcc.start }
      else { ch.aim ch.position with goal := .again } := by
  unfold Channel.resume
  split
  · next h => exact absurd h (hg _)
  · next h _ => cases hf.symm.trans h
  · next h _ =>
    cases hf.symm.trans h
    rfl

/-! ### Bind and Unbind Preview (R169, R175) -/

theorem Part.bindPreview_of_unit (p : Part) (c : Fin 2) {i : Nat} {look : Option Nat} (hi : i ≤ 1023)
    (hl : ∀ l, look = some l → l ≤ 63) :
    p.bindPreview c.val i look =
      if (p.clip i).isNone = true ∨ p.lookFree look = true then p.refuse .notFound
      else if (p.channel c).term.unsensed then p.refuse .unsensed
      else
        ((p.rebind c i look).bindSource c i).answerWith
          (((p.rebind c i look).bindSource c i).sourceBytes (((p.rebind c i look).bindSource c i).channel c).source) := by
  rw [Part.bindPreview, unitAt_val]
  refine if_neg ?_
  rintro (h | h)
  · omega
  · rw [(lookAbove_eq_false look).2 hl] at h
    cases h

theorem Part.bindPreview_of_found (p : Part) (c : Fin 2) {i : Nat} {look : Option Nat} (hi : i ≤ 1023)
    (hl : ∀ l, look = some l → l ≤ 63) (hc : p.clip i ≠ none) (hlook : ∀ l, look = some l → p.look l ≠ none) :
    p.bindPreview c.val i look =
      if (p.channel c).term.unsensed then p.refuse .unsensed
      else
        ((p.rebind c i look).bindSource c i).answerWith
          (((p.rebind c i look).bindSource c i).sourceBytes (((p.rebind c i look).bindSource c i).channel c).source) := by
  refine (p.bindPreview_of_unit c hi hl).trans (if_neg ?_)
  rintro (h | h)
  · exact hc (Option.isNone_iff_eq_none.1 h)
  · rw [(p.lookFree_eq_false look).2 hlook] at h
    cases h

theorem Channel.aim_source (ch : Channel) (n : Nat) : (ch.aim n).source = ch.source := by
  unfold Channel.aim
  dsimp only
  split
  · split <;> rfl
  · rfl

theorem Part.bindSource_of_some {p : Part} {c : Fin 2} {i : Nat} {t : Source} (h : p.selectSource i none = some t) :
    p.bindSource c i = p.modChannel c fun ch => ({ ch with state := .paused, source := some t } : Channel).aim 0 := by
  rw [Part.bindSource, h]

theorem Part.bindSource_of_none {p : Part} {c : Fin 2} {i : Nat} (h : p.selectSource i none = none) :
    p.bindSource c i = p.noSource c i := by
  rw [Part.bindSource, h]

/-- Settles O49. -/
theorem previewBound : Obligations.PreviewBound := by
  refine ⟨fun p i excluded => ?source, fun p c => ?withdrawn, fun p c => ?lost, fun ch => ⟨Channel.resume_of_seeking,
      fun f hg hf => ⟨fun hp hl => ?runsOn, fun hp => ?again⟩⟩,
    fun p => ⟨rfl, fun _ => rfl, fun _ => rfl, fun _ _ => rfl⟩,
    fun s d n => ⟨fun i look h => ⟨fun hr => ?range, fun c hn hi hl => ⟨fun hm => ?missing, fun hc hlook =>
        ⟨fun hu => ?unsensed, fun hu => ⟨fun t ht => ?bound, fun ht => ?sourceless⟩⟩⟩⟩,
      fun h => ⟨fun hr => ?unbindRange, fun c hn => ⟨fun hst => ?idle, fun hst => ?unbound⟩⟩⟩⟩
  case source =>
    intro ready onCard
    have hcard (k : Nat) : onCard k ↔ p.cardAllowed i excluded = some (.card k) := by
      rw [p.cardAllowed_eq_some]
      constructor
      · rintro ⟨hne, hk⟩
        exact ⟨k, rfl, hne, (p.cardSource_eq_some i k).2 hk⟩
      · rintro ⟨k', hk', hne, hk⟩
        cases hk'
        exact ⟨hne, (p.cardSource_eq_some i k).1 hk⟩
    have hnone : (p.volumeWith i .verified (barredVolume excluded) = none ∧
        p.volumeWith i .written (barredVolume excluded) = none) ↔
        ∀ u, ¬ ready .verified u ∧ ¬ ready .written u := by
      rw [p.volumeWith_none_iff, p.volumeWith_none_iff]
      exact forall_and.symm
    refine ⟨fun v => ?_, fun k => ?_, ?_⟩
    · rw [p.selectSource_eq_volume, p.volumeWith_eq_some, p.volumeWith_none_iff, p.volumeWith_eq_some]
      rfl
    · rw [p.selectSource_eq_other i excluded _ (by simp), hnone, ← hcard]
    · rw [p.selectSource_eq_other i excluded _ (by simp), hnone, Option.eq_none_iff_forall_not_mem]
      refine and_congr_right fun _ => ⟨fun h k hk => h _ ((hcard k).1 hk), fun h s hs => ?_⟩
      obtain ⟨k, rfl, -⟩ := (p.cardAllowed_eq_some i excluded s).1 hs
      exact h k ((hcard k).2 hs)
  case withdrawn =>
    refine ⟨fun d => ⟨fun o k n ho hr => ?_, fun hr => ?_⟩, fun l => ⟨fun o ho hw => ?_, fun hw => ?_⟩,
      p.channel_withdrawRead c⟩
    · have ho : (p.dest d).out = some o := ho
      rw [p.dest_withdrawRead, ho, Option.map_some, VolumeOut.withdrawPreview_of_read hr]
    · rw [p.dest_withdrawRead]
      cases ho : (p.dest d).out with
      | none => rw [Option.map_none, ← ho]
      | some o => rw [Option.map_some, VolumeOut.withdrawPreview_of_other fun k n => hr o k n ho, ← ho]
    · have ho : (p.reader l).out = some o := ho
      rw [p.reader_withdrawRead]
      simp only [ReaderLane.abandonOf, ho, hw, if_true]
      rfl
    · rw [p.reader_withdrawRead]
      cases ho : (p.reader l).out with
      | none => simp only [ReaderLane.abandonOf, ho]
      | some o => simp only [ReaderLane.abandonOf, ho, hw o ho, if_false]
  case lost =>
    intro ch lost
    refine ⟨p.noSource_eq c, Part.loseSource_of_unbound, fun s i hs hc => ⟨fun hn => ?_, fun t ht => ?_⟩,
      Part.regainSource_of_kept, fun i hst hc => ⟨fun hn => ?_, fun t ht => ?_⟩⟩
    · rw [Part.loseSource_of_bound hs hc, hn]
      exact Part.noSource_eq _ c i
    · rw [Part.loseSource_of_bound hs hc, ht]
    · rw [Part.regainSource_of_lost hst hc, hn]
    · rw [Part.regainSource_of_lost hst hc, ht]
  case runsOn => exact (Channel.resume_of_shown hg hf).trans (if_pos ⟨hp, hl⟩)
  case again =>
    refine (Channel.resume_of_shown hg hf).trans (if_neg ?_)
    rintro ⟨hplay, hl⟩
    rcases hp with hp | ⟨hlast, hloop⟩
    · exact hp hplay
    · simp [hlast, hloop] at hl
  case range =>
    refine declines_of_refuse h rfl ?_ rfl
    by_cases hn : 1 < n
    · rw [Part.bindPreview, unitAt_of_ge 2 n (by omega)]
    · rw [Part.bindPreview, unitAt_of_lt 2 n (by omega)]
      refine if_pos ((hr.resolve_left hn).imp_right (lookAbove_eq_true look).2)
  case missing =>
    subst hn
    exact declines_of_refuse h rfl ((Part.bindPreview_of_unit s.part.quiet c hi hl).trans
      (if_pos (hm.imp Option.isNone_iff_eq_none.2 (Part.lookFree_eq_true s.part.quiet look).2))) rfl
  case unsensed =>
    subst hn
    exact declines_of_refuse h rfl ((Part.bindPreview_of_found s.part.quiet c hi hl hc hlook).trans (if_pos hu)) rfl
  case bound =>
    subst hn
    intro q
    have hq : (s.part.quiet.rebind c i look).bindSource c i = q := Part.bindSource_of_some ht
    have hsource : (q.channel c).source = some t :=
      (congrArg Channel.source (Part.channel_modChannel_self _ c _)).trans (Channel.aim_source _ 0)
    clear_value q
    refine taken_of_reply h rfl ((Part.bindPreview_of_found s.part.quiet c hi hl hc hlook).trans
      ((if_neg (by rw [Bool.not_eq_true]; exact hu)).trans ?_)) rfl
    rw [hq, hsource]
    rfl
  case sourceless =>
    subst hn
    have hq : (s.part.quiet.rebind c i look).bindSource c i = (s.part.quiet.rebind c i look).noSource c i :=
      Part.bindSource_of_none ht
    have hsource : (((s.part.quiet.rebind c i look).noSource c i).channel c).source = none := by
      rw [Part.noSource_eq, Part.channel_modChannel_self]
    refine taken_of_reply h rfl ((Part.bindPreview_of_found s.part.quiet c hi hl hc hlook).trans
      ((if_neg (by rw [Bool.not_eq_true]; exact hu)).trans ?_)) rfl
    rw [hq, hsource]
    rfl
  case unbindRange =>
    refine declines_of_refuse h rfl ?_ rfl
    rw [Part.unbindPreview, unitAt_of_ge 2 n (by omega)]
  case idle =>
    subst hn
    refine taken_of_reply h rfl ?_ rfl
    rw [Part.unbindPreview, unitAt_val]
    exact congrArg Part.accept (if_pos hst)
  case unbound =>
    subst hn
    refine taken_of_reply h rfl ?_ rfl
    rw [Part.unbindPreview, unitAt_val]
    exact congrArg Part.accept (if_neg hst)

/-! ### Play, Pause, Seek (R172) -/

theorem Channel.aim_ahead {ch : Channel} {f : Frame} {n : Nat} (hf : ch.shown = some f) (hn : f.number < n)
    (hl : f.last = false) :
    ch.aim n =
      { ch with goal := .shown n, next := none, acc := FrameAcc.start, cursor := f.after, number := f.number + 1 } := by
  unfold Channel.aim
  simp only [hf]
  exact if_pos ⟨hn, hl⟩

theorem Channel.aim_fresh {ch : Channel} {n : Nat} (h : ∀ f, ch.shown = some f → n ≤ f.number ∨ f.last = true) :
    ch.aim n = { ch with goal := .shown n, next := none, acc := FrameAcc.start, cursor := 0, number := 0 } := by
  unfold Channel.aim
  dsimp only
  split
  · next f hf =>
    refine if_neg ?_
    rintro ⟨hn, hl⟩
    rcases h f hf with h | h
    · omega
    · exact absurd (hl.symm.trans h) Bool.false_ne_true
  · rfl

theorem Part.play_of_unit (p : Part) (c : Fin 2) (loop : Bool) :
    p.play c.val loop =
      if (p.channel c).state = .idle ∨ (p.channel c).state = .noSource then p.refuse .wrongState
      else if (p.channel c).term.unsensed then p.refuse .unsensed
      else if (p.channel c).state = .paused then
        ((if (p.channel c).atLast && !loop then p.seekTo c 0 else p).modChannel c fun x =>
          { x with loop := loop, state := .playing }).accept
      else (p.modChannel c fun x => { x with loop := loop }).accept := by
  rw [Part.play, unitAt_val]

theorem Part.seek_of_unit (p : Part) (c : Fin 2) (f : Nat) :
    p.seek c.val f =
      if (p.channel c).state = .idle then p.refuse .wrongState
      else if p.boundFrames c ≤ f then p.refuse .range
      else if (p.channel c).state = .noSource then (p.modChannel c fun x => { x with position := f }).accept
      else (p.seekTo c f).accept := by
  rw [Part.seek, unitAt_val]

/-- A channel in PAUSED or PLAYING is neither IDLE nor in NO_SOURCE. -/
theorem running_state {st : ChannelState} (h : st = .paused ∨ st = .playing) : ¬ (st = .idle ∨ st = .noSource) := by
  rcases h with rfl | rfl <;> simp

/-- Settles O50. -/
theorem previewRuns : Obligations.PreviewRuns := by
  refine ⟨fun ch n => ⟨fun f hf hn hl => Channel.aim_ahead hf hn hl, Channel.aim_fresh⟩,
    fun s d n => ⟨fun loop h => ⟨fun hr => ?playRange, fun c hn => ⟨fun hst => ?playState, fun hst hu => ?playUnsensed,
        fun hst hu => ?playOn, fun hst hu hl => ?playFrom, fun hst hu hl hloop => ?playAgain⟩⟩,
      fun h => ⟨fun hr => ?pauseRange, fun c hn => ⟨fun hst => ?pauseState, fun hst => ?pause⟩⟩,
      fun f h => ⟨fun hr => ?seekRange, fun c hn => ⟨fun hst => ?seekState, fun hst hf => ?seekPast, fun hst hf => ?seekLost,
        fun hst hf => ?seek⟩⟩⟩⟩
  case playRange =>
    refine declines_of_refuse h rfl ?_ rfl
    rw [Part.play, unitAt_of_ge 2 n (by omega)]
  case pauseRange =>
    refine declines_of_refuse h rfl ?_ rfl
    rw [Part.pause, unitAt_of_ge 2 n (by omega)]
  case seekRange =>
    refine declines_of_refuse h rfl ?_ rfl
    rw [Part.seek, unitAt_of_ge 2 n (by omega)]
  all_goals subst hn
  case playState =>
    exact declines_of_refuse h rfl ((Part.play_of_unit s.part.quiet c loop).trans (if_pos hst)) rfl
  case playUnsensed =>
    exact declines_of_refuse h rfl ((Part.play_of_unit s.part.quiet c loop).trans
      ((if_neg (running_state hst)).trans (if_pos hu))) rfl
  case playOn =>
    exact taken_of_reply h rfl ((Part.play_of_unit s.part.quiet c loop).trans
      ((if_neg (running_state (Or.inr hst))).trans ((if_neg (by rw [Bool.not_eq_true]; exact hu)).trans
        (if_neg (by simp [hst]))))) rfl
  case playFrom =>
    have hseek : ¬ ((s.part.quiet.channel c).atLast && !loop) = true := by
      rcases hl with hl | rfl
      · simp [hl]
      · simp
    refine taken_of_reply h rfl ((Part.play_of_unit s.part.quiet c loop).trans
      ((if_neg (running_state (Or.inl hst))).trans ((if_neg (by rw [Bool.not_eq_true]; exact hu)).trans
        ((if_pos hst).trans ?_)))) rfl
    rw [if_neg hseek]
    rfl
  case playAgain =>
    have hseek : ((s.part.quiet.channel c).atLast && !loop) = true := by simp [hl, hloop]
    refine taken_of_reply h rfl ((Part.play_of_unit s.part.quiet c loop).trans
      ((if_neg (running_state (Or.inl hst))).trans ((if_neg (by rw [Bool.not_eq_true]; exact hu)).trans
        ((if_pos hst).trans ?_)))) rfl
    rw [if_pos hseek]
    rfl
  case pauseState =>
    refine declines_of_refuse h rfl ?_ rfl
    rw [Part.pause, unitAt_val]
    exact if_pos hst
  case pause =>
    refine taken_of_reply h rfl ?_ rfl
    rw [Part.pause, unitAt_val]
    exact if_neg (running_state hst)
  case seekState =>
    exact declines_of_refuse h rfl ((Part.seek_of_unit s.part.quiet c f).trans (if_pos hst)) rfl
  case seekPast =>
    exact declines_of_refuse h rfl ((Part.seek_of_unit s.part.quiet c f).trans ((if_neg hst).trans (if_pos hf))) rfl
  case seekLost =>
    exact taken_of_reply h rfl ((Part.seek_of_unit s.part.quiet c f).trans
      ((if_neg (by simp [hst])).trans ((if_neg (Nat.not_le.2 hf)).trans (if_pos hst)))) rfl
  case seek =>
    have hrun := running_state hst
    exact taken_of_reply h rfl ((Part.seek_of_unit s.part.quiet c f).trans
      ((if_neg fun h => hrun (Or.inl h)).trans ((if_neg (Nat.not_le.2 hf)).trans
        (if_neg fun h => hrun (Or.inr h))))) rfl

end Sys2Proof.Machine

/-! The frames of a preview channel (08): the block that a channel takes, the frame that becomes the shown one, what it reads
next, the output frame, the scope. -/

namespace Sys2Proof.Machine

/-! ### A frame that becomes the shown one (R170, R171) -/

theorem Part.showFrame_of_on {p : Part} {c : Fin 2} {f : Frame}
    (h : (p.channel c).state ≠ .playing ∨ f.last = false ∨ (p.channel c).loop = true) :
    p.showFrame c f =
      p.modChannel c fun x =>
        { x with shown := some f, position := f.number, goal := .nothing, acc := FrameAcc.start, next := none } := by
  refine if_neg ?_
  rintro ⟨hst, hl, hloop⟩
  rcases h with h | h | h
  · exact h hst
  · exact absurd (h.symm.trans hl) Bool.false_ne_true
  · exact absurd (hloop.symm.trans h) Bool.false_ne_true

theorem Part.showFrame_of_end {p : Part} {c : Fin 2} {f : Frame} {i : Nat} (hst : (p.channel c).state = .playing)
    (hl : f.last = true) (hloop : (p.channel c).loop = false) (hc : (p.channel c).clip = some i) :
    p.showFrame c f =
      (p.modChannel c fun x =>
        { x with shown := some f, position := f.number, goal := .nothing, acc := FrameAcc.start,
                 next := none }).modChannel c fun x =>
        { x with
          state := .paused
          term :=
            { record := some
                { cls := .normal, op := .playback, cause := .endOfClip, ref := .clipFrame i f.number, counts := [],
                  detail := .none }
              unsensed := true } } := by
  refine (if_pos ⟨hst, hl, hloop⟩).trans ?_
  rw [hc, Part.termChannel, Part.modChannel_modChannel]
  rfl

/-! ### A block reaches a channel (R170, R172) -/

/-- The channel with a block of its clip taken into its frame. -/
def Part.gather (p : Part) (c : Fin 2) (b : Block) : Part :=
  p.modChannel c fun x =>
    { x with reading := false, acc := (p.channel c).acc.add b, cursor := (p.channel c).cursor + 1 }

/-- The frame that a block closes. -/
def Part.closedFrame (p : Part) (c : Fin 2) (b : Block) (last : Bool) : Frame :=
  { number := (p.channel c).number, last := last, after := (p.channel c).cursor + 1,
    picture := ((p.channel c).acc.add b).picture }

theorem Part.channelAnswer_of_block {p : Part} {c : Fin 2} {i : Nat} {k : Clip} (b : Block)
    (hc : (p.channel c).clip = some i) (hk : p.clip i = some k) :
    p.channelAnswer c (some b) =
      if ((p.channel c).acc.add b).closes b (decide (k.blockCount ≤ (p.channel c).cursor + 1)) then
        match (p.channel c).goal with
        | .shown n =>
          (p.gather c b).reachFrame c (p.closedFrame c b (decide (k.blockCount ≤ (p.channel c).cursor + 1))) n
        | .again =>
          (p.gather c b).reachFrame c (p.closedFrame c b (decide (k.blockCount ≤ (p.channel c).cursor + 1)))
            (p.channel c).position
        | .next =>
          (p.gather c b).modChannel c fun x =>
            { x with next := some (p.closedFrame c b (decide (k.blockCount ≤ (p.channel c).cursor + 1))),
                     goal := .nothing, acc := FrameAcc.start }
        | .nothing => p.gather c b
      else p.gather c b := by
  have hgather : (p.modChannel c fun ch => { ch with reading := false }).modChannel c (fun ch =>
      { ch with reading := false, acc := (p.channel c).acc.add b, cursor := ch.cursor + 1 }) = p.gather c b := by
    rw [p.modChannel_modChannel]
    exact p.modChannel_congr c _ _ rfl
  simp only [Part.channelAnswer, Part.channelBlock, Part.channel_modChannel_self, hc, Option.bind_some,
    Part.clip_modChannel, hk, hgather] <;> rfl

theorem Part.reachFrame_of_reached {p : Part} {c : Fin 2} {f : Frame} {n : Nat} (h : f.number = n ∨ f.last = true) :
    p.reachFrame c f n = p.showFrame c f := if_pos h

theorem Part.reachFrame_of_ahead {p : Part} {c : Fin 2} {f : Frame} {n : Nat} (hn : f.number ≠ n) (hl : f.last = false) :
    p.reachFrame c f n = p.modChannel c fun x => { x with acc := FrameAcc.start, number := f.number + 1 } :=
  if_neg (by simp [hn, hl])

/-! ### What a channel reads (R170, R171) -/

theorem Channel.turnNext_of_still {ch : Channel}
    (h : ch.state ≠ .playing ∨ ch.goal ≠ .nothing ∨ ch.shown = none ∨ ch.next ≠ none) : ch.turnNext = ch := by
  unfold Channel.turnNext
  split
  · next hst hg hf hn =>
    rcases h with h | h | h | h
    · exact absurd hst h
    · exact absurd hg h
    · cases hf.symm.trans h
    · exact absurd hn h
  · rfl

theorem Channel.turnNext_of_shown {ch : Channel} {f : Frame} (hst : ch.state = .playing) (hg : ch.goal = .nothing)
    (hf : ch.shown = some f) (hn : ch.next = none) :
    ch.turnNext =
      if f.last then
        if ch.loop then { ch with goal := .next, acc := FrameAcc.start, cursor := 0, number := 0 } else ch
      else { ch with goal := .next, acc := FrameAcc.start, cursor := f.after, number := f.number + 1 } := by
  simp only [Channel.turnNext, hst, hg, hf, hn]

theorem Part.queueRead_of_still {p : Part} {c : Fin 2} (h : (p.channel c).goal = .nothing ∨ (p.channel c).reading = true ∨
    (p.channel c).source = none ∨ (p.channel c).clip = none) : p.queueRead c = p := by
  unfold Part.queueRead
  dsimp only
  split
  · rfl
  · next hr hs hc hg =>
    rcases h with h | h | h | h
    · exact absurd h hg
    · cases hr.symm.trans h
    · cases hs.symm.trans h
    · rw [h] at hc
      cases hc
  · next hr hs hc hg =>
    rcases h with h | h | h | h
    · exact absurd h hg
    · cases hr.symm.trans h
    · cases hs.symm.trans h
    · rw [h] at hc
      cases hc
  · rfl

theorem Part.queueRead_of_volume {p : Part} {c : Fin 2} {i v : Nat} {k : Clip} {d : Fin 4}
    (hg : (p.channel c).goal ≠ .nothing) (hr : (p.channel c).reading = false) (hc : (p.channel c).clip = some i)
    (hk : p.clip i = some k) (hs : (p.channel c).source = some (.volume v)) (hd : p.volumeLane v = some d) :
    p.queueRead c =
      (p.modDest d fun r =>
        { r with previews := r.previews ++ [{ channel := c, key := k.key false, index := (p.channel c).cursor }]
        }).modChannel c fun x => { x with reading := true } := by
  have hclip : (p.channel c).clip.bind p.clip = some k := by rw [hc, Option.bind_some, hk]
  simp only [Part.queueRead, hr, hs, hclip, hd]

theorem Part.queueRead_of_card {p : Part} {c : Fin 2} {i n : Nat} {k : Clip} {card : Card} {l : Fin 6}
    (hg : (p.channel c).goal ≠ .nothing) (hr : (p.channel c).reading = false) (hc : (p.channel c).clip = some i)
    (hk : p.clip i = some k) (hs : (p.channel c).source = some (.card n)) (hn : p.card n = some card)
    (hl : card.lane = some l) :
    p.queueRead c =
      (p.modReader l fun r =>
        { r with previews := r.previews ++ [{ channel := c, block := k.firstBlock + (p.channel c).cursor }]
        }).modChannel c fun x => { x with reading := true } := by
  have hclip : (p.channel c).clip.bind p.clip = some k := by rw [hc, Option.bind_some, hk]
  have hlane : (p.card n).bind (·.lane) = some l := by rw [hn, Option.bind_some, hl]
  simp only [Part.queueRead, hr, hs, hclip, hlane]

/-! ### The output frame and the scope (R170, R176) -/

theorem Part.sendFrame_of_unarmed {p : Part} {c : Fin 2} (f : Frame) (h : (p.channel c).armed = false) :
    p.sendFrame c f = p.emit (.video c (some (f.picture.graded (p.readLive (p.channelLook c)).1))) :=
  if_neg (by rw [h]; exact Bool.false_ne_true)

theorem Part.sendFrame_of_armed {p : Part} {c : Fin 2} (f : Frame) (h : (p.channel c).armed = true) :
    p.sendFrame c f =
      (p.emit (.video c (some (f.picture.graded (p.readLive (p.channelLook c)).1)))).modChannel c fun x =>
        { x with scope := some (scopeOf f.number (p.readLive (p.channelLook c)).2
                   (f.picture.graded (p.readLive (p.channelLook c)).1)), armed := false } :=
  if_pos h

theorem Part.outputRequest_of_black {p : Part} {c : Fin 2}
    (h : (p.channel c).state = .idle ∨ (p.channel c).state = .noSource ∨ (p.channel c).shown = none) :
    p.outputRequest c = p.emit (.video c none) := by
  unfold Part.outputRequest
  dsimp only
  split
  · next hst _ hf =>
    rcases h with h | h | h
    · cases hst.symm.trans h
    · cases hst.symm.trans h
    · cases hf.symm.trans h
  · next hst hf _ =>
    rcases h with h | h | h
    · cases hst.symm.trans h
    · cases hst.symm.trans h
    · cases hf.symm.trans h
  · next hst hf =>
    rcases h with h | h | h
    · cases hst.symm.trans h
    · cases hst.symm.trans h
    · cases hf.symm.trans h
  · rfl

theorem Part.outputRequest_of_shown {p : Part} {c : Fin 2} {f : Frame} (hf : (p.channel c).shown = some f)
    (h : (p.channel c).state = .paused ∨ ((p.channel c).state = .playing ∧ (p.channel c).next = none)) :
    p.outputRequest c = p.sendFrame c f := by
  rcases h with h | ⟨h, hn⟩
  · simp only [Part.outputRequest, h, hf]
  · simp only [Part.outputRequest, h, hf, hn]

theorem Part.outputRequest_of_next {p : Part} {c : Fin 2} {f g : Frame} (hg : (p.channel c).shown = some g)
    (hf : (p.channel c).next = some f) (h : (p.channel c).state = .playing) :
    p.outputRequest c = (p.sendFrame c f).showFrame c f := by
  simp only [Part.outputRequest, h, hg, hf]

theorem foldl_min_spec (t : List Nat) (x : Nat) : t.foldl min x ∈ x :: t ∧ ∀ y ∈ x :: t, t.foldl min x ≤ y :=
  List.min?_eq_some_iff.1 List.min?_cons'

theorem foldl_max_spec (t : List Nat) (x : Nat) : t.foldl max x ∈ x :: t ∧ ∀ y ∈ x :: t, y ≤ t.foldl max x :=
  List.max?_eq_some_iff.1 List.max?_cons'

theorem scopeOf_of_codes {g : Picture} {x : Nat} {t : List Nat} (n : Nat) (used : Option (Nat × Nat))
    (h : g.codes = x :: t) :
    scopeOf n used g =
      { frame := n, look := used.map (·.1), version := used.map (·.2), low := t.foldl min x, high := t.foldl max x,
        mean := (x :: t).sum / (x :: t).length,
        clipped := ((x :: t).filter (· == 1023)).length * 1000 / (x :: t).length } := by
  rw [scopeOf, h]

theorem scopeOf_head (n : Nat) (used : Option (Nat × Nat)) (g : Picture) :
    (scopeOf n used g).frame = n ∧ (scopeOf n used g).look = used.map (·.1) ∧
      (scopeOf n used g).version = used.map (·.2) := by
  unfold scopeOf
  split <;> exact ⟨rfl, rfl, rfl⟩

/-- Settles O51. -/
theorem framesSent : Obligations.FramesSent := by
  refine ⟨fun p c f => ⟨Part.showFrame_of_on, fun i hst hl hloop hc => Part.showFrame_of_end hst hl hloop hc⟩,
    fun p c i k b hc hk => ⟨rfl, fun hcl => ?gathers, fun hcl => ⟨fun n hg => ⟨fun hn => ?shows, fun hn hl => ?passes⟩,
      fun hg => ?next, fun hg => ?nothing⟩⟩,
    fun ch => ⟨Channel.turnNext_of_still, fun f hst hg hf hn => ⟨fun hl => ?onward, fun hl hloop => ?around,
      fun hl hloop => ?stays⟩⟩,
    fun p c => ⟨Part.queueRead_of_still, fun i k hg hr hc hk =>
      ⟨fun v d hs hd => Part.queueRead_of_volume hg hr hc hk hs hd,
        fun n card l hs hn hl => Part.queueRead_of_card hg hr hc hk hs hn hl⟩⟩,
    fun p => rfl,
    fun s d n h => ⟨fun hr => ?scopeRange, fun c hn => ?scope⟩,
    fun s c => ⟨fun hb => ?black, fun f hf hst ha => ?unarmed, fun f hf hst ha => ?armed, fun f g hg hf hst => ?turned⟩,
    fun p c f => ⟨Part.sendFrame_of_unarmed f, Part.sendFrame_of_armed f⟩,
    fun n used g => ?measures⟩
  case gathers =>
    exact (Part.channelAnswer_of_block b hc hk).trans (if_neg (by rw [Bool.not_eq_true]; exact hcl))
  case shows =>
    refine (Part.channelAnswer_of_block b hc hk).trans ((if_pos hcl).trans ?_)
    rcases hg with hg | ⟨hg, rfl⟩
    · rw [hg]
      exact Part.reachFrame_of_reached hn
    · rw [hg]
      exact Part.reachFrame_of_reached hn
  case passes =>
    refine (Part.channelAnswer_of_block b hc hk).trans ((if_pos hcl).trans ?_)
    rcases hg with hg | ⟨hg, rfl⟩
    · rw [hg]
      exact Part.reachFrame_of_ahead hn hl
    · rw [hg]
      exact Part.reachFrame_of_ahead hn hl
  case next =>
    refine (Part.channelAnswer_of_block b hc hk).trans ((if_pos hcl).trans ?_)
    rw [hg]
    rfl
  case nothing =>
    refine (Part.channelAnswer_of_block b hc hk).trans ((if_pos hcl).trans ?_)
    rw [hg]
    rfl
  case onward => exact (Channel.turnNext_of_shown hst hg hf hn).trans (if_neg (by rw [hl]; exact Bool.false_ne_true))
  case around => exact (Channel.turnNext_of_shown hst hg hf hn).trans ((if_pos hl).trans (if_pos hloop))
  case stays =>
    exact (Channel.turnNext_of_shown hst hg hf hn).trans ((if_pos hl).trans
      (if_neg (by rw [hloop]; exact Bool.false_ne_true)))
  case scopeRange =>
    refine declines_of_refuse h rfl ?_ rfl
    rw [Part.readScope, unitAt_of_ge 2 n (by omega)]
  case scope =>
    subst hn
    refine taken_of_reply h rfl ?_ rfl
    rw [Part.readScope, unitAt_val]
    rfl
  case black => exact acted_of_event rfl (Part.outputRequest_of_black (p := s.part.quiet) hb)
  case unarmed =>
    exact acted_of_event rfl ((Part.outputRequest_of_shown (p := s.part.quiet) hf hst).trans
      (Part.sendFrame_of_unarmed f ha))
  case armed =>
    exact acted_of_event rfl ((Part.outputRequest_of_shown (p := s.part.quiet) hf hst).trans
      (Part.sendFrame_of_armed f ha))
  case turned => exact acted_of_event rfl (Part.outputRequest_of_next (p := s.part.quiet) hg hf hst)
  case measures =>
    obtain ⟨hframe, hlook, hversion⟩ := scopeOf_head n used g
    refine ⟨hframe, hlook, hversion, fun hne => ?_⟩
    obtain ⟨x, t, h⟩ := List.exists_cons_of_ne_nil hne
    rw [scopeOf_of_codes n used h, h]
    obtain ⟨hmin, hle⟩ := foldl_min_spec t x
    obtain ⟨hmax, hge⟩ := foldl_max_spec t x
    exact ⟨hmin, hmax, fun y hy => ⟨hle y hy, hge y hy⟩, rfl, rfl⟩

end Sys2Proof.Machine

/-! The notices of a slot: what a report of the slot does beside the slot as it was last reported, and a Presence Notice. -/

namespace Sys2Proof.Machine

/-! ### An insertion (R36) -/

theorem Part.insertion_of_mount {p : Part} {l : Fin 6} (hst : (p.reader l).state = .empty)
    (ht : (p.reader l).term.unsensed = false) : p.insertion l = (p.changedReader l).startMount l := by
  have hst' : ((p.changedReader l).reader l).state = .empty :=
    (congrArg ReaderLane.state (Part.reader_modReader_self p l _)).trans hst
  have ht' : ((p.changedReader l).reader l).term.unsensed = false :=
    (congrArg (fun x : ReaderLane => x.term.unsensed) (Part.reader_modReader_self p l _)).trans ht
  exact (if_pos hst').trans (if_neg (by rw [ht']; exact Bool.false_ne_true))

theorem Part.insertion_of_unsensed {p : Part} {l : Fin 6} (hst : (p.reader l).state = .empty)
    (ht : (p.reader l).term.unsensed = true) :
    p.insertion l = (p.changedReader l).modReader l fun x => { x with mountPending := true, remountOwed := false } := by
  have hst' : ((p.changedReader l).reader l).state = .empty :=
    (congrArg ReaderLane.state (Part.reader_modReader_self p l _)).trans hst
  have ht' : ((p.changedReader l).reader l).term.unsensed = true :=
    (congrArg (fun x : ReaderLane => x.term.unsensed) (Part.reader_modReader_self p l _)).trans ht
  exact (if_pos hst').trans (if_pos ht')

theorem Part.insertion_of_occupied {p : Part} {l : Fin 6} (hst : (p.reader l).state ≠ .empty) :
    p.insertion l = p.changedReader l := by
  have hst' : ((p.changedReader l).reader l).state ≠ .empty := fun h =>
    hst ((congrArg ReaderLane.state (Part.reader_modReader_self p l _)).symm.trans h)
  exact if_neg hst'

/-! ### A report of a slot, compared with the slot as last reported (R30) -/

theorem Part.slotReport_of_same {p : Part} {l : Fin 6} {present locked : Bool} {count : Byte}
    (hp : present = (p.reader l).slotPresent)
    (hs : present = true → locked = (p.reader l).slotLocked ∧ count = (p.reader l).slotCount) :
    p.slotReport l present locked count = p.recordSlot l present locked count := by
  cases present
  case false =>
    unfold Part.slotReport
    dsimp only
    rw [← hp, if_neg Bool.false_ne_true, if_neg Bool.false_ne_true]
  case true =>
    obtain ⟨hl, hc⟩ := hs rfl
    unfold Part.slotReport
    dsimp only
    rw [← hp, if_pos rfl, if_neg (fun h : true = false => nomatch h), if_neg (not_not.mpr hc.symm), if_neg (not_not.mpr hl.symm)]

theorem Part.slotReport_of_inserted {p : Part} {l : Fin 6} {locked : Bool} {count : Byte}
    (hp : (p.reader l).slotPresent = false) :
    p.slotReport l true locked count = (p.recordSlot l true locked count).insertion l := by
  unfold Part.slotReport
  dsimp only
  rw [if_pos rfl, if_pos hp]

theorem Part.slotReport_of_swapped {p : Part} {l : Fin 6} {locked : Bool} {count : Byte}
    (hp : (p.reader l).slotPresent = true) (hc : count ≠ (p.reader l).slotCount) :
    p.slotReport l true locked count =
      (((p.recordSlot l true locked count).removal l).changedReader l).insertion l := by
  unfold Part.slotReport
  dsimp only
  rw [if_pos rfl, hp, if_neg (fun h : true = false => nomatch h), if_pos hc.symm]

theorem Part.slotReport_of_lock {p : Part} {l : Fin 6} {locked : Bool} {count : Byte}
    (hp : (p.reader l).slotPresent = true) (hc : count = (p.reader l).slotCount) (hl : locked ≠ (p.reader l).slotLocked) :
    p.slotReport l true locked count = (p.recordSlot l true locked count).lockChange l locked := by
  unfold Part.slotReport
  dsimp only
  rw [if_pos rfl, hp, if_neg (fun h : true = false => nomatch h), if_neg (not_not.mpr hc.symm), if_pos hl.symm]

theorem Part.slotReport_of_removed {p : Part} {l : Fin 6} {locked : Bool} {count : Byte}
    (hp : (p.reader l).slotPresent = true) :
    p.slotReport l false locked count = ((p.recordSlot l false locked count).removal l).changedReader l := by
  unfold Part.slotReport
  dsimp only
  rw [if_neg Bool.false_ne_true, if_pos hp]

/-! ### A change of the lock switch (R41) -/

theorem Part.lockChange_of_bound {p : Part} {l : Fin 6} {locked : Bool} {i : Nat} (h : p.boundCard l = some i) :
    p.lockChange l locked = (p.changedReader l).modCard i fun c => { c with writeProtected := locked } := by
  have h' : (p.changedReader l).boundCard l = some i := h
  unfold Part.lockChange
  dsimp only
  rw [h']

theorem Part.lockChange_of_unbound {p : Part} {l : Fin 6} {locked : Bool} (h : p.boundCard l = none) :
    p.lockChange l locked = p.changedReader l := by
  have h' : (p.changedReader l).boundCard l = none := h
  unfold Part.lockChange
  dsimp only
  rw [h']

/-! ### The answer to a Presence Request (R29) -/

theorem Part.readerAsks_of_tag {p : Part} {l : Fin 6} {tag : Byte} {o : ReaderOut} (ho : (p.reader l).out = some o)
    (ht : o.tag = tag) : p.readerAsks l tag = some o := by
  unfold Part.readerAsks
  rw [ho]
  exact if_pos ht

theorem Part.readerAsks_some {p : Part} {l : Fin 6} {tag : Byte} {o : ReaderOut} (h : p.readerAsks l tag = some o) :
    (p.reader l).out = some o ∧ o.tag = tag := by
  unfold Part.readerAsks at h
  split at h
  next x hx =>
    by_cases ht : x.tag = tag
    · rw [if_pos ht] at h
      rw [hx, h]
      exact ⟨rfl, (Option.some.inj h) ▸ ht⟩
    · rw [if_neg ht] at h
      exact nomatch h
  next => exact nomatch h

theorem Part.takePresence_of_discarded {p : Part} {l : Fin 6} {tag count : Byte} {present locked : Bool}
    (h : ∀ o, (p.reader l).out = some o → o.tag = tag → o.request ≠ .presence) :
    p.takePresence l (some tag) present locked count = p := by
  unfold Part.takePresence
  dsimp only
  cases ha : p.readerAsks l tag
  case none => rfl
  case some o =>
    obtain ⟨ho, ht⟩ := Part.readerAsks_some ha
    have hr : o.request ≠ .presence := h o ho ht
    dsimp only
    cases hq : o.request
    case presence => exact absurd hq hr
    case step => rfl
    case reinit => rfl

theorem Part.takePresence_of_asked {p : Part} {l : Fin 6} {tag count : Byte} {present locked : Bool} {o : ReaderOut}
    (ho : (p.reader l).out = some o) (ht : o.tag = tag) (hq : o.request = .presence) :
    p.takePresence l (some tag) present locked count = p.presenceAnswered l present locked count := by
  unfold Part.takePresence
  dsimp only
  rw [Part.readerAsks_of_tag ho ht]
  dsimp only
  rw [hq]

/-- Settles O53: a notice without a tag compares the report with the slot as last reported, case by case; one with a tag is
taken by the Presence Request that has it. -/
theorem presenceTaken : Obligations.PresenceTaken := by
  intro s l present locked count r slot
  have hslot (x : ReaderLane) : slot x = { x with slotPresent := present, slotLocked := locked, slotCount := count } := rfl
  refine ⟨⟨?same, ?mount, ?pending, ?occupied, ?lock, ?unbound, ?swapped, ?removed⟩, fun tag => ⟨?discarded, ?asked⟩⟩
  case same =>
    intro hp hs
    exact acted_of_event rfl (Part.slotReport_of_same (p := s.part.quiet) hp hs)
  case mount =>
    rintro rfl hp hst ht
    have hst' : ((s.part.quiet.recordSlot l true locked count).reader l).state = .empty :=
      (congrArg ReaderLane.state (Part.reader_modReader_self _ l _)).trans hst
    have ht' : ((s.part.quiet.recordSlot l true locked count).reader l).term.unsensed = false :=
      (congrArg (fun x : ReaderLane => x.term.unsensed) (Part.reader_modReader_self _ l _)).trans ht
    refine acted_of_event rfl ((Part.slotReport_of_inserted (p := s.part.quiet) hp).trans
      ((Part.insertion_of_mount hst' ht').trans ?_))
    simp only [Part.startMount, Part.changedReader, Part.recordSlot, Part.modReader_modReader]
    rfl
  case pending =>
    rintro rfl hp hst ht
    have hst' : ((s.part.quiet.recordSlot l true locked count).reader l).state = .empty :=
      (congrArg ReaderLane.state (Part.reader_modReader_self _ l _)).trans hst
    have ht' : ((s.part.quiet.recordSlot l true locked count).reader l).term.unsensed = true :=
      (congrArg (fun x : ReaderLane => x.term.unsensed) (Part.reader_modReader_self _ l _)).trans ht
    refine acted_of_event rfl ((Part.slotReport_of_inserted (p := s.part.quiet) hp).trans
      ((Part.insertion_of_unsensed hst' ht').trans ?_))
    simp only [Part.changedReader, Part.recordSlot, Part.modReader_modReader]
    rfl
  case occupied =>
    rintro rfl hp hst
    have hst' : ((s.part.quiet.recordSlot l true locked count).reader l).state ≠ .empty := fun h =>
      hst ((congrArg ReaderLane.state (Part.reader_modReader_self _ l _)).symm.trans h)
    refine acted_of_event rfl ((Part.slotReport_of_inserted (p := s.part.quiet) hp).trans
      ((Part.insertion_of_occupied hst').trans ?_))
    exact Part.modReader_modReader _ l _ _
  case lock =>
    rintro i rfl hp hc hl hb
    have hb' : (s.part.quiet.recordSlot l true locked count).boundCard l = some i := hb
    refine acted_of_event rfl ((Part.slotReport_of_lock (p := s.part.quiet) hp hc hl).trans
      ((Part.lockChange_of_bound hb').trans ?_))
    exact congrArg (fun q : Part => q.modCard i fun c => { c with writeProtected := locked })
      (Part.modReader_modReader _ l _ _)
  case unbound =>
    rintro rfl hp hc hl hb
    have hb' : (s.part.quiet.recordSlot l true locked count).boundCard l = none := hb
    refine acted_of_event rfl ((Part.slotReport_of_lock (p := s.part.quiet) hp hc hl).trans
      ((Part.lockChange_of_unbound hb').trans ?_))
    exact Part.modReader_modReader _ l _ _
  case swapped =>
    rintro rfl hp hc
    exact acted_of_event rfl (Part.slotReport_of_swapped (p := s.part.quiet) hp hc)
  case removed =>
    rintro rfl hp
    exact acted_of_event rfl (Part.slotReport_of_removed (p := s.part.quiet) hp)
  case discarded =>
    intro h
    exact acted_of_event rfl (Part.takePresence_of_discarded (p := s.part.quiet) h)
  case asked =>
    intro o ho ht hq
    exact acted_of_event rfl (Part.takePresence_of_asked (p := s.part.quiet) ho ht hq)

end Sys2Proof.Machine

/-! Bytes of 0 at once (R203). A register moves on linearly, so the product of two registers is a sum of shifted ones; it is
symmetric, and a register that stands for a number of shifts can be squared. -/

namespace Sys2Proof.Machine

/-! ### Moving a register on is linear -/

theorem crcShift_zero {w : Nat} (poly : BitVec w) : crcShift poly 0#w = 0#w := by simp [crcShift]

theorem crcShift_xor {w : Nat} (poly a b : BitVec w) :
    crcShift poly (a ^^^ b) = crcShift poly a ^^^ crcShift poly b := by
  have hs : (a ^^^ b) <<< 1 = a <<< 1 ^^^ b <<< 1 := BitVec.shiftLeft_xor_distrib a b 1
  unfold crcShift
  rw [BitVec.msb_xor, hs]
  cases a.msb <;> cases b.msb
  case false.false => rfl
  case false.true => exact BitVec.xor_assoc _ _ _
  case true.false => simp only [Bool.xor_false, if_true, Bool.false_eq_true, if_false]; ac_rfl
  case true.true =>
    calc a <<< 1 ^^^ b <<< 1 = a <<< 1 ^^^ b <<< 1 ^^^ (poly ^^^ poly) := by rw [BitVec.xor_self, BitVec.xor_zero]
      _ = (a <<< 1 ^^^ poly) ^^^ (b <<< 1 ^^^ poly) := by ac_rfl

theorem crcShift_iterate_zero {w : Nat} (poly : BitVec w) (n : Nat) : (crcShift poly)^[n] 0#w = 0#w :=
  Function.iterate_fixed (crcShift_zero poly) n

theorem crcShift_iterate_xor {w : Nat} (poly : BitVec w) (n : Nat) (a b : BitVec w) :
    (crcShift poly)^[n] (a ^^^ b) = (crcShift poly)^[n] a ^^^ (crcShift poly)^[n] b := by
  induction n with
  | zero => rfl
  | succ n ih => simp only [Function.iterate_succ_apply', ih, crcShift_xor]

/-- A power of x below the highest moves on to the next one. -/
theorem crcShift_twoPow {w : Nat} (poly : BitVec w) {i : Nat} (h : i + 1 < w) :
    crcShift poly (BitVec.twoPow w i) = BitVec.twoPow w (i + 1) := by
  have hm : (BitVec.twoPow w i).msb = false := by
    rw [BitVec.msb_twoPow]
    simp
    omega
  rw [crcShift, if_neg (by rw [hm]; exact Bool.false_ne_true)]
  rw [BitVec.twoPow_eq, BitVec.twoPow_eq, ← BitVec.shiftLeft_add]

theorem crcShift_iterate_one {w : Nat} (poly : BitVec w) {i : Nat} (h : i < w) :
    (crcShift poly)^[i] (BitVec.twoPow w 0) = BitVec.twoPow w i := by
  induction i with
  | zero => rfl
  | succ i ih => rw [Function.iterate_succ_apply', ih (by omega), crcShift_twoPow poly h]

/-! ### A product as a sum -/

/-- The sum of the shifts of `a` by the positions of the lowest `n` bits set in `b`. -/
def bitSum {w : Nat} (poly a b : BitVec w) : Nat → BitVec w
  | 0 => 0
  | n + 1 => (if b.getLsbD n then (crcShift poly)^[n] a else 0) ^^^ bitSum poly a b n

theorem crcMul_eq {w : Nat} (poly a b : BitVec w) (n : Nat) (acc : BitVec w) :
    crcMul poly a b n acc = (crcShift poly)^[n] acc ^^^ bitSum poly a b n := by
  induction n generalizing acc with
  | zero => simp [crcMul, bitSum]
  | succ n ih =>
    rw [crcMul, ih, bitSum]
    cases b.getLsbD n
    case false => simp
    case true => simp [crcShift_iterate_xor, BitVec.xor_assoc]

theorem crcMul_from_zero {w : Nat} (poly a b : BitVec w) (n : Nat) : crcMul poly a b n 0 = bitSum poly a b n :=
  (crcMul_eq poly a b n 0#w).trans (by rw [crcShift_iterate_zero, BitVec.zero_xor])

theorem bitSum_zero {w : Nat} (poly b : BitVec w) (n : Nat) : bitSum poly 0#w b n = 0#w := by
  induction n with
  | zero => rfl
  | succ n ih => simp [bitSum, ih, crcShift_iterate_zero]

theorem bitSum_xor {w : Nat} (poly a c b : BitVec w) (n : Nat) :
    bitSum poly (a ^^^ c) b n = bitSum poly a b n ^^^ bitSum poly c b n := by
  induction n with
  | zero => simp [bitSum]
  | succ n ih =>
    rw [bitSum, bitSum, bitSum, ih, crcShift_iterate_xor]
    cases b.getLsbD n
    case false => simp
    case true => simp only [if_true]; ac_rfl

theorem bitSum_shift {w : Nat} (poly a b : BitVec w) (n : Nat) :
    bitSum poly (crcShift poly a) b n = crcShift poly (bitSum poly a b n) := by
  induction n with
  | zero => exact (crcShift_zero poly).symm
  | succ n ih =>
    rw [bitSum, bitSum, ih, crcShift_xor, ← Function.iterate_succ_apply, Function.iterate_succ_apply']
    cases b.getLsbD n
    case false => simp [crcShift_zero]
    case true => rfl

theorem bitSum_shifts {w : Nat} (poly a b : BitVec w) (n k : Nat) :
    bitSum poly ((crcShift poly)^[k] a) b n = (crcShift poly)^[k] (bitSum poly a b n) := by
  induction k with
  | zero => rfl
  | succ k ih => rw [Function.iterate_succ_apply', bitSum_shift, ih, Function.iterate_succ_apply']

theorem bitSum_bitSum {w : Nat} (poly a b c : BitVec w) (m n : Nat) :
    bitSum poly (bitSum poly a b m) c n = bitSum poly (bitSum poly a c n) b m := by
  induction m with
  | zero => exact bitSum_zero poly c n
  | succ m ih =>
    rw [bitSum, bitSum_xor, ih]
    cases hb : b.getLsbD m
    case false => simp [bitSum, hb, bitSum_zero]
    case true => simp [bitSum, hb, bitSum_shifts]

/-- The shifts of 1 by the positions of the bits of a register sum up to the bits themselves. -/
theorem bitSum_one_getLsbD {w : Nat} (poly b : BitVec w) {n : Nat} (hn : n ≤ w) (i : Nat) :
    (bitSum poly (BitVec.twoPow w 0) b n).getLsbD i = (decide (i < n) && b.getLsbD i) := by
  induction n with
  | zero => simp [bitSum]
  | succ n ih =>
    rw [bitSum, crcShift_iterate_one poly hn, BitVec.getLsbD_xor, ih (by omega)]
    by_cases hi : i = n
    · subst hi
      cases hb : b.getLsbD i <;> simp [BitVec.getLsbD_twoPow]
      omega
    · have hlt : decide (i < n + 1) = decide (i < n) := decide_eq_decide.mpr (by omega)
      have hne : decide (n = i) = false := decide_eq_false (Ne.symm hi)
      rw [hlt]
      cases b.getLsbD n <;> simp [BitVec.getLsbD_twoPow, hne]

theorem bitSum_one {w : Nat} (poly b : BitVec w) : bitSum poly (BitVec.twoPow w 0) b w = b := by
  refine BitVec.eq_of_getLsbD_eq fun i hi => ?_
  rw [bitSum_one_getLsbD poly b (Nat.le_refl w), decide_eq_true hi, Bool.true_and]

theorem bitSum_comm {w : Nat} (poly a b : BitVec w) : bitSum poly a b w = bitSum poly b a w := by
  have h := bitSum_bitSum poly (BitVec.twoPow w 0) a b w w
  rwa [bitSum_one, bitSum_one] at h

/-! ### A register that stands for a number of shifts -/

/-- A product with `a` is a move on by `k` bits. -/
def StandsFor {w : Nat} (poly a : BitVec w) (k : Nat) : Prop := ∀ r, crcMul poly r a w 0 = (crcShift poly)^[k] r

theorem standsFor_byte {w : Nat} (poly : BitVec w) (hw : 8 < w) : StandsFor poly (BitVec.ofNat w 256) 8 := by
  intro r
  have h : BitVec.ofNat w 256 = (crcShift poly)^[8] (BitVec.twoPow w 0) := by
    rw [crcShift_iterate_one poly hw]
    exact BitVec.eq_of_toNat_eq (by rw [BitVec.toNat_ofNat, BitVec.toNat_twoPow])
  rw [crcMul_from_zero, bitSum_comm, h, bitSum_shifts, bitSum_one]

theorem StandsFor.square {w : Nat} {poly a : BitVec w} {k : Nat} (h : StandsFor poly a k) :
    StandsFor poly (crcMul poly a a w 0) (k + k) := by
  intro r
  rw [crcMul_from_zero, bitSum_comm, h a, bitSum_shifts, bitSum_comm, ← crcMul_from_zero, h r,
    ← Function.iterate_add_apply]

theorem crcZerosFrom_eq {w : Nat} {poly : BitVec w} (fuel : Nat) :
    ∀ (n : Nat) (a r : BitVec w) (k : Nat), n < 2 ^ fuel → StandsFor poly a k →
      crcZerosFrom poly fuel n a r = (crcShift poly)^[k * n] r := by
  induction fuel with
  | zero =>
    intro n a r k hn _
    have h0 : n = 0 := by omega
    subst h0
    rfl
  | succ fuel ih =>
    intro n a r k hn h
    have hhalf : n / 2 < 2 ^ fuel := by omega
    rw [crcZerosFrom, ih (n / 2) _ _ (k + k) hhalf h.square]
    split
    next hodd =>
      rw [h r, ← Function.iterate_add_apply]
      have hn : (k + k) * (n / 2) + k = k * n := by
        calc (k + k) * (n / 2) + k = k * (2 * (n / 2) + 1) := by ring
          _ = k * n := by rw [show 2 * (n / 2) + 1 = n by omega]
      rw [hn]
    next heven =>
      have hn : (k + k) * (n / 2) = k * n := by
        calc (k + k) * (n / 2) = k * (2 * (n / 2)) := by ring
          _ = k * n := by rw [show 2 * (n / 2) = n by omega]
      rw [hn]

/-! ### Bytes of 0 in turn -/

theorem crcByte_zero {w : Nat} (poly r : BitVec w) : crcByte poly r 0 = (crcShift poly)^[8] r := by
  have h0 : r ^^^ ((0 : Byte).setWidth w) <<< (w - 8) = r := by simp
  unfold crcByte
  rw [h0]
  rfl

theorem crcBytes_zeros {w : Nat} (poly : BitVec w) (n : Nat) :
    ∀ r, crcBytes poly r (List.replicate n 0) = (crcShift poly)^[8 * n] r := by
  induction n with
  | zero => exact fun _ => rfl
  | succ n ih =>
    intro r
    have hcons : crcBytes poly r (List.replicate (n + 1) 0) = crcBytes poly (crcByte poly r 0) (List.replicate n 0) := rfl
    rw [hcons, ih, crcByte_zero, ← Function.iterate_add_apply]
    rfl

theorem crcZeros_eq {w : Nat} (poly r : BitVec w) {n : Nat} (hw : 8 < w) (hn : n < 2 ^ 23) :
    crcZeros poly r n = crcBytes poly r (List.replicate n 0) :=
  (crcZerosFrom_eq 23 n _ r 8 hn (standsFor_byte poly hw)).trans (crcBytes_zeros poly n r).symm

/-- Settles O60: both generators have more than 8 bits, so the squares of x to the power 8 stand for bytes of 0. -/
theorem zerosAtOnce : Obligations.ZerosAtOnce :=
  ⟨fun r _ hn => crcZeros_eq checkPoly r (by decide) hn, fun r _ hn => crcZeros_eq digestPoly r (by decide) hn⟩

end Sys2Proof.Machine

/-! The messages of the links in bytes (11.4): numbers read back from their bytes, blocks read back from their stored form,
the command of each type byte. -/

namespace Sys2Proof.Machine

/-! ### Numbers and fields in bytes (R201) -/

@[simp] theorem leBytes_length (w n : Nat) : (leBytes w n).length = w := by
  induction w generalizing n with
  | zero => rfl
  | succ w ih => exact congrArg (· + 1) (ih (n / 256))

theorem leNat_leBytes (w n : Nat) : leNat (leBytes w n) = n % 256 ^ w := by
  induction w generalizing n with
  | zero => exact (Nat.mod_one n).symm
  | succ w ih =>
    have hlow : (BitVec.ofNat 8 n).toNat = n % 256 := BitVec.toNat_ofNat n 8
    rw [leBytes, leNat, ih, hlow, Nat.pow_succ', Nat.mod_mul]

/-- A field of `w` bytes behind `pre` is the number it was made from. -/
theorem numAt_field (pre post : List Byte) (w : Nat) {off n : Nat} (ho : pre.length = off) (hn : n < 256 ^ w) :
    numAt (pre ++ leBytes w n ++ post) off w = n := by
  have hdrop : (pre ++ leBytes w n ++ post).drop off = leBytes w n ++ post := by
    rw [List.append_assoc, ← ho, List.drop_left]
  have htake : (leBytes w n ++ post).take w = leBytes w n := List.take_left' (leBytes_length w n)
  rw [numAt, hdrop, htake, leNat_leBytes, Nat.mod_eq_of_lt hn]

/-- A field at the end of a message. -/
theorem numAt_last (pre : List Byte) (w : Nat) {off n : Nat} (ho : pre.length = off) (hn : n < 256 ^ w) :
    numAt (pre ++ leBytes w n) off w = n := by
  have h := numAt_field pre [] w ho hn
  rwa [List.append_nil] at h

/-- Two bytes of a code, low byte first. -/
theorem code_of_bytes (lo hi : Byte) : BitVec.ofNat 16 (leNat [lo, hi]) = hi ++ lo := by
  have h : leNat [lo, hi] = lo.toNat + 256 * hi.toNat := by simp [leNat]
  refine BitVec.eq_of_toNat_eq ?_
  rw [h, BitVec.toNat_ofNat, BitVec.toNat_append, ← Nat.shiftLeft_add_eq_or_of_lt lo.isLt, Nat.shiftLeft_eq]
  have := lo.isLt
  have := hi.isLt
  omega

theorem byteAt_field (pre post : List Byte) (b : Byte) {off : Nat} (ho : pre.length = off) :
    byteAt (pre ++ [b] ++ post) off = b := by
  subst ho
  simp [byteAt]

theorem bytesAt_field (pre bs post : List Byte) {off n : Nat} (ho : pre.length = off) (hn : bs.length = n) :
    bytesAt (pre ++ bs ++ post) off n = bs := by
  subst ho hn
  refine List.ext_getElem (by simp [bytesAt]) fun k hk hk' => ?_
  simp [bytesAt, byteAt, List.getD, List.getElem?_append, hk']

/-! ### Blocks in their stored form (R203) -/

theorem dropWhile_zeros (n : Nat) (bs : List Byte) :
    (List.replicate n 0 ++ bs).dropWhile (fun x => x == 0) = bs.dropWhile fun x => x == 0 := by
  induction n with
  | zero => rfl
  | succ n ih => rw [List.replicate_succ, List.cons_append, List.dropWhile_cons_of_pos rfl, ih]

/-- The fill goes again, and nothing else when the last byte is not 0. -/
theorem trimmed_padTo {bs : List Byte} {n : Nat} (hlen : bs.length ≤ n) (hlast : bs.getLast? ≠ some 0) :
    trimmed (padTo n bs) = bs := by
  have hpad : padTo n bs = bs ++ List.replicate (n - bs.length) 0 := by
    rw [padTo, List.take_append, List.take_of_length_le hlen, List.take_replicate]
    congr 2
    omega
  have hkeep : bs.reverse.dropWhile (fun x => x == 0) = bs.reverse := by
    cases hr : bs.reverse
    case nil => rfl
    case cons x t =>
      have hx : bs.getLast? = some x := by rw [← List.head?_reverse, hr]; rfl
      refine List.dropWhile_cons_of_neg ?_
      intro h0
      exact hlast (hx.trans (congrArg some (beq_iff_eq.mp h0)))
  rw [trimmed, hpad, List.reverse_append, List.reverse_replicate, dropWhile_zeros, hkeep, List.reverse_reverse]

theorem Block.ofBytes_bytes {b : Block} (hh : b.header.length = Config.headerBytes)
    (hp : b.payload.length ≤ Config.payloadBytes) (hl : b.payload.getLast? ≠ some 0) : Block.ofBytes b.bytes = b := by
  have hpl : (padTo Config.payloadBytes b.payload).length = Config.payloadBytes := padTo_length _ _
  have hheader : b.bytes.take Config.headerBytes = b.header := by
    rw [Block.bytes, List.append_assoc, List.take_left' hh]
  have hrest : b.bytes.drop Config.headerBytes = padTo Config.payloadBytes b.payload ++ leBytes 4 b.check.toNat := by
    rw [Block.bytes, List.append_assoc, List.drop_left' hh]
  have hpayload : trimmed ((b.bytes.drop Config.headerBytes).take Config.payloadBytes) = b.payload := by
    rw [hrest, List.take_left' hpl, trimmed_padTo hp hl]
  have hcheck : numAt b.bytes (Config.headerBytes + Config.payloadBytes) 4 = b.check.toNat := by
    refine numAt_last (b.header ++ padTo Config.payloadBytes b.payload) 4 ?_ b.check.isLt
    rw [List.length_append, hh, hpl]
  have hcheck' : BitVec.ofNat 32 (numAt b.bytes (Config.headerBytes + Config.payloadBytes) 4) = b.check := by
    rw [hcheck, BitVec.ofNat_toNat, BitVec.setWidth_eq]
  unfold Block.ofBytes
  rw [hheader, hpayload, hcheck']

/-! ### The command of a type byte -/

theorem readerCommand_unknown (l : Fin 6) (m : List Byte) (type : Byte) (h : type.toNat < 0x81 ∨ 0x86 < type.toNat) :
    readerCommand l (type :: m) = .unknownReaderMessage l type m := by
  have ht : byteAt (type :: m) 0 = type := rfl
  unfold readerCommand
  rw [ht]
  dsimp only
  split
  any_goals omega
  rfl

theorem volumeCommand_unknown (d : Fin 4) (m : List Byte) (type : Byte) (h : type.toNat < 0x91 ∨ 0x99 < type.toNat) :
    volumeCommand d (type :: m) = .unknownVolumeMessage d type m := by
  have ht : byteAt (type :: m) 0 = type := rfl
  unfold volumeCommand
  rw [ht]
  dsimp only
  split
  any_goals omega
  rfl

end Sys2Proof.Machine

/-! What a loss lessens. The ends of reads, of copies and of recopies, and the removal of the WRITING entries of an offload,
add nothing to the part: links are freed, queues shortened, entries removed, cards move between HELD and SECURED. The relation
`Part.Lessens` says so once; the facts about what a removal, a failed reader or a reset leaves rest on it. -/

namespace Sys2Proof.Machine

/-! ### Tables up to a view of their records -/

theorem tget_map {α β : Type} (g : α → β) (t : Table α) (i : Nat) :
    tget (t.map fun e => (e.1, g e.2)) i = (tget t i).map g := by
  induction t with
  | nil => rfl
  | cons e t ih =>
    obtain ⟨k, x⟩ := e
    by_cases h : k = i
    · simp [tget, h]
    · simpa [tget, h] using ih

theorem map_tmod {α β : Type} (g : α → β) (t : Table α) (i : Nat) (f : α → α) (h : ∀ x, g (f x) = g x) :
    ((tmod t i f).map fun e => (e.1, g e.2)) = t.map fun e => (e.1, g e.2) := by
  rw [tmod, List.map_map]
  refine List.map_congr_left fun e _ => ?_
  simp only [Function.comp]
  split
  next => exact congrArg (Prod.mk e.1) (h e.2)
  next => rfl

/-! ### A reader lane, a destination lane, a card and a clip lessened -/

/-- A reader lane but for what a loss takes of it. -/
def ReaderLane.gist (r : ReaderLane) : ReaderLane :=
  { r with out := none, retries := 0, previews := [], serves := none,
           offload := r.offload.map fun x => { x with tally := [] } }

structure ReaderLane.Lessens (r x : ReaderLane) : Prop where
  gist : x.gist = r.gist
  link : (x.out = r.out ∧ x.retries = r.retries) ∨ (x.out = none ∧ x.retries = 0)
  serves : x.serves = r.serves ∨ x.serves = none

/-- A destination lane but for what a loss takes of it, and its release list and termination. -/
def DestLane.gist (r : DestLane) : DestLane :=
  { r with out := none, release := [], previews := [], recopies := [], progress := [], explicit := none,
           term := TermSlot.none }

structure DestLane.Lessens (r x : DestLane) : Prop where
  gist : x.gist = r.gist
  previews : x.previews.Sublist r.previews
  recopies : x.recopies.Sublist r.recopies
  explicit : x.explicit = r.explicit ∨ (x.explicit = none ∧ ∃ y, r.explicit = some (.recopy y))
  write : ∀ o id k n b, r.out = some o → o.request = .write (.slot id) k n b → x.out = some o

/-- A card but for its state and its count of clips copied. -/
def Card.gist (c : Card) : Card := { c with state := .ready, copied := 0 }

/-- The states between which a card is evaluated. -/
def CardState.Evaluated (st : CardState) : Prop := st = .held ∨ st = .secured

/-- A clip but for its copy list. -/
def Clip.gist (c : Clip) : Clip := { c with copies := [] }

theorem ReaderLane.Lessens.refl (r : ReaderLane) : r.Lessens r := ⟨rfl, Or.inl ⟨rfl, rfl⟩, Or.inl rfl⟩

theorem ReaderLane.Lessens.trans {r x y : ReaderLane} (h : r.Lessens x) (k : x.Lessens y) : r.Lessens y where
  gist := k.gist.trans h.gist
  link := by
    rcases k.link with ⟨ho, hn⟩ | hk
    · rw [ho, hn]
      exact h.link
    · exact Or.inr hk
  serves := by
    rcases k.serves with hs | hs
    · rw [hs]
      exact h.serves
    · exact Or.inr hs

theorem DestLane.Lessens.refl (r : DestLane) : r.Lessens r :=
  ⟨rfl, List.Sublist.refl _, List.Sublist.refl _, Or.inl rfl, fun _ _ _ _ _ h _ => h⟩

theorem DestLane.Lessens.trans {r x y : DestLane} (h : r.Lessens x) (k : x.Lessens y) : r.Lessens y where
  gist := k.gist.trans h.gist
  previews := k.previews.trans h.previews
  recopies := k.recopies.trans h.recopies
  explicit := by
    rcases k.explicit with hk | ⟨hk, z, hz⟩
    · rw [hk]
      exact h.explicit
    · rcases h.explicit with hh | ⟨hh, _⟩
      · exact Or.inr ⟨hk, z, hh.symm.trans hz⟩
      · cases hh.symm.trans hz
  write := fun o id key n b ho hr => k.write o id key n b (h.write o id key n b ho hr) hr

theorem ReaderLane.Lessens.of_abandon {r : ReaderLane} (o : ReaderOwner) : r.Lessens (r.abandonOf o) := by
  unfold ReaderLane.abandonOf
  split
  next =>
    split
    next => exact ⟨rfl, Or.inr ⟨rfl, rfl⟩, Or.inl rfl⟩
    next => exact ReaderLane.Lessens.refl r
  next => exact ReaderLane.Lessens.refl r

/-! ### A part lessened -/

/-- The destination lanes, the cards, the clips and the slot queue of a part lessened, the volume records kept. -/
structure Part.RecordsLessen (p q : Part) : Prop where
  dests : ∀ d, (p.dest d).Lessens (q.dest d)
  cards : (q.cards.map fun e => (e.1, e.2.gist)) = p.cards.map fun e => (e.1, e.2.gist)
  states : ∀ i c e, p.card i = some c → q.card i = some e →
    e.state = c.state ∨ (c.state.Evaluated ∧ e.state.Evaluated)
  clips : (q.clips.map fun e => (e.1, e.2.gist)) = p.clips.map fun e => (e.1, e.2.gist)
  copies : ∀ i c e v, p.clip i = some c → q.clip i = some e → e.copyOn v = c.copyOn v ∨ e.copyOn v = none
  queue : q.pool.queue.Sublist p.pool.queue
  volumes : q.volumes = p.volumes

/-- `q` is `p` with links freed, queues shortened, copy entries and writes removed, recopies ended, cards evaluated. -/
structure Part.Lessens (p q : Part) : Prop extends Part.RecordsLessen p q where
  readers : ∀ l, (p.reader l).Lessens (q.reader l)
  slots : ∀ s ∈ q.pool.slots, ∃ t ∈ p.pool.slots, t.lane = s.lane
  writes : ∀ t ∈ p.pool.slots, t.recopy = false → ∀ w ∈ t.writes,
    ∃ s ∈ q.pool.slots, s.lane = t.lane ∧ s.recopy = false ∧ s.clip = t.clip ∧ ∃ x ∈ s.writes, x.vol = w.vol

theorem card_gist_of_cards {p q : Part} (h : (q.cards.map fun e => (e.1, e.2.gist)) = p.cards.map fun e => (e.1, e.2.gist))
    (i : Nat) : (q.card i).map Card.gist = (p.card i).map Card.gist := by
  have hg := congrArg (fun t => tget t i) h
  simp only [tget_map] at hg
  exact hg

theorem clip_gist_of_clips {p q : Part} (h : (q.clips.map fun e => (e.1, e.2.gist)) = p.clips.map fun e => (e.1, e.2.gist))
    (i : Nat) : (q.clip i).map Clip.gist = (p.clip i).map Clip.gist := by
  have hg := congrArg (fun t => tget t i) h
  simp only [tget_map] at hg
  exact hg

theorem Part.RecordsLessen.card_some {p q : Part} (h : p.RecordsLessen q) {i : Nat} {c : Card} (hc : p.card i = some c) :
    ∃ e, q.card i = some e ∧ e.gist = c.gist := by
  have hg := card_gist_of_cards h.cards i
  rw [hc, Option.map_some, Option.map_eq_some_iff] at hg
  exact hg

theorem Part.RecordsLessen.card_of_some {p q : Part} (h : p.RecordsLessen q) {i : Nat} {e : Card} (he : q.card i = some e) :
    ∃ c, p.card i = some c ∧ e.gist = c.gist := by
  have hg := (card_gist_of_cards h.cards i).symm
  rw [he, Option.map_some, Option.map_eq_some_iff] at hg
  obtain ⟨c, hc, hgist⟩ := hg
  exact ⟨c, hc, hgist.symm⟩

theorem Part.RecordsLessen.clip_some {p q : Part} (h : p.RecordsLessen q) {i : Nat} {c : Clip} (hc : p.clip i = some c) :
    ∃ e, q.clip i = some e ∧ e.gist = c.gist := by
  have hg := clip_gist_of_clips h.clips i
  rw [hc, Option.map_some, Option.map_eq_some_iff] at hg
  exact hg

theorem Part.RecordsLessen.clip_of_some {p q : Part} (h : p.RecordsLessen q) {i : Nat} {e : Clip} (he : q.clip i = some e) :
    ∃ c, p.clip i = some c ∧ e.gist = c.gist := by
  have hg := (clip_gist_of_clips h.clips i).symm
  rw [he, Option.map_some, Option.map_eq_some_iff] at hg
  obtain ⟨c, hc, hgist⟩ := hg
  exact ⟨c, hc, hgist.symm⟩

theorem Part.RecordsLessen.refl (p : Part) : p.RecordsLessen p where
  dests := fun _ => DestLane.Lessens.refl _
  cards := rfl
  states := by
    rintro i c e hc he
    rw [hc] at he
    exact Or.inl (congrArg Card.state (Option.some.inj he)).symm
  clips := rfl
  copies := by
    rintro i c e v hc he
    rw [hc] at he
    exact Or.inl (congrArg (fun x : Clip => x.copyOn v) (Option.some.inj he)).symm
  queue := List.Sublist.refl _
  volumes := rfl

theorem Part.RecordsLessen.trans {p q r : Part} (h : p.RecordsLessen q) (k : q.RecordsLessen r) : p.RecordsLessen r where
  dests := fun d => (h.dests d).trans (k.dests d)
  cards := k.cards.trans h.cards
  states := by
    intro i c e hc he
    obtain ⟨m, hm, _⟩ := h.card_some hc
    rcases k.states i m e hm he with hk | ⟨hk1, hk2⟩
    · rw [hk]
      exact h.states i c m hc hm
    · rcases h.states i c m hc hm with hh | ⟨hh1, _⟩
      · exact Or.inr ⟨hh ▸ hk1, hk2⟩
      · exact Or.inr ⟨hh1, hk2⟩
  clips := k.clips.trans h.clips
  copies := by
    intro i c e v hc he
    obtain ⟨m, hm, _⟩ := h.clip_some hc
    rcases k.copies i m e v hm he with hk | hk
    · rw [hk]
      exact h.copies i c m v hc hm
    · exact Or.inr hk
  queue := k.queue.trans h.queue
  volumes := k.volumes.trans h.volumes

theorem Part.Lessens.refl (p : Part) : p.Lessens p :=
  { Part.RecordsLessen.refl p with
    readers := fun _ => ReaderLane.Lessens.refl _
    slots := fun s hs => ⟨s, hs, rfl⟩
    writes := fun t ht hr w hw => ⟨t, ht, rfl, hr, rfl, w, hw, rfl⟩ }

theorem Part.Lessens.trans {p q r : Part} (h : p.Lessens q) (k : q.Lessens r) : p.Lessens r :=
  { h.toRecordsLessen.trans k.toRecordsLessen with
    readers := fun l => (h.readers l).trans (k.readers l)
    slots := by
      intro s hs
      obtain ⟨m, hm, hml⟩ := k.slots s hs
      obtain ⟨t, ht, htl⟩ := h.slots m hm
      exact ⟨t, ht, htl.trans hml⟩
    writes := by
      intro t ht hr w hw
      obtain ⟨m, hm, hml, hmr, hmc, x, hx, hxv⟩ := h.writes t ht hr w hw
      obtain ⟨s, hs, hsl, hsr, hsc, y, hy, hyv⟩ := k.writes m hm hmr x hx
      exact ⟨s, hs, hsl.trans hml, hsr, hsc.trans hmc, y, hy, hyv.trans hxv⟩ }

theorem Part.lessens_each {α : Type} (xs : List α) (f : Part → α → Part) (h : ∀ (q : Part) x, q.Lessens (f q x)) :
    ∀ p : Part, p.Lessens (p.each xs f) := by
  induction xs with
  | nil => exact Part.Lessens.refl
  | cons x xs ih => exact fun p => (h p x).trans (ih (f p x))

/-! ### The updates that lessen -/

theorem Part.lessens_modReader (p : Part) (l : Fin 6) (f : ReaderLane → ReaderLane)
    (h : (p.reader l).Lessens (f (p.reader l))) : p.Lessens (p.modReader l f) :=
  { Part.Lessens.refl p with
    readers := fun k => by
      by_cases hk : k = l
      · subst hk
        rw [Part.reader_modReader_self]
        exact h
      · rw [Part.reader_modReader_other p l k f hk]
        exact ReaderLane.Lessens.refl _ }

theorem Part.lessens_modDest (p : Part) (d : Fin 4) (f : DestLane → DestLane)
    (h : (p.dest d).Lessens (f (p.dest d))) : p.Lessens (p.modDest d f) :=
  { Part.Lessens.refl p with
    dests := fun e => by
      by_cases he : e = d
      · subst he
        rw [Part.dest_modDest_self]
        exact h
      · rw [Part.dest_modDest_other p d e f he]
        exact DestLane.Lessens.refl _ }

theorem Part.lessens_modChannel (p : Part) (c : Fin 2) (f : Channel → Channel) : p.Lessens (p.modChannel c f) :=
  { Part.Lessens.refl p with }

theorem Part.lessens_modCard (p : Part) (i : Nat) (f : Card → Card) (hg : ∀ c, (f c).gist = c.gist)
    (hs : ∀ c, p.card i = some c → (f c).state = c.state ∨ (c.state.Evaluated ∧ (f c).state.Evaluated)) :
    p.Lessens (p.modCard i f) :=
  { Part.Lessens.refl p with
    cards := map_tmod Card.gist p.cards i f hg
    states := fun k c e hc he => by
      have hc' : tget p.cards k = some c := hc
      have he' : tget (tmod p.cards i f) k = some e := he
      rw [tget_tmod, hc'] at he'
      by_cases hk : k = i
      · subst hk
        rw [if_pos rfl] at he'
        rw [← Option.some.inj he']
        exact hs c hc
      · rw [if_neg hk] at he'
        exact Or.inl (congrArg Card.state (Option.some.inj he')).symm }

theorem Part.lessens_modClip (p : Part) (i : Nat) (f : Clip → Clip) (hg : ∀ c, (f c).gist = c.gist)
    (hc : ∀ c v, (f c).copyOn v = c.copyOn v ∨ (f c).copyOn v = none) : p.Lessens (p.modClip i f) :=
  { Part.Lessens.refl p with
    clips := map_tmod Clip.gist p.clips i f hg
    copies := fun k c e v hk he => by
      have hk' : tget p.clips k = some c := hk
      have he' : tget (tmod p.clips i f) k = some e := he
      rw [tget_tmod, hk'] at he'
      by_cases hi : k = i
      · rw [if_pos hi] at he'
        rw [← Option.some.inj he']
        exact hc c v
      · rw [if_neg hi] at he'
        exact Or.inl (congrArg (fun x : Clip => x.copyOn v) (Option.some.inj he')).symm }

theorem Part.lessens_leaveQueue (p : Part) (l : Fin 6) : p.Lessens (p.leaveQueue l) :=
  { Part.Lessens.refl p with queue := List.filter_sublist }

theorem Part.lessens_orphanWrites (p : Part) (test : Slot → SlotWrite → Bool) : p.Lessens (p.orphanWrites test) :=
  { Part.Lessens.refl p with
    slots := fun s hs => by
      obtain ⟨t, ht, rfl⟩ := List.mem_map.mp hs
      exact ⟨t, ht, rfl⟩
    writes := fun t ht hr w hw => by
      refine ⟨_, List.mem_map.mpr ⟨t, ht, rfl⟩, rfl, hr, rfl, _, List.mem_map.mpr ⟨w, hw, rfl⟩, ?_⟩
      split <;> rfl }

/-- The writes of recopies alone may be dropped: those of an offload stay. -/
theorem Part.lessens_dropWrites (p : Part) (test : Slot → SlotWrite → Bool)
    (h : ∀ s w, s.recopy = false → test s w = false) : p.Lessens (p.dropWrites test) :=
  { Part.Lessens.refl p with
    slots := fun s hs => by
      obtain ⟨t, ht, rfl⟩ := List.mem_map.mp (List.mem_filter.mp hs).1
      exact ⟨t, ht, rfl⟩
    writes := fun t ht hr w hw => by
      have hmem : w ∈ t.writes.filter fun w => !test t w :=
        List.mem_filter.mpr ⟨hw, by rw [h t w hr]; rfl⟩
      refine ⟨_, List.mem_filter.mpr ⟨List.mem_map.mpr ⟨t, ht, rfl⟩, ?_⟩, rfl, hr, rfl, w, hmem, rfl⟩
      dsimp only
      cases hf : t.writes.filter fun w => !test t w
      · rw [hf] at hmem
        exact absurd hmem List.not_mem_nil
      · rfl }

/-! ### The evaluation of a card (R8) -/

theorem Part.lessens_crossing (p : Part) (i : Nat) (st : CardState) (hst : st.Evaluated)
    (h : ∀ c, p.card i = some c → c.state.Evaluated) :
    p.Lessens (p.modCard i fun c => { c with state := st }).raiseCustody :=
  (p.lessens_modCard i (fun c => { c with state := st }) (fun _ => rfl) fun c hc => Or.inr ⟨h c hc, hst⟩).trans
    { Part.Lessens.refl (p.modCard i fun c => { c with state := st }) with }

theorem Part.lessens_evaluate (p : Part) (i : Nat) : p.Lessens (p.evaluate i) := by
  unfold Part.evaluate
  split
  next card hcard =>
    have hstate : ∀ c, p.card i = some c → c = card := fun c hc => Option.some.inj (hc.symm.trans hcard)
    split
    next h =>
      refine p.lessens_crossing i .secured (Or.inr rfl) fun c hc => Or.inl ?_
      rw [hstate c hc]
      exact h.1
    next =>
      split
      next h =>
        refine p.lessens_crossing i .held (Or.inl rfl) fun c hc => Or.inr ?_
        rw [hstate c hc]
        exact h.1
      next => exact Part.Lessens.refl p
  next => exact Part.Lessens.refl p

theorem Part.lessens_evaluateClip (p : Part) (i : Nat) : p.Lessens (p.evaluateClip i) := by
  unfold Part.evaluateClip
  split
  next => exact p.lessens_evaluate _
  next => exact Part.Lessens.refl p

/-! ### The loss of a source (R173) -/

theorem VolumeOut.withdrawPreview_write (c : Fin 2) {o : VolumeOut} {w : WriteOwner} {k : CopyKey} {n : Nat} {b : Stored}
    (h : o.request = .write w k n b) : o.withdrawPreview c = o :=
  VolumeOut.withdrawPreview_of_other fun _ _ hr => nomatch h.symm.trans hr

theorem Part.lessens_withdrawRead (p : Part) (c : Fin 2) : p.Lessens (p.withdrawRead c) := by
  unfold Part.withdrawRead
  refine (Part.lessens_each _ _ (fun q d => ?dest) _).trans
    ((Part.lessens_each _ _ (fun q l => ?reader) _).trans (Part.lessens_modChannel _ c _))
  case dest =>
    refine q.lessens_modDest d _ ⟨rfl, List.filter_sublist, List.Sublist.refl _, Or.inl rfl, ?_⟩
    intro o id k n b ho hr
    exact (congrArg (Option.map _) ho).trans (congrArg some (VolumeOut.withdrawPreview_write c hr))
  case reader =>
    refine q.lessens_modReader l _ (ReaderLane.Lessens.trans (x := { q.reader l with
      previews := (q.reader l).previews.filter fun i => i.channel != c }) ?_ (ReaderLane.Lessens.of_abandon _))
    exact ⟨rfl, Or.inl ⟨rfl, rfl⟩, Or.inl rfl⟩

theorem Part.lessens_noSource (p : Part) (c : Fin 2) (i : Nat) : p.Lessens (p.noSource c i) := by
  rw [p.noSource_eq]
  exact p.lessens_modChannel c _

theorem Part.lessens_loseSource (p : Part) (c : Fin 2) : p.Lessens (p.loseSource c) := by
  unfold Part.loseSource
  split
  next =>
    dsimp only
    split
    next => exact (p.lessens_withdrawRead c).trans (Part.lessens_modChannel _ c _)
    next => exact (p.lessens_withdrawRead c).trans (Part.lessens_noSource _ c _)
  next => exact Part.Lessens.refl p

theorem Part.lessens_loseAll (p : Part) (s : Source) : p.Lessens (p.loseAll s) := by
  refine Part.lessens_each _ _ (fun q c => ?_) p
  split
  next => exact q.lessens_loseSource c
  next => exact Part.Lessens.refl q

theorem Part.lessens_loseCopy (p : Part) (i v : Nat) : p.Lessens (p.loseCopy i v) := by
  refine Part.lessens_each _ _ (fun q c => ?_) p
  split
  next => exact q.lessens_loseSource c
  next => exact Part.Lessens.refl q

/-! ### An entry removed (R14) -/

theorem Clip.copyOn_removeCopy_self (c : Clip) (v : Nat) : (c.removeCopy v).copyOn v = none := by
  refine List.find?_eq_none.mpr fun e he => ?_
  have hne := (List.mem_filter.mp he).2
  simpa using hne

theorem Clip.copyOn_removeCopy_other (c : Clip) {v w : Nat} (h : w ≠ v) : (c.removeCopy v).copyOn w = c.copyOn w := by
  unfold Clip.copyOn Clip.removeCopy
  rw [List.find?_filter]
  refine congrArg (fun f => List.find? f c.copies) (funext fun e => ?_)
  by_cases he : e.vol = w
  · have hv : e.vol ≠ v := he ▸ h
    simp [he, h]
  · simp [he]

theorem Clip.copyOn_removeCopy (c : Clip) (v w : Nat) :
    (c.removeCopy v).copyOn w = c.copyOn w ∨ (c.removeCopy v).copyOn w = none := by
  by_cases h : w = v
  · exact Or.inr (h ▸ c.copyOn_removeCopy_self v)
  · exact Or.inl (c.copyOn_removeCopy_other h)

theorem Part.lessens_dropCopy (p : Part) (i v : Nat) : p.Lessens (p.dropCopy i v) :=
  (p.lessens_modClip i (fun c => c.removeCopy v) (fun _ => rfl) fun c => c.copyOn_removeCopy v).trans
    ((Part.lessens_evaluateClip _ i).trans (Part.lessens_loseCopy _ i v))

/-! ### The end of a recopy (R108) -/

theorem Part.lessens_claimRelease (p : Part) (v : Nat) (k : CopyKey) : p.Lessens (p.claimRelease v k) := by
  unfold Part.claimRelease
  split
  next d _ =>
    split
    next =>
      exact p.lessens_modDest d _ ⟨rfl, List.Sublist.refl _, List.Sublist.refl _, Or.inl rfl, fun _ _ _ _ _ h _ => h⟩
    next => exact Part.Lessens.refl p
  next => exact Part.Lessens.refl p

theorem Part.lessens_termDest (p : Part) (d : Fin 4) (t : Termination) : p.Lessens (p.termDest d t) :=
  p.lessens_modDest d _ ⟨rfl, List.Sublist.refl _, List.Sublist.refl _, Or.inl rfl, fun _ _ _ _ _ h _ => h⟩

theorem Part.lessens_withdrawRecopyReads (p : Part) (d : Fin 4) : p.Lessens (p.withdrawRecopyReads d) := by
  unfold Part.withdrawRecopyReads
  refine (Part.lessens_each _ _ (fun q e => ?dest) _).trans (Part.lessens_each _ _ (fun q l => ?reader) _)
  case dest =>
    refine q.lessens_modDest e _ ⟨rfl, List.Sublist.refl _, List.filter_sublist, Or.inl rfl, ?_⟩
    intro o id k n b ho hr
    exact (congrArg (Option.map _) ho).trans (congrArg some (by dsimp only; rw [hr]))
  case reader => exact q.lessens_modReader l _ (ReaderLane.Lessens.of_abandon _)

theorem Part.lessens_withdrawRecopyWrites (p : Part) (d : Fin 4) : p.Lessens (p.withdrawRecopyWrites d) := by
  refine p.lessens_modDest d _ ⟨rfl, List.Sublist.refl _, List.filter_sublist, Or.inl rfl, ?_⟩
  intro o id k n b ho hr
  exact (congrArg (Option.map _) ho).trans (congrArg some (by dsimp only; rw [hr]))

theorem Part.lessens_releaseReader (p : Part) (x : RecopyCtx) : p.Lessens (p.releaseReader x) := by
  unfold Part.releaseReader
  split
  next l _ =>
    refine (p.lessens_leaveQueue l).trans ((Part.lessens_dropWrites _ _ fun s w hr => ?_).trans
      ((Part.lessens_orphanWrites _ _).trans (Part.lessens_modReader _ l _ ⟨rfl, Or.inl ⟨rfl, rfl⟩, Or.inr rfl⟩)))
    rw [hr, Bool.and_false, Bool.false_and]
  next => exact Part.Lessens.refl p

theorem Part.explicit_of_recopyOf {p : Part} {d : Fin 4} {x : RecopyCtx} (h : p.recopyOf d = some x) :
    (p.dest d).explicit = some (.recopy x) := by
  unfold Part.recopyOf at h
  split at h
  next y hy => rw [hy, Option.some.inj h]
  next => exact nomatch h

theorem Part.recopyOf_of_explicit {p : Part} {d : Fin 4} {x : RecopyCtx} (h : (p.dest d).explicit = some (.recopy x)) :
    p.recopyOf d = some x := by
  unfold Part.recopyOf
  rw [h]

theorem Part.explicit_outline {p q : Part} (h : q.outline = p.outline) (d : Fin 4) :
    (q.dest d).explicit = (p.dest d).explicit :=
  congrArg (fun o => (o.2.2 d).2) h

theorem Part.lessens_detachRecopy {p : Part} {d : Fin 4} {x : RecopyCtx} (h : p.recopyOf d = some x) :
    p.Lessens (p.detachRecopy d x) := by
  have hbefore : (((p.withdrawRecopyReads d).withdrawRecopyWrites d).releaseReader x).outline = p.outline :=
    (Part.outline_releaseReader _ x).trans
      ((Part.outline_withdrawRecopyWrites _ d).trans (p.outline_withdrawRecopyReads d))
  have hex := (Part.explicit_outline hbefore d).trans (Part.explicit_of_recopyOf h)
  exact (p.lessens_withdrawRecopyReads d).trans ((Part.lessens_withdrawRecopyWrites _ d).trans
    ((Part.lessens_releaseReader _ x).trans (Part.lessens_modDest _ d _
      ⟨rfl, List.Sublist.refl _, List.Sublist.refl _, Or.inr ⟨rfl, x, hex⟩, fun _ _ _ _ _ h _ => h⟩)))

theorem Part.lessens_dropRecopy (p : Part) (d : Fin 4) : p.Lessens (p.dropRecopy d) := by
  cases h : p.recopyOf d
  case none =>
    rw [Part.dropRecopy_of_none h]
    exact Part.Lessens.refl p
  case some x =>
    rw [Part.dropRecopy_of_some h]
    split
    next => exact (Part.lessens_detachRecopy h).trans ((Part.lessens_dropCopy _ _ _).trans (Part.lessens_claimRelease _ _ _))
    next => exact (Part.lessens_detachRecopy h).trans (Part.lessens_dropCopy _ _ _)

theorem Part.lessens_endRecopy (p : Part) (d : Fin 4) (cls : TermClass) (cause : Cause) (detail : Detail) :
    p.Lessens (p.endRecopy d cls cause detail) := by
  unfold Part.endRecopy
  split
  next => exact (p.lessens_dropRecopy d).trans (Part.lessens_termDest _ d _)
  next => exact Part.Lessens.refl p

theorem Part.lessens_loseRecopies (p : Part) (test : RecopyCtx → Bool) (detail : RecopyCtx → Detail) :
    p.Lessens (p.loseRecopies test detail) := by
  refine Part.lessens_each _ _ (fun q d => ?_) p
  split
  next =>
    split
    next => exact q.lessens_endRecopy _ _ _ _
    next => exact Part.Lessens.refl q
  next => exact Part.Lessens.refl q

theorem Part.lessens_loseRecopyReader (p : Part) (l : Fin 6) (detail : Detail) :
    p.Lessens (p.loseRecopyReader l detail) := by
  unfold Part.loseRecopyReader
  split
  next => exact p.lessens_endRecopy _ _ _ _
  next => exact Part.Lessens.refl p

/-! ### A WRITING entry of an offload removed (R61) -/

theorem Part.lessens_copyGone (p : Part) (i v : Nat) : p.Lessens (p.copyGone i v) := by
  unfold Part.copyGone Part.loseRecopyCopy
  exact (p.lessens_dropCopy i v).trans (Part.lessens_loseRecopies _ _ _)

theorem Part.lessens_setProgress (p : Part) (i v : Nat) (x : Option CopyProgress) : p.Lessens (p.setProgress i v x) := by
  unfold Part.setProgress
  split
  next d _ =>
    exact p.lessens_modDest d _ ⟨rfl, List.Sublist.refl _, List.Sublist.refl _, Or.inl rfl, fun _ _ _ _ _ h _ => h⟩
  next => exact Part.Lessens.refl p

theorem Part.lessens_modTally (p : Part) (l : Fin 6) (f : List Tally → List Tally) :
    p.Lessens (p.modOffload l fun x => { x with tally := f x.tally }) := by
  refine p.lessens_modReader l _ ⟨?_, Or.inl ⟨rfl, rfl⟩, Or.inl rfl⟩
  unfold ReaderLane.gist
  dsimp only
  cases (p.reader l).offload <;> rfl

theorem Part.lessens_countCopied (p : Part) (i : Nat) :
    p.Lessens (p.modCard i fun c => { c with copied := c.copied + 1 }) :=
  p.lessens_modCard i _ (fun _ => rfl) fun _ _ => Or.inl rfl

theorem Part.lessens_leaveTally (p : Part) (i v : Nat) (written : Bool) : p.Lessens (p.leaveTally i v written) := by
  unfold Part.leaveTally
  split
  next l _ =>
    split
    next x _ =>
      split
      next t _ =>
        dsimp only
        split
        next => exact Part.Lessens.refl p
        next =>
          split
          next =>
            split
            next =>
              exact (p.lessens_modTally l fun _ => x.tally.filter fun t => t.clip != i).trans
                (Part.lessens_countCopied _ x.card)
            next => exact p.lessens_modTally l fun _ => x.tally.filter fun t => t.clip != i
          next =>
            exact p.lessens_modTally l fun ys =>
              modWhere ys (fun t => t.clip == i) fun y =>
                { y with volumes := t.volumes.filter (· != v), written := t.written || written }
      next => exact Part.Lessens.refl p
    next => exact Part.Lessens.refl p
  next => exact Part.Lessens.refl p

theorem Part.lessens_removeWriting (p : Part) (i v : Nat) : p.Lessens (p.removeWriting i v) := by
  unfold Part.removeWriting
  split
  next c _ =>
    split
    next =>
      have hclaim : p.Lessens (if 0 < (p.progressOf i v).written then p.claimRelease v (c.key false) else p) := by
        split
        next => exact p.lessens_claimRelease v _
        next => exact Part.Lessens.refl p
      exact hclaim.trans ((Part.lessens_setProgress _ i v none).trans ((Part.lessens_orphanWrites _ _).trans
        ((Part.lessens_copyGone _ i v).trans (Part.lessens_leaveTally _ i v false))))
    next => exact Part.Lessens.refl p
  next => exact Part.Lessens.refl p

end Sys2Proof.Machine

/-! The operation of a reader lane cut off: what the loss of all sources on a card, an offload ended early, an erase ended and
a mount ended leave of the lane and of the records. -/

namespace Sys2Proof.Machine

/-! ### Sources lost leave the records alone -/

def Part.records (p : Part) : Table Card × Table Clip × Pool × Table Volume := (p.cards, p.clips, p.pool, p.volumes)

theorem Part.records_each {α : Type} (xs : List α) (f : Part → α → Part) (h : ∀ q x, (f q x).records = q.records) :
    ∀ p : Part, (p.each xs f).records = p.records := by
  induction xs with
  | nil => exact fun _ => rfl
  | cons x xs ih => exact fun p => (ih (f p x)).trans (h p x)

theorem Part.records_withdrawRead (p : Part) (c : Fin 2) : (p.withdrawRead c).records = p.records := by
  rw [p.withdrawRead_eq]
  rfl

theorem Part.records_modChannel (p : Part) (c : Fin 2) (f : Channel → Channel) : (p.modChannel c f).records = p.records :=
  rfl

theorem Part.records_noSource (p : Part) (c : Fin 2) (i : Nat) : (p.noSource c i).records = p.records := by
  rw [p.noSource_eq]
  rfl

theorem Part.records_loseSource (p : Part) (c : Fin 2) : (p.loseSource c).records = p.records := by
  unfold Part.loseSource
  split
  next =>
    dsimp only
    split
    next => exact (Part.records_modChannel _ c _).trans (p.records_withdrawRead c)
    next => exact (Part.records_noSource _ c _).trans (p.records_withdrawRead c)
  next => rfl

theorem Part.records_loseAll (p : Part) (s : Source) : (p.loseAll s).records = p.records := by
  unfold Part.loseAll
  refine Part.records_each _ _ (fun q c => ?_) p
  split
  next => exact q.records_loseSource c
  next => rfl

theorem Part.outline_loseAll (p : Part) (s : Source) : (p.loseAll s).outline = p.outline := by
  unfold Part.loseAll
  refine Part.outline_each _ _ (fun q c => ?_) p
  split
  next => exact q.outline_loseSource c
  next => rfl

theorem Part.dest_term_of_outline {p q : Part} (h : q.outline = p.outline) (d : Fin 4) :
    (q.dest d).term = (p.dest d).term :=
  congrArg (fun o => (o.2.2 d).1) h

/-! ### The lanes of the cards -/

/-- Where the cards are. -/
def Part.lanes (p : Part) : Table (Option (Fin 6)) := p.cards.map fun e => (e.1, e.2.lane)

theorem Part.boundCard_eq (p : Part) (l : Fin 6) :
    p.boundCard l = (p.lanes.find? fun e => e.2 == some l).map (·.1) := by
  rw [Part.boundCard, Part.lanes, List.find?_map, Option.map_map]
  rfl

theorem Part.boundCard_of_lanes {p q : Part} (h : q.lanes = p.lanes) (l : Fin 6) : q.boundCard l = p.boundCard l := by
  rw [Part.boundCard_eq, Part.boundCard_eq, h]

theorem Part.lane_of_lanes {p q : Part} (h : q.lanes = p.lanes) (i : Nat) :
    (q.card i).map Card.lane = (p.card i).map Card.lane := by
  have hg := congrArg (fun t => tget t i) h
  simp only [Part.lanes, tget_map] at hg
  exact hg

theorem Part.RecordsLessen.lanes {p q : Part} (h : p.RecordsLessen q) : q.lanes = p.lanes := by
  have hg := congrArg (List.map fun e : Nat × Card => (e.1, e.2.lane)) h.cards
  simp only [List.map_map] at hg
  exact hg

theorem Part.lanes_modCard (p : Part) (i : Nat) (f : Card → Card) (h : ∀ c, (f c).lane = c.lane) :
    (p.modCard i f).lanes = p.lanes :=
  map_tmod Card.lane p.cards i f h

theorem Part.lanes_holdCard (p : Part) (i : Nat) : (p.holdCard i).lanes = p.lanes :=
  (Part.lessens_evaluate _ i).lanes.trans (p.lanes_modCard i _ fun _ => rfl)

/-! ### A card unbound (R2) -/

theorem Part.unbindCard_of_bound {p : Part} {l : Fin 6} {i : Nat} (h : p.boundCard l = some i) :
    p.unbindCard l = (p.modCard i fun c => { c with lane := none }).loseAll (.card i) := by
  unfold Part.unbindCard
  rw [h]

theorem Part.unbindCard_of_free {p : Part} {l : Fin 6} (h : p.boundCard l = none) : p.unbindCard l = p := by
  unfold Part.unbindCard
  rw [h]

theorem Part.outline_unbindCard (p : Part) (l : Fin 6) : (p.unbindCard l).outline = p.outline := by
  cases h : p.boundCard l
  case none => rw [Part.unbindCard_of_free h]
  case some i =>
    rw [Part.unbindCard_of_bound h]
    exact Part.outline_loseAll _ _

theorem Part.clips_unbindCard (p : Part) (l : Fin 6) : (p.unbindCard l).clips = p.clips := by
  cases h : p.boundCard l
  case none => rw [Part.unbindCard_of_free h]
  case some i =>
    rw [Part.unbindCard_of_bound h]
    exact congrArg (fun r => r.2.1) (Part.records_loseAll _ _)

theorem Part.pool_unbindCard (p : Part) (l : Fin 6) : (p.unbindCard l).pool = p.pool := by
  cases h : p.boundCard l
  case none => rw [Part.unbindCard_of_free h]
  case some i =>
    rw [Part.unbindCard_of_bound h]
    exact congrArg (fun r => r.2.2.1) (Part.records_loseAll _ _)

theorem Part.reader_unbindCard (p : Part) (l k : Fin 6) : (p.reader k).Lessens ((p.unbindCard l).reader k) := by
  cases h : p.boundCard l
  case none =>
    rw [Part.unbindCard_of_free h]
    exact ReaderLane.Lessens.refl _
  case some i =>
    rw [Part.unbindCard_of_bound h]
    have h := (Part.lessens_loseAll (p.modCard i fun c => { c with lane := none }) (.card i)).readers k
    exact h

/-- An unbound card is the one it was, or that one with no lane; the one bound to the lane has none. -/
theorem Part.card_unbindCard {p : Part} {l : Fin 6} {i : Nat} {e : Card} (h : (p.unbindCard l).card i = some e) :
    ∃ c, p.card i = some c ∧ (e = c ∨ e = { c with lane := none }) ∧ (p.boundCard l = some i → e.lane = none) := by
  cases hb : p.boundCard l
  case none =>
    rw [Part.unbindCard_of_free hb] at h
    exact ⟨e, h, Or.inl rfl, fun hc => nomatch hc⟩
  case some k =>
    rw [Part.unbindCard_of_bound hb] at h
    have hcards : ((p.modCard k fun c => { c with lane := none }).loseAll (.card k)).cards =
        tmod p.cards k fun c => { c with lane := none } :=
      congrArg (fun r => r.1) (Part.records_loseAll _ _)
    have he : tget (tmod p.cards k fun c => { c with lane := none }) i = some e := hcards ▸ h
    rw [tget_tmod] at he
    by_cases hk : i = k
    · rw [if_pos hk, Option.map_eq_some_iff] at he
      obtain ⟨c, hc, rfl⟩ := he
      exact ⟨c, hc, Or.inr rfl, fun _ => rfl⟩
    · rw [if_neg hk] at he
      exact ⟨e, he, Or.inl rfl, fun hc => absurd (Option.some.inj hc).symm hk⟩

/-! ### A lane cut off -/

/-- A reader lane but for its operation and for what a loss takes of it. -/
def ReaderLane.shell (r : ReaderLane) : ReaderLane :=
  { r.gist with state := .empty, mountPending := false, mount := none, offload := none, erase := none,
                analyzer := Analyzer.cleared, term := TermSlot.none }

/-- The lane has lost its operation, and is where it was or in `dst`. -/
structure ReaderLane.Cut (dst : ReaderState) (r x : ReaderLane) : Prop where
  shell : x.shell = r.shell
  link : (x.out = r.out ∧ x.retries = r.retries) ∨ (x.out = none ∧ x.retries = 0)
  state : x.state = r.state ∨ x.state = dst

theorem ReaderLane.Cut.refl (dst : ReaderState) (r : ReaderLane) : r.Cut dst r := ⟨rfl, Or.inl ⟨rfl, rfl⟩, Or.inl rfl⟩

theorem ReaderLane.Cut.trans {dst : ReaderState} {r x y : ReaderLane} (h : r.Cut dst x) (k : x.Cut dst y) :
    r.Cut dst y where
  shell := k.shell.trans h.shell
  link := by
    rcases k.link with ⟨ho, hn⟩ | hk
    · rw [ho, hn]
      exact h.link
    · exact Or.inr hk
  state := by
    rcases k.state with hs | hs
    · rw [hs]
      exact h.state
    · exact Or.inr hs

theorem ReaderLane.Lessens.state {r x : ReaderLane} (h : r.Lessens x) : x.state = r.state := by
  have hg := congrArg ReaderLane.state h.gist
  exact hg

theorem ReaderLane.Lessens.cut {r x : ReaderLane} (h : r.Lessens x) (dst : ReaderState) : r.Cut dst x where
  shell := congrArg
    (fun g : ReaderLane => { g with state := .empty, mountPending := false, mount := none, offload := none, erase := none,
                                    analyzer := Analyzer.cleared, term := TermSlot.none }) h.gist
  link := h.link
  state := Or.inl h.state

/-! ### The clips lose their WRITING entries (R60, R61) -/

/-- The clip has no WRITING entry of origin OFFLOAD on the volume. -/
def Part.Unwritten (p : Part) (i v : Nat) : Prop := ∀ c, p.clip i = some c → c.offloadWriting v = false

theorem Clip.offloadWriting_of_copyOn {c e : Clip} {v : Nat} (h : e.copyOn v = c.copyOn v) :
    e.offloadWriting v = c.offloadWriting v := by
  unfold Clip.offloadWriting
  rw [h]

theorem Clip.offloadWriting_of_none {c : Clip} {v : Nat} (h : c.copyOn v = none) : c.offloadWriting v = false := by
  unfold Clip.offloadWriting
  rw [h]

theorem Part.RecordsLessen.unwritten {p q : Part} (h : p.RecordsLessen q) {i v : Nat} (hp : p.Unwritten i v) :
    q.Unwritten i v := by
  intro e he
  obtain ⟨c, hc, _⟩ := h.clip_of_some he
  rcases h.copies i c e v hc he with heq | hnone
  · rw [Clip.offloadWriting_of_copyOn heq]
    exact hp c hc
  · exact Clip.offloadWriting_of_none hnone

theorem Part.unwritten_dropCopy (p : Part) (i v : Nat) : (p.dropCopy i v).Unwritten i v := by
  have hmod : (p.modClip i fun c => c.removeCopy v).Unwritten i v := by
    intro e he
    have he' : tget (tmod p.clips i fun c => c.removeCopy v) i = some e := he
    rw [tget_tmod, if_pos rfl, Option.map_eq_some_iff] at he'
    obtain ⟨c, _, rfl⟩ := he'
    exact Clip.offloadWriting_of_none (c.copyOn_removeCopy_self v)
  exact ((Part.lessens_evaluateClip _ i).trans (Part.lessens_loseCopy _ i v)).unwritten hmod

theorem Part.unwritten_copyGone (p : Part) (i v : Nat) : (p.copyGone i v).Unwritten i v := by
  unfold Part.copyGone Part.loseRecopyCopy
  exact (Part.lessens_loseRecopies _ _ _).unwritten (p.unwritten_dropCopy i v)

theorem Part.unwritten_removeWriting (p : Part) (i v : Nat) : (p.removeWriting i v).Unwritten i v := by
  unfold Part.removeWriting
  split
  next c hc =>
    split
    next => exact (Part.lessens_leaveTally _ i v false).unwritten (Part.unwritten_copyGone _ i v)
    next h =>
      intro e he
      rw [hc] at he
      rw [← Option.some.inj he]
      exact Bool.eq_false_of_not_eq_true h
  next hc =>
    intro e he
    rw [hc] at he
    exact nomatch he

theorem Part.unwritten_each {α : Type} (xs : List α) (f : Part → α → Part) (h : ∀ (q : Part) x, q.Lessens (f q x))
    {i v : Nat} {x : α} (hx : x ∈ xs) (hu : ∀ q, (f q x).Unwritten i v) : ∀ p : Part, (p.each xs f).Unwritten i v := by
  induction xs with
  | nil => exact absurd hx List.not_mem_nil
  | cons y ys ih =>
    intro p
    rcases List.mem_cons.mp hx with rfl | hmem
    · exact (Part.lessens_each ys f h (f p x)).unwritten (hu p)
    · exact ih hmem (f p y)

theorem Clip.mem_writingVolumes {c : Clip} {v : Nat} (h : c.offloadWriting v = true) : v ∈ c.writingVolumes := by
  refine List.mem_filter.mpr ⟨?_, h⟩
  cases he : c.copyOn v
  case none =>
    rw [Clip.offloadWriting_of_none he] at h
    exact absurd h Bool.false_ne_true
  case some e =>
    have hv : e.vol = v := by simpa using List.find?_some he
    exact hv ▸ List.mem_map.mpr ⟨e, List.mem_of_find?_eq_some he, rfl⟩

/-- Every WRITING entry of a clip is gone when those it had are removed. -/
theorem Part.unwritten_writingVolumes {p : Part} {i : Nat} {c : Clip} (hc : p.clip i = some c) (v : Nat) :
    (p.each c.writingVolumes fun q v => q.removeWriting i v).Unwritten i v := by
  have hless (q : Part) (v : Nat) : q.Lessens (q.removeWriting i v) := q.lessens_removeWriting i v
  by_cases h : c.offloadWriting v = true
  · exact Part.unwritten_each _ (fun q v => q.removeWriting i v) hless (Clip.mem_writingVolumes h)
      (fun q => q.unwritten_removeWriting i v) p
  · refine (Part.lessens_each _ (fun q v => q.removeWriting i v) hless p).unwritten fun e he => ?_
    rw [hc] at he
    rw [← Option.some.inj he]
    exact Bool.eq_false_of_not_eq_true h

/-! ### The clip of an offload abandoned (R60) -/

theorem Part.recordsLessen_modReader (p : Part) (l : Fin 6) (f : ReaderLane → ReaderLane) :
    p.RecordsLessen (p.modReader l f) :=
  { Part.RecordsLessen.refl p with }

theorem Part.recordsLessen_setSlots (p : Part) (f : List Slot → List Slot) : p.RecordsLessen (p.setSlots f) :=
  { Part.RecordsLessen.refl p with }

/-- The steps of an abandonment after its current clip is known. -/
theorem Part.abandonClip_of_some {p : Part} {l : Fin 6} {cur : Current}
    (h : (p.reader l).offload.bind (·.current) = some cur) :
    p.abandonClip l =
      let q := p.clearAnalyzer l
      let q := match q.clip cur.clip with
        | some c => q.each c.writingVolumes fun p v => p.removeWriting cur.clip v
        | none => q
      ((q.cancelClip l cur.clip).leaveQueue l).modOffload l fun x => { x with current := none } := by
  unfold Part.abandonClip
  simp only [h] <;> rfl

theorem Part.abandonClip_of_none {p : Part} {l : Fin 6} (h : (p.reader l).offload.bind (·.current) = none) :
    p.abandonClip l = p := by
  unfold Part.abandonClip
  rw [h]

/-- An abandonment in three steps: the analyzer, the entries, the writes with the claim. -/
theorem Part.abandonClip_steps {p : Part} {l : Fin 6} {cur : Current}
    (h : (p.reader l).offload.bind (·.current) = some cur) :
    ∃ q : Part, (p.clearAnalyzer l).Lessens q ∧ (∀ v, q.Unwritten cur.clip v) ∧
      p.abandonClip l = ((q.cancelClip l cur.clip).leaveQueue l).modOffload l fun x => { x with current := none } := by
  rw [Part.abandonClip_of_some h]
  dsimp only
  cases hc : (p.clearAnalyzer l).clip cur.clip
  case none =>
    refine ⟨p.clearAnalyzer l, Part.Lessens.refl _, fun v e he => ?_, rfl⟩
    rw [hc] at he
    exact nomatch he
  case some c =>
    exact ⟨_, Part.lessens_each _ _ (fun q v => q.lessens_removeWriting cur.clip v) _,
      fun v => Part.unwritten_writingVolumes hc v, rfl⟩

theorem Part.recordsLessen_abandonClip (p : Part) (l : Fin 6) : p.RecordsLessen (p.abandonClip l) := by
  cases h : (p.reader l).offload.bind (·.current)
  case none =>
    rw [Part.abandonClip_of_none h]
    exact Part.RecordsLessen.refl p
  case some cur =>
    obtain ⟨q, hq, _, heq⟩ := Part.abandonClip_steps h
    have hclear : p.RecordsLessen (p.clearAnalyzer l) :=
      p.recordsLessen_modReader l fun r => { r with analyzer := Analyzer.cleared }
    have hcancel : q.RecordsLessen (q.cancelClip l cur.clip) := by
      unfold Part.cancelClip Part.dropWrites
      exact q.recordsLessen_setSlots _
    rw [heq]
    exact hclear.trans (hq.toRecordsLessen.trans (hcancel.trans
      ((Part.lessens_leaveQueue _ l).toRecordsLessen.trans (Part.recordsLessen_modReader _ l _))))

theorem Part.unwritten_abandonClip {p : Part} {l : Fin 6} {cur : Current}
    (h : (p.reader l).offload.bind (·.current) = some cur) (v : Nat) : (p.abandonClip l).Unwritten cur.clip v := by
  obtain ⟨q, _, hu, heq⟩ := Part.abandonClip_steps h
  rw [heq]
  exact fun c hc => hu v c hc

theorem ReaderLane.Lessens.offload_card {r x : ReaderLane} (h : r.Lessens x) :
    x.offload.map (·.card) = r.offload.map (·.card) := by
  have hg := congrArg (fun g : ReaderLane => g.offload.map (·.card)) h.gist
  simp only [ReaderLane.gist, Option.map_map] at hg
  exact hg

theorem Part.cut_abandonClip (p : Part) (l : Fin 6) (dst : ReaderState) :
    (p.reader l).Cut dst ((p.abandonClip l).reader l) ∧
      ((p.abandonClip l).reader l).offload.map (·.card) = (p.reader l).offload.map (·.card) := by
  cases h : (p.reader l).offload.bind (·.current)
  case none =>
    rw [Part.abandonClip_of_none h]
    exact ⟨ReaderLane.Cut.refl dst _, rfl⟩
  case some cur =>
    obtain ⟨q, hq, _, heq⟩ := Part.abandonClip_steps h
    have hr := hq.readers l
    have hclear : (p.clearAnalyzer l).reader l = { p.reader l with analyzer := Analyzer.cleared } :=
      Part.reader_modReader_self p l _
    have hlast : (p.abandonClip l).reader l =
        { q.reader l with offload := (q.reader l).offload.map fun x => { x with current := none } } := by
      rw [heq]
      exact Part.reader_modReader_self _ l _
    rw [hclear] at hr
    rw [hlast]
    have hcleared : (p.reader l).Cut dst { p.reader l with analyzer := Analyzer.cleared } :=
      ⟨rfl, Or.inl ⟨rfl, rfl⟩, Or.inl rfl⟩
    refine ⟨(hcleared.trans (hr.cut dst)).trans ⟨rfl, Or.inl ⟨rfl, rfl⟩, Or.inl rfl⟩, ?_⟩
    have hcard := hr.offload_card
    rw [← hcard]
    exact Option.map_map _ _ _

/-! ### An offload ended early (R64) -/

theorem Part.holdCard_eq (p : Part) (i : Nat) :
    ∃ cards attention, p.holdCard i = { p with cards := cards, attention := attention } := by
  unfold Part.holdCard Part.evaluate
  split
  next =>
    split
    next => exact ⟨_, _, rfl⟩
    next =>
      split
      next => exact ⟨_, _, rfl⟩
      next => exact ⟨_, p.attention, rfl⟩
  next => exact ⟨_, p.attention, rfl⟩

theorem Part.reader_holdCard (p : Part) (i : Nat) (l : Fin 6) : (p.holdCard i).reader l = p.reader l := by
  obtain ⟨cards, attention, h⟩ := p.holdCard_eq i
  rw [h]
  rfl

theorem Part.pool_holdCard (p : Part) (i : Nat) : (p.holdCard i).pool = p.pool := by
  obtain ⟨cards, attention, h⟩ := p.holdCard_eq i
  rw [h]

theorem Part.clips_holdCard (p : Part) (i : Nat) : (p.holdCard i).clips = p.clips := by
  obtain ⟨cards, attention, h⟩ := p.holdCard_eq i
  rw [h]

theorem Part.state_holdCard {p : Part} {i : Nat} {e : Card} (h : (p.holdCard i).card i = some e) :
    e.state.Evaluated := by
  have hless := Part.lessens_evaluate (p.modCard i fun c => { c with state := .held }) i
  obtain ⟨c, hc, _⟩ := hless.card_of_some h
  have hheld : c.state = .held := by
    have hc' : tget (tmod p.cards i fun c => { c with state := .held }) i = some c := hc
    rw [tget_tmod, if_pos rfl, Option.map_eq_some_iff] at hc'
    obtain ⟨_, _, rfl⟩ := hc'
    rfl
  rcases hless.states i c e hc h with hs | ⟨_, hs⟩
  · exact Or.inl (hs.trans hheld)
  · exact hs

/-- The lane gives up its offload, with its termination. -/
def Part.leaveOffload (p : Part) (l : Fin 6) (dst : ReaderState) (t : Termination) : Part :=
  (p.leaveQueue l).modReader l fun r =>
    { r.abandonOf .offload with state := dst, offload := none, term := { record := some t, unsensed := true } }

theorem Part.reader_leaveOffload (p : Part) (l : Fin 6) (dst : ReaderState) (t : Termination) :
    (p.leaveOffload l dst t).reader l =
      { (p.reader l).abandonOf .offload with
        state := dst, offload := none, term := { record := some t, unsensed := true } } :=
  Part.reader_modReader_self (p.leaveQueue l) l _

theorem Part.queue_leaveOffload (p : Part) (l : Fin 6) (dst : ReaderState) (t : Termination) :
    l ∉ (p.leaveOffload l dst t).pool.queue := by
  intro hmem
  have hne := (List.mem_filter.mp hmem).2
  simp at hne

/-- The termination of an offload ended early, by its counts. -/
def offloadEnd (x : OffloadCtx) (cls : TermClass) (cause : Cause) (detail : Detail) (counts : List Nat) : Termination :=
  { cls := cls, op := .offload, cause := cause, ref := .card x.card, counts := counts, detail := detail }

/-- The clip of an offload ended early, with its request, is abandoned first. -/
def Part.beforeEnd (p : Part) (l : Fin 6) : Part := (p.modReader l fun r => r.abandonOf .offload).abandonClip l

theorem Part.recordsLessen_beforeEnd (p : Part) (l : Fin 6) : p.RecordsLessen (p.beforeEnd l) :=
  (p.recordsLessen_modReader l _).trans (Part.recordsLessen_abandonClip _ l)

theorem Part.stopOffload_of_some {p : Part} {l : Fin 6} {x : OffloadCtx} (hx : (p.reader l).offload = some x)
    (dst : ReaderState) (cls : TermClass) (cause : Cause) (detail : Detail) :
    ∃ counts, p.stopOffload l dst cls cause detail =
      ((p.beforeEnd l).leaveOffload l dst (offloadEnd x cls cause detail counts)).holdCard x.card := by
  have hoff : ((p.beforeEnd l).reader l).offload.map (·.card) = some x.card := by
    rw [Part.beforeEnd, (Part.cut_abandonClip _ l dst).2, Part.reader_modReader_self,
      (ReaderLane.Lessens.of_abandon (r := p.reader l) .offload).offload_card, hx]
    rfl
  obtain ⟨y, hy, hcard⟩ := Option.map_eq_some_iff.mp hoff
  refine ⟨match (p.beforeEnd l).card y.card with
    | some c => [c.nextPos, c.copied, c.failed, c.skipped]
    | none => [], ?_⟩
  have hstop : p.stopOffload l dst cls cause detail = (p.beforeEnd l).endOffload l dst cls cause detail := rfl
  rw [hstop, Part.endOffload, hy]
  simp only [Part.dropOffload, Part.termReader, Part.leaveOffload, offloadEnd, Part.modReader_modReader, Part.offloadTerm,
    TermSlot.leave, hcard] <;> rfl

theorem Part.stopOffload_of_none {p : Part} {l : Fin 6} (hx : (p.reader l).offload = none)
    (dst : ReaderState) (cls : TermClass) (cause : Cause) (detail : Detail) :
    p.stopOffload l dst cls cause detail = p.modReader l fun r => r.abandonOf .offload := by
  have hoff : ((p.modReader l fun r => r.abandonOf .offload).reader l).offload = none := by
    rw [Part.reader_modReader_self, ReaderLane.abandonOf_eq]
    split <;> exact hx
  have hclip : (p.modReader l fun r => r.abandonOf .offload).abandonClip l =
      p.modReader l fun r => r.abandonOf .offload :=
    Part.abandonClip_of_none (by rw [hoff]; rfl)
  unfold Part.stopOffload Part.endOffload
  rw [hclip, hoff]

/-! ### An erase ended early (R72) -/

theorem Part.endErase_of_some {p : Part} {l : Fin 6} {x : EraseCtx} (hx : (p.reader l).erase = some x) (dst : ReaderState)
    (cls : TermClass) (cause : Cause) (detail : Detail) :
    p.endErase l dst cls cause detail =
      (p.abortErase x.card).modReader l fun r =>
        { r.abandonOf .erase with
          state := dst, erase := none
          term := { record := some (eraseTerm x cls cause detail), unsensed := true } } := by
  unfold Part.endErase Part.dropErase
  rw [hx]
  exact Part.modReader_modReader _ l _ _

theorem Part.endErase_of_none {p : Part} {l : Fin 6} (hx : (p.reader l).erase = none) (dst : ReaderState)
    (cls : TermClass) (cause : Cause) (detail : Detail) : p.endErase l dst cls cause detail = p := by
  unfold Part.endErase
  rw [hx]

theorem Part.state_abortErase {p : Part} {i : Nat} {c : Card} (h : (p.abortErase i).card i = some c) :
    c.state = .released ∧ c.eraseIncomplete = true ∧ c.erased = false := by
  have h' : tget (tmod p.cards i fun c => { c with state := .released, eraseIncomplete := true, erased := false }) i =
      some c := h
  rw [tget_tmod, if_pos rfl, Option.map_eq_some_iff] at h'
  obtain ⟨_, _, rfl⟩ := h'
  exact ⟨rfl, rfl, rfl⟩

/-! ### What a cut leaves of a lane, of the card lanes and of the clips -/

theorem ReaderLane.cut_abandonOf (r : ReaderLane) (o : ReaderOwner) (dst : ReaderState) : r.Cut dst (r.abandonOf o) :=
  (ReaderLane.Lessens.of_abandon o).cut dst

/-- The clips but for their copy lists. -/
def Part.clipGists (p : Part) : Table Clip := p.clips.map fun e => (e.1, e.2.gist)

theorem Part.clip_of_gists {p q : Part} (h : q.clipGists = p.clipGists) {i : Nat} {c : Clip} (hc : p.clip i = some c) :
    ∃ e, q.clip i = some e ∧ e.gist = c.gist := by
  have hg := clip_gist_of_clips h i
  rw [hc, Option.map_some, Option.map_eq_some_iff] at hg
  exact hg

theorem Part.cut_stopOffload (p : Part) (l : Fin 6) (dst : ReaderState) (cls : TermClass) (cause : Cause)
    (detail : Detail) : (p.reader l).Cut dst ((p.stopOffload l dst cls cause detail).reader l) := by
  have habandon : (p.reader l).Cut dst ((p.modReader l fun r => r.abandonOf .offload).reader l) := by
    rw [Part.reader_modReader_self]
    exact ReaderLane.cut_abandonOf _ _ dst
  cases hx : (p.reader l).offload
  case none =>
    rw [Part.stopOffload_of_none hx]
    exact habandon
  case some x =>
    obtain ⟨counts, heq⟩ := Part.stopOffload_of_some hx dst cls cause detail
    have hcut : (p.reader l).Cut dst ((p.beforeEnd l).reader l) := habandon.trans (Part.cut_abandonClip _ l dst).1
    rw [heq, Part.reader_holdCard, Part.reader_leaveOffload]
    exact (hcut.trans (ReaderLane.cut_abandonOf _ .offload dst)).trans ⟨rfl, Or.inl ⟨rfl, rfl⟩, Or.inr rfl⟩

theorem Part.lanes_stopOffload (p : Part) (l : Fin 6) (dst : ReaderState) (cls : TermClass) (cause : Cause)
    (detail : Detail) : (p.stopOffload l dst cls cause detail).lanes = p.lanes := by
  cases hx : (p.reader l).offload
  case none =>
    rw [Part.stopOffload_of_none hx]
    rfl
  case some x =>
    obtain ⟨counts, heq⟩ := Part.stopOffload_of_some hx dst cls cause detail
    rw [heq, Part.lanes_holdCard]
    exact (p.recordsLessen_beforeEnd l).lanes

theorem Part.clipGists_stopOffload (p : Part) (l : Fin 6) (dst : ReaderState) (cls : TermClass) (cause : Cause)
    (detail : Detail) : (p.stopOffload l dst cls cause detail).clipGists = p.clipGists := by
  cases hx : (p.reader l).offload
  case none =>
    rw [Part.stopOffload_of_none hx]
    rfl
  case some x =>
    obtain ⟨counts, heq⟩ := Part.stopOffload_of_some hx dst cls cause detail
    rw [heq, Part.clipGists, Part.clips_holdCard]
    exact (p.recordsLessen_beforeEnd l).clips

/-- What the end of an offload leaves: no context, no slot claim, its termination, a card evaluated, no WRITING entry of its
clip. -/
theorem Part.stopOffload_leaves {p : Part} {l : Fin 6} {x : OffloadCtx} (hx : (p.reader l).offload = some x)
    (dst : ReaderState) (cls : TermClass) (cause : Cause) (detail : Detail) :
    let q := p.stopOffload l dst cls cause detail
    (q.reader l).offload = none ∧ l ∉ q.pool.queue ∧
      (∃ counts, (q.reader l).term =
        { record := some (offloadEnd x cls cause detail counts), unsensed := true }) ∧
      (∀ c, q.card x.card = some c → c.state.Evaluated) ∧
      ∀ cur v, x.current = some cur → q.Unwritten cur.clip v := by
  intro q
  obtain ⟨counts, heq⟩ := Part.stopOffload_of_some hx dst cls cause detail
  have heq : q = _ := heq
  clear_value q
  subst heq
  refine ⟨?offload, ?queue, ⟨counts, ?term⟩, fun _ => Part.state_holdCard, ?unwritten⟩
  case offload => rw [Part.reader_holdCard, Part.reader_leaveOffload]
  case queue =>
    rw [Part.pool_holdCard]
    exact Part.queue_leaveOffload _ l dst _
  case term => rw [Part.reader_holdCard, Part.reader_leaveOffload]
  case unwritten =>
    intro cur v hcur c hc
    have hbind : ((p.modReader l fun r => r.abandonOf .offload).reader l).offload.bind (·.current) = some cur := by
      have habandon : ((p.reader l).abandonOf .offload).offload = some x := by
        rw [ReaderLane.abandonOf_eq]
        split <;> exact hx
      rw [Part.reader_modReader_self, habandon]
      exact hcur
    have hc' : tget ((p.beforeEnd l).leaveOffload l dst (offloadEnd x cls cause detail counts)).clips cur.clip = some c :=
      Part.clips_holdCard _ x.card ▸ hc
    exact Part.unwritten_abandonClip hbind v c hc'

end Sys2Proof.Machine

/-! The reader links: link events, and what a removal leaves of a lane and of its card. -/

namespace Sys2Proof.Machine

/-! ### A removal in steps (R40) -/

/-- The request outstanding goes with the card. -/
def Part.atRemoval (p : Part) (l : Fin 6) : Part :=
  p.modReader l fun r => { r with out := none, retries := 0, remountOwed := false }

/-- What a removal ends on the lane, by its state. -/
def Part.cutOff (p : Part) (l : Fin 6) : Part :=
  match (p.reader l).state with
  | .empty => p.modReader l fun r => { r with mountPending := false }
  | .mounting => p.failMount l .empty .readyChanged .cardRemoved (p.mountRef l) []
  | .bound => p.loseRecopyReader l .none
  | .offloading => p.stopOffload l .empty .readyChanged .cardRemoved .none
  | .erasing => p.endErase l .empty .readyChanged .cardRemoved .none
  | .noReader | .blank | .refused | .equipment => p

theorem Part.reader_atRemoval (p : Part) (l : Fin 6) :
    (p.atRemoval l).reader l = { p.reader l with out := none, retries := 0, remountOwed := false } :=
  Part.reader_modReader_self p l _

theorem Part.removal_steps (p : Part) (l : Fin 6) :
    p.removal l =
      let q := ((p.atRemoval l).cutOff l).unbindCard l
      if (q.reader l).state = .equipment ∨ (q.reader l).state = .noReader then q
      else q.modReader l fun r => { r with state := .empty } := rfl

theorem Part.cutOff_empty {p : Part} {l : Fin 6} (h : (p.reader l).state = .empty) :
    p.cutOff l = p.modReader l fun r => { r with mountPending := false } := by
  unfold Part.cutOff
  rw [h]

theorem Part.cutOff_mounting {p : Part} {l : Fin 6} (h : (p.reader l).state = .mounting) :
    p.cutOff l = p.failMount l .empty .readyChanged .cardRemoved (p.mountRef l) [] := by
  unfold Part.cutOff
  rw [h]

theorem Part.cutOff_bound {p : Part} {l : Fin 6} (h : (p.reader l).state = .bound) :
    p.cutOff l = p.loseRecopyReader l .none := by
  unfold Part.cutOff
  rw [h]

theorem Part.cutOff_offloading {p : Part} {l : Fin 6} (h : (p.reader l).state = .offloading) :
    p.cutOff l = p.stopOffload l .empty .readyChanged .cardRemoved .none := by
  unfold Part.cutOff
  rw [h]

theorem Part.cutOff_erasing {p : Part} {l : Fin 6} (h : (p.reader l).state = .erasing) :
    p.cutOff l = p.endErase l .empty .readyChanged .cardRemoved .none := by
  unfold Part.cutOff
  rw [h]

theorem Part.cutOff_idle {p : Part} {l : Fin 6}
    (h : (p.reader l).state = .noReader ∨ (p.reader l).state = .blank ∨ (p.reader l).state = .refused ∨
      (p.reader l).state = .equipment) : p.cutOff l = p := by
  unfold Part.cutOff
  rcases h with h | h | h | h <;> rw [h]

/-! ### What is cut off -/

theorem Part.cut_endErase (p : Part) (l : Fin 6) (dst : ReaderState) (cls : TermClass) (cause : Cause)
    (detail : Detail) : (p.reader l).Cut dst ((p.endErase l dst cls cause detail).reader l) := by
  cases hx : (p.reader l).erase
  case none =>
    rw [Part.endErase_of_none hx]
    exact ReaderLane.Cut.refl dst _
  case some x =>
    rw [Part.endErase_of_some hx, Part.reader_modReader_self]
    exact (ReaderLane.cut_abandonOf (p.reader l) .erase dst).trans ⟨rfl, Or.inl ⟨rfl, rfl⟩, Or.inr rfl⟩

theorem Part.lanes_endErase (p : Part) (l : Fin 6) (dst : ReaderState) (cls : TermClass) (cause : Cause)
    (detail : Detail) : (p.endErase l dst cls cause detail).lanes = p.lanes := by
  cases hx : (p.reader l).erase
  case none => rw [Part.endErase_of_none hx]
  case some x =>
    rw [Part.endErase_of_some hx]
    exact p.lanes_modCard x.card (fun c => { c with state := .released, eraseIncomplete := true, erased := false })
      fun _ => rfl

theorem Part.clipGists_endErase (p : Part) (l : Fin 6) (dst : ReaderState) (cls : TermClass) (cause : Cause)
    (detail : Detail) : (p.endErase l dst cls cause detail).clipGists = p.clipGists := by
  cases hx : (p.reader l).erase
  case none => rw [Part.endErase_of_none hx]
  case some x =>
    rw [Part.endErase_of_some hx]
    rfl

/-- The lane of a mount that fails, with its termination. -/
theorem Part.reader_failMount (p : Part) (l : Fin 6) (dst : ReaderState) (cls : TermClass) (cause : Cause)
    (ref : Reference) (counts : List Nat) (detail : Detail) :
    ∃ r, ({ p.reader l with state := dst, mount := none } : ReaderLane).Lessens r ∧
      (p.failMount l dst cls cause ref counts detail).reader l =
        { r with
          term :=
            { record := some { cls := cls, op := .mount, cause := cause, ref := ref, counts := counts, detail := detail }
              unsensed := true } } := by
  have hless := Part.reader_unbindCard (p.modReader l fun r => { r with state := dst, mount := none }) l l
  rw [Part.reader_modReader_self] at hless
  exact ⟨_, hless, Part.reader_modReader_self _ l _⟩

theorem Part.cut_failMount (p : Part) (l : Fin 6) (dst : ReaderState) (cls : TermClass) (cause : Cause)
    (ref : Reference) (counts : List Nat) (detail : Detail) :
    (p.reader l).Cut dst ((p.failMount l dst cls cause ref counts detail).reader l) := by
  obtain ⟨r, hr, heq⟩ := p.reader_failMount l dst cls cause ref counts detail
  have hstart : (p.reader l).Cut dst { p.reader l with state := dst, mount := none } :=
    ⟨rfl, Or.inl ⟨rfl, rfl⟩, Or.inr rfl⟩
  rw [heq]
  exact (hstart.trans (hr.cut dst)).trans ⟨rfl, Or.inl ⟨rfl, rfl⟩, Or.inl rfl⟩

theorem Part.clipGists_failMount (p : Part) (l : Fin 6) (dst : ReaderState) (cls : TermClass) (cause : Cause)
    (ref : Reference) (counts : List Nat) (detail : Detail) :
    (p.failMount l dst cls cause ref counts detail).clipGists = p.clipGists := by
  have hclips : (p.failMount l dst cls cause ref counts detail).clips = p.clips :=
    Part.clips_unbindCard (p.modReader l fun r => { r with state := dst, mount := none }) l
  unfold Part.clipGists
  rw [hclips]

theorem Part.cut_cutOff (p : Part) (l : Fin 6) : (p.reader l).Cut .empty ((p.cutOff l).reader l) := by
  cases h : (p.reader l).state
  case empty =>
    rw [Part.cutOff_empty h, Part.reader_modReader_self]
    exact ⟨rfl, Or.inl ⟨rfl, rfl⟩, Or.inl rfl⟩
  case mounting =>
    rw [Part.cutOff_mounting h]
    exact p.cut_failMount l _ _ _ _ _ _
  case bound =>
    rw [Part.cutOff_bound h]
    exact ((p.lessens_loseRecopyReader l .none).readers l).cut _
  case offloading =>
    rw [Part.cutOff_offloading h]
    exact p.cut_stopOffload l _ _ _ _
  case erasing =>
    rw [Part.cutOff_erasing h]
    exact p.cut_endErase l _ _ _ _
  all_goals
    rw [Part.cutOff_idle (by simp [h])]
    exact ReaderLane.Cut.refl _ _

theorem Part.clipGists_cutOff (p : Part) (l : Fin 6) : (p.cutOff l).clipGists = p.clipGists := by
  cases h : (p.reader l).state
  case empty =>
    rw [Part.cutOff_empty h]
    rfl
  case mounting =>
    rw [Part.cutOff_mounting h]
    exact p.clipGists_failMount l _ _ _ _ _ _
  case bound =>
    rw [Part.cutOff_bound h]
    exact (p.lessens_loseRecopyReader l .none).clips
  case offloading =>
    rw [Part.cutOff_offloading h]
    exact p.clipGists_stopOffload l _ _ _ _
  case erasing =>
    rw [Part.cutOff_erasing h]
    exact p.clipGists_endErase l _ _ _ _
  all_goals rw [Part.cutOff_idle (by simp [h])]

theorem Part.lanes_cutOff {p : Part} {l : Fin 6} (hm : (p.reader l).state ≠ .mounting) : (p.cutOff l).lanes = p.lanes := by
  cases h : (p.reader l).state
  case empty =>
    rw [Part.cutOff_empty h]
    rfl
  case mounting => exact absurd h hm
  case bound =>
    rw [Part.cutOff_bound h]
    exact (p.lessens_loseRecopyReader l .none).lanes
  case offloading =>
    rw [Part.cutOff_offloading h]
    exact p.lanes_stopOffload l _ _ _ _
  case erasing =>
    rw [Part.cutOff_erasing h]
    exact p.lanes_endErase l _ _ _ _
  all_goals rw [Part.cutOff_idle (by simp [h])]

/-- The card bound to the lane is unbound, by the mount that fails or after what is cut off. -/
theorem Part.unbound_cutOff {p : Part} {l : Fin 6} {i : Nat} {e : Card} (hb : p.boundCard l = some i)
    (he : ((p.cutOff l).unbindCard l).card i = some e) : e.lane = none := by
  obtain ⟨c, hc, hlane, hbound⟩ := Part.card_unbindCard he
  by_cases hm : (p.reader l).state = .mounting
  · rw [Part.cutOff_mounting hm] at hc
    have hc' : ((p.modReader l fun r => { r with state := .empty, mount := none }).unbindCard l).card i = some c := hc
    obtain ⟨_, _, _, hnone⟩ := Part.card_unbindCard hc'
    have hc0 : c.lane = none := hnone hb
    rcases hlane with rfl | rfl
    · exact hc0
    · rfl
  · exact hbound ((Part.boundCard_of_lanes (Part.lanes_cutOff hm) l).trans hb)

/-! ### A removal as one update of the lane behind the cut -/

theorem Part.modReader_same {p : Part} {l : Fin 6} {f : ReaderLane → ReaderLane} (h : f (p.reader l) = p.reader l) :
    p.modReader l f = p := by
  have hset : p.readers.set l.val (f (p.reader l)) l.isLt = p.readers := by
    rw [h]
    exact Vector.set_getElem_self l.isLt
  unfold Part.modReader
  rw [hset]

/-- The state that a removal leaves a lane in. -/
def ReaderState.removed (st : ReaderState) : ReaderState := if st = .noReader ∨ st = .equipment then st else .empty

theorem Part.removal_eq (p : Part) (l : Fin 6) :
    p.removal l =
      (((p.atRemoval l).cutOff l).unbindCard l).modReader l fun r => { r with state := (p.reader l).state.removed } := by
  have hstart : ((p.atRemoval l).reader l).state = (p.reader l).state := by
    rw [p.reader_atRemoval l]
  have hstate : ((((p.atRemoval l).cutOff l).unbindCard l).reader l).state = (((p.atRemoval l).cutOff l).reader l).state :=
    (Part.reader_unbindCard _ l l).state
  rw [Part.removal_steps]
  dsimp only
  by_cases hidle : (p.reader l).state = .noReader ∨ (p.reader l).state = .equipment
  · have hcut : (p.atRemoval l).cutOff l = p.atRemoval l :=
      Part.cutOff_idle (by rcases hidle with h | h <;> simp [hstart, h])
    have hkept : ((((p.atRemoval l).cutOff l).unbindCard l).reader l).state = (p.reader l).state := by
      rw [hstate, hcut, hstart]
    rw [if_pos (by rw [hkept]; exact hidle.symm), ReaderState.removed, if_pos hidle, Part.modReader_same]
    rw [← hkept]
  · have hmoved : ((((p.atRemoval l).cutOff l).unbindCard l).reader l).state = (p.reader l).state ∨
        ((((p.atRemoval l).cutOff l).unbindCard l).reader l).state = .empty := by
      rw [hstate, ← hstart]
      exact (Part.cut_cutOff _ l).state
    have hne : ¬ (((((p.atRemoval l).cutOff l).unbindCard l).reader l).state = .equipment ∨
        ((((p.atRemoval l).cutOff l).unbindCard l).reader l).state = .noReader) := by
      rcases hmoved with h | h
      · rw [h]
        exact fun hx => hidle hx.symm
      · rw [h]
        simp
    rw [if_neg hne, ReaderState.removed, if_neg hidle]

/-! ### What a removal leaves (R40) -/

/-- The lane after a removal: the lane cut off, with what the loss of its card took, in the state of a removal. -/
theorem Part.reader_removal (p : Part) (l : Fin 6) :
    ∃ r, (((p.atRemoval l).cutOff l).reader l).Lessens r ∧
      (p.removal l).reader l = { r with state := (p.reader l).state.removed } := by
  refine ⟨_, Part.reader_unbindCard ((p.atRemoval l).cutOff l) l l, ?_⟩
  rw [p.removal_eq, Part.reader_modReader_self]

theorem ReaderLane.Lessens.term {r x : ReaderLane} (h : r.Lessens x) : x.term = r.term := by
  have hg := congrArg ReaderLane.term h.gist
  exact hg

theorem ReaderLane.Lessens.mount {r x : ReaderLane} (h : r.Lessens x) : x.mount = r.mount := by
  have hg := congrArg ReaderLane.mount h.gist
  exact hg

theorem ReaderLane.Lessens.mountPending {r x : ReaderLane} (h : r.Lessens x) : x.mountPending = r.mountPending := by
  have hg := congrArg ReaderLane.mountPending h.gist
  exact hg

theorem ReaderLane.Lessens.erase {r x : ReaderLane} (h : r.Lessens x) : x.erase = r.erase := by
  have hg := congrArg ReaderLane.erase h.gist
  exact hg

theorem ReaderLane.Lessens.offload_none {r x : ReaderLane} (h : r.Lessens x) (hr : r.offload = none) :
    x.offload = none := by
  have hg := h.offload_card
  rw [hr, Option.map_none, Option.map_eq_none_iff] at hg
  exact hg

theorem ReaderLane.Lessens.serves_none {r x : ReaderLane} (h : r.Lessens x) (hr : r.serves = none) : x.serves = none := by
  rcases h.serves with hs | hs
  · rw [hs, hr]
  · exact hs

theorem ReaderLane.Lessens.idle {r x : ReaderLane} (h : r.Lessens x) (ho : r.out = none) (hn : r.retries = 0) :
    x.out = none ∧ x.retries = 0 := by
  rcases h.link with ⟨hx, hy⟩ | hx
  · exact ⟨hx.trans ho, hy.trans hn⟩
  · exact hx

theorem ReaderLane.Cut.idle {dst : ReaderState} {r x : ReaderLane} (h : r.Cut dst x) (ho : r.out = none)
    (hn : r.retries = 0) : x.out = none ∧ x.retries = 0 := by
  rcases h.link with ⟨hx, hy⟩ | hx
  · exact ⟨hx.trans ho, hy.trans hn⟩
  · exact hx

theorem Part.slot_removal (p : Part) (l : Fin 6) :
    ((p.removal l).reader l).slotCount = (p.reader l).slotCount ∧
      ((p.removal l).reader l).slotLocked = (p.reader l).slotLocked ∧
      ((p.removal l).reader l).state = (p.reader l).state.removed ∧
      ((p.removal l).reader l).out = none ∧ ((p.removal l).reader l).retries = 0 := by
  obtain ⟨r, hr, heq⟩ := p.reader_removal l
  have hcut := (Part.cut_cutOff (p.atRemoval l) l).trans (hr.cut .empty)
  rw [p.reader_atRemoval l] at hcut
  obtain ⟨hout, hretries⟩ := hcut.idle rfl rfl
  have hcount := congrArg ReaderLane.slotCount hcut.shell
  have hlocked := congrArg ReaderLane.slotLocked hcut.shell
  rw [heq]
  exact ⟨hcount, hlocked, rfl, hout, hretries⟩

theorem Part.lane_removal {p : Part} {l : Fin 6} {i : Nat} {c : Card} (hb : p.boundCard l = some i)
    (hc : (p.removal l).card i = some c) : c.lane = none := by
  rw [p.removal_eq] at hc
  have hb' : (p.atRemoval l).boundCard l = some i := hb
  exact Part.unbound_cutOff hb' hc

theorem Part.clip_removal {p : Part} {l : Fin 6} {i : Nat} {c : Clip} (hc : p.clip i = some c) :
    ∃ e, (p.removal l).clip i = some e ∧ e.faults = c.faults ∧ e.ingestDigest = c.ingestDigest := by
  have hgists : (p.removal l).clipGists = p.clipGists := by
    rw [p.removal_eq]
    have hunbound : (((p.atRemoval l).cutOff l).unbindCard l).clips = ((p.atRemoval l).cutOff l).clips :=
      Part.clips_unbindCard _ l
    have hcut := Part.clipGists_cutOff (p.atRemoval l) l
    unfold Part.clipGists at hcut ⊢
    rw [Part.modReader_clips, hunbound, hcut]
    rfl
  obtain ⟨e, he, hg⟩ := Part.clip_of_gists hgists hc
  have hfaults := congrArg Clip.faults hg
  have hdigest := congrArg Clip.ingestDigest hg
  exact ⟨e, he, hfaults, hdigest⟩

/-- A card after a removal is the card after the cut, but for its lane. -/
theorem Part.card_removal {p : Part} {l : Fin 6} {i : Nat} {c : Card} (hc : (p.removal l).card i = some c) :
    ∃ e, ((p.atRemoval l).cutOff l).card i = some e ∧ (c = e ∨ c = { e with lane := none }) := by
  rw [p.removal_eq] at hc
  obtain ⟨e, he, hlane, _⟩ := Part.card_unbindCard (p := (p.atRemoval l).cutOff l) (l := l) hc
  exact ⟨e, he, hlane⟩

theorem Part.dest_removal (p : Part) (l : Fin 6) (d : Fin 4) :
    ((p.removal l).dest d).explicit = (((p.atRemoval l).cutOff l).dest d).explicit ∧
      ((p.removal l).dest d).term = (((p.atRemoval l).cutOff l).dest d).term := by
  have hout := Part.outline_unbindCard ((p.atRemoval l).cutOff l) l
  rw [p.removal_eq]
  exact ⟨Part.explicit_outline hout d, Part.dest_term_of_outline hout d⟩

theorem Part.pool_removal (p : Part) (l : Fin 6) : (p.removal l).pool = ((p.atRemoval l).cutOff l).pool := by
  rw [p.removal_eq, Part.modReader_pool, Part.pool_unbindCard]

theorem Part.clips_removal (p : Part) (l : Fin 6) : (p.removal l).clips = ((p.atRemoval l).cutOff l).clips := by
  rw [p.removal_eq, Part.modReader_clips, Part.clips_unbindCard]

/-! ### A recopy ended (R108) -/

theorem Part.endRecopy_of_some {p : Part} {d : Fin 4} {x : RecopyCtx} (h : p.recopyOf d = some x) (cls : TermClass)
    (cause : Cause) (detail : Detail) :
    p.endRecopy d cls cause detail = (p.dropRecopy d).termDest d (x.termination cls cause detail) := by
  unfold Part.endRecopy
  rw [h]

theorem Part.explicit_dropRecopy {p : Part} {d : Fin 4} {x : RecopyCtx} (h : p.recopyOf d = some x) :
    ((p.dropRecopy d).dest d).explicit = none := by
  rw [Part.explicit_outline (Part.outline_dropRecopy h) d, Part.dest_modDest_self]

theorem Part.dest_endRecopy {p : Part} {d : Fin 4} {x : RecopyCtx} (h : p.recopyOf d = some x) (cls : TermClass)
    (cause : Cause) (detail : Detail) :
    ((p.endRecopy d cls cause detail).dest d).explicit = none ∧
      ((p.endRecopy d cls cause detail).dest d).term =
        { record := some (x.termination cls cause detail), unsensed := true } := by
  have hdest : (p.endRecopy d cls cause detail).dest d =
      { (p.dropRecopy d).dest d with
        term := { record := some (x.termination cls cause detail), unsensed := true } } := by
    rw [Part.endRecopy_of_some h]
    exact Part.dest_modDest_self (p.dropRecopy d) d _
  rw [hdest]
  exact ⟨Part.explicit_dropRecopy h, rfl⟩

theorem Part.loseRecopyReader_of_serves {p : Part} {l : Fin 6} {d : Fin 4} (h : (p.reader l).serves = some d)
    (detail : Detail) : p.loseRecopyReader l detail = p.endRecopy d .abnormal .noSourceLeft detail := by
  unfold Part.loseRecopyReader
  rw [h]

/-! ### The link events -/

theorem Part.readerFound_of_none {p : Part} {l : Fin 6} (h : (p.reader l).state = .noReader) :
    p.readerFound l =
      p.modReader l fun r =>
        { r with changed := true, state := .empty, slotPresent := false, presenceOwed := true } := by
  have h' : ((p.changedReader l).reader l).state = .noReader :=
    (congrArg ReaderLane.state (Part.reader_modReader_self p l _)).trans h
  exact (if_pos h').trans (Part.modReader_modReader p l _ _)

theorem Part.readerFound_of_some {p : Part} {l : Fin 6} (h : (p.reader l).state ≠ .noReader) :
    p.readerFound l = p.modReader l fun r => { r with changed := true } := by
  have h' : ((p.changedReader l).reader l).state ≠ .noReader := fun hn =>
    h ((congrArg ReaderLane.state (Part.reader_modReader_self p l _)).symm.trans hn)
  exact if_neg h'

theorem Part.readerLost_eq (p : Part) (l : Fin 6) :
    p.readerLost l =
      (p.removal l).modReader l fun x =>
        { x with changed := true, state := .noReader, mountPending := false, slotPresent := false,
                 reinitFails := 0, presenceOwed := false } :=
  Part.modReader_modReader (p.removal l) l _ _

/-- Settles O52: the lane after a removal is the lane cut off, with its card unbound; what is cut off leaves its termination
there, by the state of the lane. -/
theorem readerLinkEvents : Obligations.ReaderLinkEvents := by
  intro s l
  refine ⟨?up, ?upAgain, ?down, fun _ => acted_of_event rfl rfl, fun _ _ => acted_of_event rfl rfl, ?removal⟩
  case up =>
    intro h
    exact acted_of_event rfl (Part.readerFound_of_none (p := s.part.quiet) h)
  case upAgain =>
    intro h
    exact acted_of_event rfl (Part.readerFound_of_some (p := s.part.quiet) h)
  case down =>
    intro q
    have hq : q = s.part.quiet.readerLost l := rfl
    have hr : q.reader l =
        { (s.part.quiet.removal l).reader l with
          changed := true, state := .noReader, mountPending := false, slotPresent := false,
          reinitFails := 0, presenceOwed := false } := by
      rw [hq, Part.readerLost_eq, Part.reader_modReader_self]
    rw [hr]
    exact ⟨acted_of_event rfl rfl, rfl, rfl, rfl, rfl⟩
  case removal =>
    intro p was q r ended
    have hstart : (p.atRemoval l).reader l = { was with out := none, retries := 0, remountOwed := false } :=
      p.reader_atRemoval l
    have hstate : ((p.atRemoval l).reader l).state = was.state := by rw [hstart]
    have hterm : ((p.atRemoval l).reader l).term = was.term := by rw [hstart]
    obtain ⟨hcount, hlocked, hst, hout, hretries⟩ := p.slot_removal l
    obtain ⟨x, hx, hr⟩ := p.reader_removal l
    have hr : r = { x with state := was.state.removed } := hr
    have hended (op : Operation) (ref : Reference) (counts : List Nat)
        (h : x.term =
          { record := some
              { cls := .readyChanged, op := op, cause := .cardRemoved, ref := ref, counts := counts, detail := .none }
            unsensed := true }) : ended op ref := by
      refine ⟨counts, ?_⟩
      rw [hr]
      exact h
    refine ⟨p.readerLost_eq l, hcount, hlocked, hst, hout, hretries, fun _ _ => Part.lane_removal,
      fun _ _ => Part.clip_removal, ?pending, ?kept, ?mounting, ?erasing, ?bound, ?offloading⟩
    case pending =>
      intro h
      have hcut := Part.cutOff_empty (hstate.trans h)
      rw [hr]
      refine hx.mountPending.trans ?_
      rw [hcut, Part.reader_modReader_self]
    case kept =>
      intro hm ho he
      rw [hr]
      refine hx.term.trans ?_
      cases h : was.state
      case mounting => exact absurd h hm
      case offloading => exact absurd h ho
      case erasing => exact absurd h he
      case empty =>
        rw [Part.cutOff_empty (hstate.trans h), Part.reader_modReader_self, hstart]
      case bound =>
        rw [Part.cutOff_bound (hstate.trans h)]
        exact (((p.atRemoval l).lessens_loseRecopyReader l .none).readers l).term.trans hterm
      all_goals
        rw [Part.cutOff_idle (by simp [hstate, h]), hstart]
    case mounting =>
      intro h
      obtain ⟨y, hy, hm⟩ := (p.atRemoval l).reader_failMount l .empty .readyChanged .cardRemoved
        ((p.atRemoval l).mountRef l) [] .none
      rw [Part.cutOff_mounting (hstate.trans h), hm] at hx
      have href : (p.atRemoval l).mountRef l = p.mountRef l := by
        unfold Part.mountRef
        rw [hstart]
      refine ⟨?_, hended .mount _ [] (href ▸ hx.term)⟩
      rw [hr]
      exact hx.mount.trans hy.mount
    case erasing =>
      intro e h he
      have he' : ((p.atRemoval l).reader l).erase = some e := by
        rw [hstart]
        exact he
      have hcut := (Part.cutOff_erasing (hstate.trans h)).trans
        (Part.endErase_of_some he' .empty .readyChanged .cardRemoved .none)
      have hend := hx
      rw [hcut, Part.reader_modReader_self] at hend
      refine ⟨?_, hended .erase _ [e.erased] hend.term, fun c hc => ?_⟩
      · rw [hr]
        exact hend.erase
      · obtain ⟨f, hf, hlane⟩ := Part.card_removal hc
        rw [hcut] at hf
        obtain ⟨hs, hi, herased⟩ := Part.state_abortErase (p := p.atRemoval l) hf
        rcases hlane with rfl | rfl
        · exact ⟨hs, hi, herased⟩
        · exact ⟨hs, hi, herased⟩
    case bound =>
      intro d y h hserves hy
      have hserves' : ((p.atRemoval l).reader l).serves = some d := by
        rw [hstart]
        exact hserves
      have hy' : (p.atRemoval l).recopyOf d = some y := hy
      have hcut := (Part.cutOff_bound (hstate.trans h)).trans (Part.loseRecopyReader_of_serves hserves' .none)
      obtain ⟨hex, hterm⟩ := p.dest_removal l d
      obtain ⟨hex', hterm'⟩ := Part.dest_endRecopy hy' .abnormal .noSourceLeft .none
      rw [hcut] at hex hterm
      exact ⟨hex.trans hex', hterm.trans hterm'⟩
    case offloading =>
      intro y h hy
      have hy' : ((p.atRemoval l).reader l).offload = some y := by
        rw [hstart]
        exact hy
      have hcut := Part.cutOff_offloading (hstate.trans h)
      obtain ⟨hoff, hqueue, ⟨counts, hterm⟩, hcard, hunwritten⟩ :=
        Part.stopOffload_leaves hy' .empty .readyChanged .cardRemoved .none
      rw [hcut] at hx
      refine ⟨?_, ?_, hended .offload _ counts (hx.term.trans hterm), fun c hc => ?_, fun cur c v hcur hc => ?_⟩
      · rw [hr]
        exact hx.offload_none hoff
      · rw [p.pool_removal l, hcut]
        exact hqueue
      · obtain ⟨e, he, hlane⟩ := Part.card_removal hc
        rw [hcut] at he
        have hev := hcard e he
        rcases hlane with rfl | rfl
        · exact hev
        · exact hev
      · have hc' : tget (p.removal l).clips cur.clip = some c := hc
        rw [p.clips_removal l, hcut] at hc'
        exact hunwritten cur v hcur c hc'

end Sys2Proof.Machine

/-! The decision of a mount, branch by branch (R38, R39), and its end. -/

namespace Sys2Proof.Machine

/-! ### The decision with a record of the card's identity -/

/-- The directory does not keep the record from binding: it is good, or the record is RELEASED (log 48). -/
def readable (h : CardHeader) (b : Option Block) (card : Card) : Prop := goodDir h b = true ∨ card.state = .released

section
variable {p : Part} {l : Fin 6} {h : CardHeader} {b : Option Block} {code : Option (BitVec 16)} {i : Nat} {card : Card}

theorem Part.decideMount_known (hk : (p.unbindOther l h.id).cardWith h.id = some (i, card)) :
    p.decideMount l h b code =
      if (!goodDir h b && !(card.state == .released)) = true then
        (p.unbindOther l h.id).failMount l .refused .abnormal .directoryUnreadable (.identity h.id) (dirCounts b)
          (codeDetail code)
      else if card.lane.isSome ∧ card.lane ≠ some l then
        (p.unbindOther l h.id).failMount l .refused .abnormal .duplicatePresent (.identity h.id) (dirCounts b)
      else if card.state = .released then ((p.unbindOther l h.id).bindCard l i h).endMount l i
      else if (p.unbindOther l h.id).sameDirectory card (dirOf b) then ((p.unbindOther l h.id).bindCard l i h).endMount l i
      else (p.unbindOther l h.id).failMount l .refused .abnormal .identityConflict (.identity h.id) (dirCounts b) := by
  unfold Part.decideMount
  dsimp only
  rw [hk]

theorem unreadable_test : (!goodDir h b && !(card.state == .released)) = true ↔ ¬ readable h b card := by
  unfold readable
  cases goodDir h b <;> simp

theorem Part.decideMount_unreadable (hk : (p.unbindOther l h.id).cardWith h.id = some (i, card))
    (hr : ¬ readable h b card) :
    p.decideMount l h b code =
      (p.unbindOther l h.id).failMount l .refused .abnormal .directoryUnreadable (.identity h.id) (dirCounts b)
        (codeDetail code) := by
  rw [Part.decideMount_known hk, if_pos (unreadable_test.mpr hr)]

theorem Part.decideMount_duplicate (hk : (p.unbindOther l h.id).cardWith h.id = some (i, card))
    (hr : readable h b card) (hl : card.lane ≠ none) (hl' : card.lane ≠ some l) :
    p.decideMount l h b code =
      (p.unbindOther l h.id).failMount l .refused .abnormal .duplicatePresent (.identity h.id) (dirCounts b) := by
  rw [Part.decideMount_known hk, if_neg fun ht => unreadable_test.mp ht hr,
    if_pos ⟨Option.isSome_iff_ne_none.mpr hl, hl'⟩]

theorem not_elsewhere (hl : card.lane = none ∨ card.lane = some l) : ¬ (card.lane.isSome ∧ card.lane ≠ some l) := by
  rintro ⟨hs, hne⟩
  rcases hl with hl | hl
  · rw [hl] at hs
    exact absurd hs Bool.false_ne_true
  · exact hne hl

theorem Part.decideMount_bound (hk : (p.unbindOther l h.id).cardWith h.id = some (i, card))
    (hr : readable h b card) (hl : card.lane = none ∨ card.lane = some l)
    (hd : card.state = .released ∨ (p.unbindOther l h.id).sameDirectory card (dirOf b) = true) :
    p.decideMount l h b code = ((p.unbindOther l h.id).bindCard l i h).endMount l i := by
  rw [Part.decideMount_known hk, if_neg fun ht => unreadable_test.mp ht hr, if_neg (not_elsewhere hl)]
  by_cases hs : card.state = .released
  · rw [if_pos hs]
  · rw [if_neg hs, if_pos (hd.resolve_left hs)]

theorem Part.decideMount_conflict (hk : (p.unbindOther l h.id).cardWith h.id = some (i, card))
    (hr : readable h b card) (hl : card.lane = none ∨ card.lane = some l) (hs : card.state ≠ .released)
    (hd : (p.unbindOther l h.id).sameDirectory card (dirOf b) = false) :
    p.decideMount l h b code =
      (p.unbindOther l h.id).failMount l .refused .abnormal .identityConflict (.identity h.id) (dirCounts b) := by
  rw [Part.decideMount_known hk, if_neg fun ht => unreadable_test.mp ht hr, if_neg (not_elsewhere hl), if_neg hs,
    if_neg (by rw [hd]; exact Bool.false_ne_true)]

/-! ### The decision with no record of it -/

theorem Part.decideMount_new (hk : (p.unbindOther l h.id).cardWith h.id = none) :
    p.decideMount l h b code =
      if (!goodDir h b) = true then
        (p.unbindOther l h.id).failMount l .refused .abnormal .directoryUnreadable (.identity h.id) (dirCounts b)
          (codeDetail code)
      else if ((p.unbindOther l h.id).cameraOf h.id.letter).isNone ∧
          (tfree (p.unbindOther l h.id).cameras Config.cameras).isNone then
        (p.unbindOther l h.id).failMount l .refused .abnormal .cameraTableFull (.identity h.id) (dirCounts b)
      else
        match tfree (p.unbindOther l h.id).cards Config.cards with
        | none => (p.unbindOther l h.id).failMount l .refused .abnormal .cardTableFull (.identity h.id) (dirCounts b)
        | some i =>
          if Config.clips - (p.unbindOther l h.id).clips.length < (dirOf b).length then
            (p.unbindOther l h.id).failMount l .refused .abnormal .clipTableFull (.identity h.id) (dirCounts b)
          else ((p.unbindOther l h.id).createCard l i h (dirOf b)).endMount l i := by
  unfold Part.decideMount
  simp only [hk] <;> rfl

theorem Part.decideMount_new_unreadable (hk : (p.unbindOther l h.id).cardWith h.id = none) (hg : goodDir h b = false) :
    p.decideMount l h b code =
      (p.unbindOther l h.id).failMount l .refused .abnormal .directoryUnreadable (.identity h.id) (dirCounts b)
        (codeDetail code) := by
  rw [Part.decideMount_new hk, if_pos (by rw [hg]; rfl)]

theorem Part.decideMount_cameras (hk : (p.unbindOther l h.id).cardWith h.id = none) (hg : goodDir h b = true)
    (hc : (p.unbindOther l h.id).cameraOf h.id.letter = none)
    (hf : tfree (p.unbindOther l h.id).cameras Config.cameras = none) :
    p.decideMount l h b code =
      (p.unbindOther l h.id).failMount l .refused .abnormal .cameraTableFull (.identity h.id) (dirCounts b) := by
  rw [Part.decideMount_new hk, if_neg (by rw [hg]; exact Bool.false_ne_true), if_pos (by rw [hc, hf]; exact ⟨rfl, rfl⟩)]

theorem cameras_suffice {q : Part} {letter : Nat} (hc : q.cameraOf letter ≠ none ∨ tfree q.cameras Config.cameras ≠ none) :
    ¬ ((q.cameraOf letter).isNone ∧ (tfree q.cameras Config.cameras).isNone) := by
  rintro ⟨hn, hf⟩
  rcases hc with hc | hc
  · exact hc (Option.isNone_iff_eq_none.mp hn)
  · exact hc (Option.isNone_iff_eq_none.mp hf)

theorem Part.decideMount_room (hk : (p.unbindOther l h.id).cardWith h.id = none) (hg : goodDir h b = true)
    (hc : (p.unbindOther l h.id).cameraOf h.id.letter ≠ none ∨
      tfree (p.unbindOther l h.id).cameras Config.cameras ≠ none) :
    p.decideMount l h b code =
      match tfree (p.unbindOther l h.id).cards Config.cards with
      | none => (p.unbindOther l h.id).failMount l .refused .abnormal .cardTableFull (.identity h.id) (dirCounts b)
      | some i =>
        if Config.clips - (p.unbindOther l h.id).clips.length < (dirOf b).length then
          (p.unbindOther l h.id).failMount l .refused .abnormal .clipTableFull (.identity h.id) (dirCounts b)
        else ((p.unbindOther l h.id).createCard l i h (dirOf b)).endMount l i := by
  rw [Part.decideMount_new hk, if_neg (by rw [hg]; exact Bool.false_ne_true), if_neg (cameras_suffice hc)]

end

/-! ### The end of a mount (R39) -/

theorem Part.regainSource_records (p : Part) (c : Fin 2) :
    (p.regainSource c).records = p.records ∧ (p.regainSource c).readers = p.readers := by
  unfold Part.regainSource
  split
  next =>
    split
    next => exact ⟨rfl, rfl⟩
    next => exact ⟨rfl, rfl⟩
  next => exact ⟨rfl, rfl⟩

theorem Part.regainClip_records (p : Part) (i : Nat) :
    (p.regainClip i).records = p.records ∧ (p.regainClip i).readers = p.readers := by
  have hstep (q : Part) (c : Fin 2) :
      (if (q.channel c).clip = some i then q.regainSource c else q).records = q.records ∧
        (if (q.channel c).clip = some i then q.regainSource c else q).readers = q.readers := by
    split
    next => exact q.regainSource_records c
    next => exact ⟨rfl, rfl⟩
  unfold Part.regainClip allChannels Part.each
  simp only [List.foldl_cons, List.foldl_nil]
  exact ⟨(hstep _ 1).1.trans (hstep p 0).1, (hstep _ 1).2.trans (hstep p 0).2⟩

theorem Part.foldl_regainClip (clips : List Nat) :
    ∀ p : Part, (clips.foldl Part.regainClip p).records = p.records ∧
      (clips.foldl Part.regainClip p).readers = p.readers := by
  induction clips with
  | nil => exact fun _ => ⟨rfl, rfl⟩
  | cons i t ih =>
    intro p
    obtain ⟨hr, hd⟩ := ih (p.regainClip i)
    obtain ⟨hr', hd'⟩ := p.regainClip_records i
    exact ⟨hr.trans hr', hd.trans hd'⟩

theorem Part.endMount_of_some {p : Part} {l : Fin 6} {i : Nat} {card : Card} (hc : p.card i = some card) :
    p.endMount l i =
      if (p.reader l).mode = .auto ∧ card.state = .ready then
        if (card.clips.foldl Part.regainClip p).planPasses card.plan then
          (card.clips.foldl Part.regainClip p).startOffload l i
        else (card.clips.foldl Part.regainClip p).termReader l (mountTerm .normal .planInvalidAtMount (.card i) [] .none)
      else
        (card.clips.foldl Part.regainClip p).termReader l
          (mountTerm .normal .mounted (.card i) [card.clips.length] .none) := by
  obtain ⟨hrec, hreaders⟩ := Part.foldl_regainClip card.clips p
  have hcard : (card.clips.foldl Part.regainClip p).card i = some card := by
    have hcards : (card.clips.foldl Part.regainClip p).cards = p.cards := congrArg (fun r => r.1) hrec
    unfold Part.card
    rw [hcards]
    exact hc
  have hreader : (card.clips.foldl Part.regainClip p).reader l = p.reader l := by
    unfold Part.reader
    rw [hreaders]
  unfold Part.endMount
  simp only [hc, Part.each, hcard, hreader]

end Sys2Proof.Machine

/-! The read procedure, the failure of a reader, the reader stall, and whom the link of a reader serves. -/

namespace Sys2Proof.Machine

/-! ### A step that fails, a reinitialisation (R33) -/

theorem Part.stepFailed_eq (p : Part) (l : Fin 6) (o : ReaderOut) (a : ReaderStep) (code : Option (BitVec 16)) :
    p.stepFailed l o a code =
      let limit := if (p.reader l).retries = 0 then (p.reader l).retryLimit else (p.reader l).readLimit
      if (p.reader l).retries < limit then
        (p.modReader l fun r => { r with out := none, readLimit := limit }).sendReader l (.reinit a) o.owner
      else (p.modReader l fun r => { r with out := none, retries := 0 }).readUnreadable l o.owner code := rfl

theorem Part.stepFailed_of_first {p : Part} {l : Fin 6} {o : ReaderOut} {a : ReaderStep} {code : Option (BitVec 16)}
    (hr : (p.reader l).retries = 0) (hl : 0 < (p.reader l).retryLimit) :
    p.stepFailed l o a code =
      (p.modReader l fun x => { x with out := none, readLimit := x.retryLimit }).sendReader l (.reinit a) o.owner := by
  rw [Part.stepFailed_eq]
  dsimp only
  rw [if_pos hr, if_pos (by omega)]
  exact congrArg (fun q : Part => q.sendReader l (.reinit a) o.owner) (p.modReader_congr l _ _ rfl)

theorem Part.stepFailed_of_again {p : Part} {l : Fin 6} {o : ReaderOut} {a : ReaderStep} {code : Option (BitVec 16)}
    (hr : 0 < (p.reader l).retries) (hl : (p.reader l).retries < (p.reader l).readLimit) :
    p.stepFailed l o a code =
      (p.modReader l fun x => { x with out := none }).sendReader l (.reinit a) o.owner := by
  rw [Part.stepFailed_eq]
  dsimp only
  rw [if_neg (show ¬ (p.reader l).retries = 0 by omega), if_pos hl]
  exact congrArg (fun q : Part => q.sendReader l (.reinit a) o.owner) (p.modReader_congr l _ _ rfl)

theorem Part.stepFailed_of_spent {p : Part} {l : Fin 6} {o : ReaderOut} {a : ReaderStep} {code : Option (BitVec 16)}
    (h : ((p.reader l).retries = 0 ∧ (p.reader l).retryLimit = 0) ∨
      (0 < (p.reader l).retries ∧ (p.reader l).readLimit ≤ (p.reader l).retries)) :
    p.stepFailed l o a code =
      (p.modReader l fun x => { x with out := none, retries := 0 }).readUnreadable l o.owner code := by
  rw [Part.stepFailed_eq]
  dsimp only
  rcases h with ⟨hr, hl⟩ | ⟨hr, hl⟩
  · rw [if_pos hr, if_neg (by omega)]
  · rw [if_neg (show ¬ (p.reader l).retries = 0 by omega), if_neg (by omega)]

theorem Part.reinitFailed_of_first {p : Part} {l : Fin 6} {o : ReaderOut} {a : ReaderStep}
    (h : (p.reader l).reinitFails = 0) :
    p.reinitFailed l o a =
      (p.modReader l fun x => { x with out := none, reinitFails := 1 }).sendReader l (.reinit a) o.owner := by
  unfold Part.reinitFailed
  dsimp only
  rw [Part.reader_modReader_self, if_neg (by dsimp only; omega)]
  refine congrArg (fun q : Part => q.sendReader l (.reinit a) o.owner) (p.modReader_congr l _ _ ?_)
  rw [h]

theorem Part.reinitFailed_of_again {p : Part} {l : Fin 6} {o : ReaderOut} {a : ReaderStep}
    (h : 1 ≤ (p.reader l).reinitFails) :
    p.reinitFailed l o a =
      (p.modReader l fun x => { x with out := none, reinitFails := x.reinitFails + 1 }).readerFailed l := by
  unfold Part.reinitFailed
  dsimp only
  rw [Part.reader_modReader_self, if_pos (by dsimp only; omega)]

/-! ### An unreadable block of a mount (R37) -/

theorem Part.mountUnreadable_of_header {p : Part} {l : Fin 6} (h : ∀ x, (p.reader l).mount ≠ some (some x))
    (code : Option (BitVec 16)) :
    p.mountUnreadable l code =
      p.failMount l .refused .abnormal .directoryUnreadable (p.mountRef l) [] (codeDetail code) := by
  unfold Part.mountUnreadable
  split
  next x hx => exact absurd hx (h x)
  next => rfl

theorem Part.mountUnreadable_of_directory {p : Part} {l : Fin 6} {h : CardHeader}
    (hm : (p.reader l).mount = some (some h)) (code : Option (BitVec 16)) :
    p.mountUnreadable l code = p.decideMount l h none code := by
  unfold Part.mountUnreadable
  rw [hm]

/-! ### A channel that has lost a source (R173) -/

/-- The channel has not the source, or is bound to no clip. -/
def Part.Spared (p : Part) (s : Source) (c : Fin 2) : Prop :=
  (p.channel c).clip ≠ none → (p.channel c).source ≠ some s

theorem Part.selectSource_ne_excluded (p : Part) (i : Nat) (s : Source) : p.selectSource i (some s) ≠ some s := by
  intro h
  cases s with
  | volume v =>
    rw [p.selectSource_eq_volume, p.volumeWith_eq_some, p.volumeWith_eq_some] at h
    rcases h with ⟨⟨_, hne, _⟩, _⟩ | ⟨_, ⟨_, hne, _⟩, _⟩
    · exact hne rfl
    · exact hne rfl
  | card k =>
    rw [p.selectSource_eq_other i (some (.card k)) (some (.card k)) (fun v hv => (nomatch hv)), p.cardAllowed_eq_some] at h
    obtain ⟨_, k', hk, hne, _⟩ := h
    exact hne (congrArg some hk)

theorem Channel.resume_source (ch : Channel) : ch.resume.source = ch.source := by
  unfold Channel.resume
  split
  next => exact ch.aim_source _
  next => exact ch.aim_source _
  next =>
    split
    next => rfl
    next => exact ch.aim_source _

theorem Part.channel_withdrawRead_other (p : Part) {c k : Fin 2} (h : k ≠ c) :
    (p.withdrawRead c).channel k = p.channel k := by
  rw [p.withdrawRead_eq, Part.channel_modChannel_other _ c k _ h]
  rfl

theorem Part.channel_loseSource_other (p : Part) {c k : Fin 2} (h : k ≠ c) : (p.loseSource c).channel k = p.channel k := by
  unfold Part.loseSource
  split
  next =>
    dsimp only
    split
    next => rw [Part.channel_modChannel_other _ c k _ h, p.channel_withdrawRead_other h]
    next => rw [Part.noSource_eq, Part.channel_modChannel_other _ c k _ h, p.channel_withdrawRead_other h]
  next => rfl

theorem Part.spared_loseSource {p : Part} {s : Source} {c : Fin 2} (hs : (p.channel c).source = some s) :
    (p.loseSource c).Spared s c := by
  cases hc : (p.channel c).clip
  case none =>
    rw [Part.loseSource_of_unbound (Or.inr hc)]
    exact fun hne => absurd hc hne
  case some i =>
    intro _
    rw [Part.loseSource_of_bound hs hc]
    split
    next t ht =>
      rw [Part.channel_modChannel_self, Channel.resume_source]
      intro he
      exact Part.selectSource_ne_excluded _ i s (ht.trans he)
    next =>
      rw [Part.noSource_eq, Part.channel_modChannel_self]
      exact fun he => nomatch he

theorem Part.spared_loseAll (p : Part) (s : Source) (c : Fin 2) : (p.loseAll s).Spared s c := by
  have hself (q : Part) (k : Fin 2) : (if (q.channel k).source = some s then q.loseSource k else q).Spared s k := by
    split
    next h => exact Part.spared_loseSource h
    next h => exact fun _ => h
  have hother (q : Part) (k : Fin 2) (hk : c ≠ k) (h : q.Spared s c) :
      (if (q.channel k).source = some s then q.loseSource k else q).Spared s c := by
    split
    next =>
      unfold Part.Spared
      rw [q.channel_loseSource_other hk]
      exact h
    next => exact h
  unfold Part.loseAll allChannels Part.each
  simp only [List.foldl_cons, List.foldl_nil]
  by_cases hc : c = 1
  · subst hc
    exact hself _ 1
  · have h0 : c = 0 := by omega
    subst h0
    exact hother _ 1 hc (hself p 0)

/-! ### What the failure of a reader ends (R33) -/

/-- The request goes, and the recopy that reads through the lane. -/
def Part.atFailure (p : Part) (l : Fin 6) : Part :=
  (p.modReader l fun r => { r with out := none, retries := 0 }).recopyReaderFailed l

/-- What the failure ends on the lane, by its state. -/
def Part.cutFailed (p : Part) (l : Fin 6) (detail : Detail) : Part :=
  match (p.reader l).state with
  | .mounting =>
    (p.modReader l fun r => { r with mount := none }).termReader l
      (mountTerm .abnormal .equipmentCheck (p.mountRef l) [] detail)
  | .offloading => p.stopOffload l .equipment .abnormal .equipmentCheck detail
  | .erasing => p.endErase l .equipment .abnormal .equipmentCheck detail
  | _ => p

/-- The lane in EQUIPMENT with its condition-changed flag set. -/
def Part.equipment (p : Part) (l : Fin 6) : Part :=
  p.modReader l fun r => { r with state := .equipment, changed := true }

theorem Part.reader_equipment (p : Part) (l : Fin 6) :
    (p.equipment l).reader l = { p.reader l with state := .equipment, changed := true } :=
  Part.reader_modReader_self p l _

theorem Part.readerFailed_steps (p : Part) (l : Fin 6) :
    p.readerFailed l =
      let q := ((p.atFailure l).cutFailed l (p.faultDetail l)).equipment l
      match q.boundCard l with
      | some i => q.loseAll (.card i)
      | none => q := by
  have hdetail : (p.modReader l fun r => { r with out := none, retries := 0 }).faultDetail l = p.faultDetail l := by
    unfold Part.faultDetail
    rw [Part.reader_modReader_self]
  have hequipment (q : Part) : (q.modReader l fun r => { r with state := .equipment }).changedReader l = q.equipment l :=
    q.modReader_modReader l _ _
  unfold Part.readerFailed
  dsimp only
  rw [hequipment, hdetail]
  rfl

theorem Part.cutFailed_mounting {p : Part} {l : Fin 6} (h : (p.reader l).state = .mounting) (detail : Detail) :
    p.cutFailed l detail =
      p.modReader l fun r =>
        { r with
          mount := none
          term :=
            { record := some (mountTerm .abnormal .equipmentCheck (p.mountRef l) [] detail), unsensed := true } } := by
  unfold Part.cutFailed
  rw [h]
  exact p.modReader_modReader l _ _

theorem Part.cutFailed_offloading {p : Part} {l : Fin 6} (h : (p.reader l).state = .offloading) (detail : Detail) :
    p.cutFailed l detail = p.stopOffload l .equipment .abnormal .equipmentCheck detail := by
  unfold Part.cutFailed
  rw [h]

theorem Part.cutFailed_erasing {p : Part} {l : Fin 6} (h : (p.reader l).state = .erasing) (detail : Detail) :
    p.cutFailed l detail = p.endErase l .equipment .abnormal .equipmentCheck detail := by
  unfold Part.cutFailed
  rw [h]

theorem Part.cutFailed_idle {p : Part} {l : Fin 6} (hm : (p.reader l).state ≠ .mounting)
    (ho : (p.reader l).state ≠ .offloading) (he : (p.reader l).state ≠ .erasing) (detail : Detail) :
    p.cutFailed l detail = p := by
  unfold Part.cutFailed
  cases h : (p.reader l).state
  case mounting => exact absurd h hm
  case offloading => exact absurd h ho
  case erasing => exact absurd h he
  all_goals rfl

theorem Part.cut_cutFailed (p : Part) (l : Fin 6) (detail : Detail) :
    (p.reader l).Cut .equipment ((p.cutFailed l detail).reader l) := by
  by_cases hm : (p.reader l).state = .mounting
  · rw [Part.cutFailed_mounting hm, Part.reader_modReader_self]
    exact ⟨rfl, Or.inl ⟨rfl, rfl⟩, Or.inl rfl⟩
  by_cases ho : (p.reader l).state = .offloading
  · rw [Part.cutFailed_offloading ho]
    exact p.cut_stopOffload l _ _ _ _
  by_cases he : (p.reader l).state = .erasing
  · rw [Part.cutFailed_erasing he]
    exact p.cut_endErase l _ _ _ _
  rw [Part.cutFailed_idle hm ho he]
  exact ReaderLane.Cut.refl _ _

theorem Part.lanes_cutFailed (p : Part) (l : Fin 6) (detail : Detail) : (p.cutFailed l detail).lanes = p.lanes := by
  by_cases hm : (p.reader l).state = .mounting
  · rw [Part.cutFailed_mounting hm]
    rfl
  by_cases ho : (p.reader l).state = .offloading
  · rw [Part.cutFailed_offloading ho]
    exact p.lanes_stopOffload l _ _ _ _
  by_cases he : (p.reader l).state = .erasing
  · rw [Part.cutFailed_erasing he]
    exact p.lanes_endErase l _ _ _ _
  rw [Part.cutFailed_idle hm ho he]

theorem Part.lessens_recopyReaderFailed (p : Part) (l : Fin 6) : p.Lessens (p.recopyReaderFailed l) := by
  unfold Part.recopyReaderFailed
  split
  next => exact p.lessens_loseRecopyReader l _
  next => exact Part.Lessens.refl p

theorem Part.lessens_atFailure (p : Part) (l : Fin 6) :
    (p.modReader l fun r => { r with out := none, retries := 0 }).Lessens (p.atFailure l) :=
  Part.lessens_recopyReaderFailed _ l

theorem Part.lanes_atFailure (p : Part) (l : Fin 6) : (p.atFailure l).lanes = p.lanes :=
  (p.lessens_atFailure l).lanes

/-- The part before the channels lose the card: the lane in EQUIPMENT, with what it was doing ended. -/
def Part.failed (p : Part) (l : Fin 6) : Part := ((p.atFailure l).cutFailed l (p.faultDetail l)).equipment l

theorem Part.lanes_failed (p : Part) (l : Fin 6) : (p.failed l).lanes = p.lanes :=
  ((p.atFailure l).lanes_cutFailed l (p.faultDetail l)).trans (p.lanes_atFailure l)

theorem Part.readerFailed_of_bound {p : Part} {l : Fin 6} {i : Nat} (h : p.boundCard l = some i) :
    p.readerFailed l = (p.failed l).loseAll (.card i) := by
  have hb : (((p.atFailure l).cutFailed l (p.faultDetail l)).equipment l).boundCard l = some i :=
    (Part.boundCard_of_lanes (p.lanes_failed l) l).trans h
  rw [Part.readerFailed_steps]
  simp only [hb] <;> rfl

theorem Part.readerFailed_of_free {p : Part} {l : Fin 6} (h : p.boundCard l = none) : p.readerFailed l = p.failed l := by
  have hb : (((p.atFailure l).cutFailed l (p.faultDetail l)).equipment l).boundCard l = none :=
    (Part.boundCard_of_lanes (p.lanes_failed l) l).trans h
  rw [Part.readerFailed_steps]
  simp only [hb] <;> rfl

theorem Part.readerFailed_last (p : Part) (l : Fin 6) :
    (p.failed l).Lessens (p.readerFailed l) ∧ (p.readerFailed l).records = (p.failed l).records ∧
      (p.readerFailed l).outline = (p.failed l).outline := by
  cases h : p.boundCard l
  case none =>
    rw [Part.readerFailed_of_free h]
    exact ⟨Part.Lessens.refl _, rfl, rfl⟩
  case some i =>
    rw [Part.readerFailed_of_bound h]
    exact ⟨Part.lessens_loseAll _ _, Part.records_loseAll _ _, Part.outline_loseAll _ _⟩

/-- The lane after the failure: the lane with its operation ended, in EQUIPMENT, with what the loss of its card took. -/
theorem Part.reader_readerFailed (p : Part) (l : Fin 6) :
    ({ ((p.atFailure l).cutFailed l (p.faultDetail l)).reader l with state := .equipment, changed := true } :
      ReaderLane).Lessens ((p.readerFailed l).reader l) := by
  have h := (p.readerFailed_last l).1.readers l
  rw [Part.failed, Part.reader_equipment] at h
  exact h

theorem Part.reader_atFailure (p : Part) (l : Fin 6) :
    ({ p.reader l with out := none, retries := 0 } : ReaderLane).Lessens ((p.atFailure l).reader l) := by
  have h := (p.lessens_atFailure l).readers l
  rw [Part.reader_modReader_self] at h
  exact h

theorem ReaderLane.Lessens.changed {r x : ReaderLane} (h : r.Lessens x) : x.changed = r.changed := by
  have hg := congrArg ReaderLane.changed h.gist
  exact hg

theorem codeDetail_eq (code : Option (BitVec 16)) :
    codeDetail code =
      match code with
      | some c => .code c
      | none => .none := by
  cases code <;> rfl

/-! ### What the failure of a reader leaves (R33) -/

/-- What the failure leaves of the lane, by the state it was in. -/
def FailureLeaves (p : Part) (l : Fin 6) (q : Part) : Prop :=
  let was := p.reader l
  let r := q.reader l
  let ended (op : Operation) (ref : Reference) : Prop := ∃ counts,
    r.term =
      { record := some
          { cls := .abnormal, op := op, cause := .equipmentCheck, ref := ref, counts := counts,
            detail := codeDetail was.lastFault }
        unsensed := true }
  r.state = .equipment ∧ r.changed = true ∧ r.out = none ∧ r.retries = 0 ∧
    (∀ i c, p.card i = some c → ∃ e, q.card i = some e ∧ e.lane = c.lane) ∧
    (∀ i c, p.boundCard l = some i → (q.channel c).clip ≠ none → (q.channel c).source ≠ some (.card i)) ∧
    (was.state ≠ .mounting → was.state ≠ .offloading → was.state ≠ .erasing → r.term = was.term) ∧
    (was.state = .mounting → r.mount = none ∧ ended .mount (p.mountRef l)) ∧
    (∀ x, was.state = .erasing → was.erase = some x →
      r.erase = none ∧ ended .erase (.card x.card) ∧
        ∀ c, q.card x.card = some c → c.state = .released ∧ c.eraseIncomplete = true ∧ c.erased = false) ∧
    (∀ d x, was.state = .bound → was.serves = some d → p.recopyOf d = some x →
      (∀ k, x.source = .card l k → r.serves = none) ∧ (q.dest d).explicit = none ∧
        (q.dest d).term =
          { record := some
              { cls := .abnormal, op := .recopy, cause := .noSourceLeft, ref := .recopy x.clip x.target x.source,
                counts := [x.written], detail := .equipment (p.recopyBlockNumber x) }
            unsensed := true }) ∧
    ∀ x, was.state = .offloading → was.offload = some x →
      r.offload = none ∧ l ∉ q.pool.queue ∧ ended .offload (.card x.card) ∧
        (∀ c, q.card x.card = some c → c.state = .held ∨ c.state = .secured) ∧
        ∀ cur c v, x.current = some cur → q.clip cur.clip = some c → c.offloadWriting v = false

/-- A recopy from a card that ends frees its reader. -/
theorem Part.serves_endRecopy {p : Part} {d : Fin 4} {x : RecopyCtx} {l : Fin 6} {k : Nat}
    (h : p.recopyOf d = some x) (hs : x.source = .card l k) (cls : TermClass) (cause : Cause) (detail : Detail) :
    ((p.endRecopy d cls cause detail).reader l).serves = none := by
  have hrelease : (((p.withdrawRecopyReads d).withdrawRecopyWrites d).releaseReader x).reader l =
      { ((p.withdrawRecopyReads d).withdrawRecopyWrites d).reader l with serves := none } := by
    unfold Part.releaseReader
    have hl : x.readerLane = some l := by
      unfold RecopyCtx.readerLane
      rw [hs]
    rw [hl]
    exact Part.reader_modReader_self _ l _
  have hdetach : ((p.detachRecopy d x).reader l).serves = none := by
    have hr : (p.detachRecopy d x).reader l =
        (((p.withdrawRecopyReads d).withdrawRecopyWrites d).releaseReader x).reader l := rfl
    rw [hr, hrelease]
  have hdrop : (p.detachRecopy d x).Lessens (p.dropRecopy d) := by
    rw [Part.dropRecopy_of_some h]
    split
    next => exact (Part.lessens_dropCopy _ _ _).trans (Part.lessens_claimRelease _ _ _)
    next => exact Part.lessens_dropCopy _ _ _
  rw [Part.endRecopy_of_some h]
  exact (hdrop.readers l).serves_none hdetach

theorem Part.card_of_lanes {p q : Part} (h : q.lanes = p.lanes) {i : Nat} {c : Card} (hc : p.card i = some c) :
    ∃ e, q.card i = some e ∧ e.lane = c.lane := by
  have hg := Part.lane_of_lanes h i
  rw [hc, Option.map_some, Option.map_eq_some_iff] at hg
  exact hg

theorem Part.readerFailed_leaves (p : Part) (l : Fin 6) : FailureLeaves p l (p.readerFailed l) := by
  unfold FailureLeaves
  intro was r ended
  have hx : ({ ((p.atFailure l).cutFailed l (p.faultDetail l)).reader l with state := .equipment, changed := true } :
      ReaderLane).Lessens r := p.reader_readerFailed l
  obtain ⟨_, hrecords, houtline⟩ := p.readerFailed_last l
  have hstart := p.reader_atFailure l
  have hstate : ((p.atFailure l).reader l).state = was.state := hstart.state
  have hidle := ((p.atFailure l).cut_cutFailed l (p.faultDetail l)).idle (hstart.idle rfl rfl).1 (hstart.idle rfl rfl).2
  obtain ⟨hout, hretries⟩ := hx.idle hidle.1 hidle.2
  have hcards : (p.readerFailed l).cards = ((p.atFailure l).cutFailed l (p.faultDetail l)).cards :=
    congrArg (fun t => t.1) hrecords
  have hclips : (p.readerFailed l).clips = ((p.atFailure l).cutFailed l (p.faultDetail l)).clips :=
    congrArg (fun t => t.2.1) hrecords
  have hpool : (p.readerFailed l).pool = ((p.atFailure l).cutFailed l (p.faultDetail l)).pool :=
    congrArg (fun t => t.2.2.1) hrecords
  refine ⟨hx.state, hx.changed, hout, hretries, fun i c hc => ?lanes, fun i c hb => ?channels, ?kept, ?mounting, ?erasing,
    ?bound, ?offloading⟩
  case lanes =>
    refine Part.card_of_lanes ?_ hc
    have hlast : (p.readerFailed l).lanes = (p.failed l).lanes := (p.readerFailed_last l).1.lanes
    exact hlast.trans (p.lanes_failed l)
  case channels =>
    rw [Part.readerFailed_of_bound hb]
    exact Part.spared_loseAll _ _ c
  case kept =>
    intro hm ho he
    refine hx.term.trans ?_
    rw [Part.cutFailed_idle (hstate ▸ hm) (hstate ▸ ho) (hstate ▸ he)]
    exact hstart.term
  case mounting =>
    intro h
    have hterm := hx.term
    have hmount := hx.mount
    rw [Part.cutFailed_mounting (hstate.trans h), Part.reader_modReader_self] at hterm hmount
    have href : (p.atFailure l).mountRef l = p.mountRef l := by
      unfold Part.mountRef
      rw [hstart.mount]
    exact ⟨hmount, [], href ▸ hterm⟩
  case erasing =>
    intro e h he
    have he' : ((p.atFailure l).reader l).erase = some e := hstart.erase.trans he
    have hcut := (Part.cutFailed_erasing (hstate.trans h) (p.faultDetail l)).trans
      (Part.endErase_of_some he' .equipment .abnormal .equipmentCheck (p.faultDetail l))
    have hterm := hx.term
    have herase := hx.erase
    rw [hcut, Part.reader_modReader_self] at hterm herase
    refine ⟨herase, ⟨[e.erased], hterm⟩, fun c hc => ?_⟩
    have hc' : tget (p.readerFailed l).cards e.card = some c := hc
    rw [hcards, hcut] at hc'
    exact Part.state_abortErase (p := p.atFailure l) hc'
  case bound =>
    intro d y h hserves hy
    have hserves' : ((p.modReader l fun r => { r with out := none, retries := 0 }).reader l).serves = some d := by
      rw [Part.reader_modReader_self]
      exact hserves
    have hy' : (p.modReader l fun r => { r with out := none, retries := 0 }).recopyOf d = some y := hy
    have hfail : p.atFailure l =
        (p.modReader l fun r => { r with out := none, retries := 0 }).endRecopy d .abnormal .noSourceLeft
          (.equipment (p.recopyBlockNumber y)) := by
      rw [← Part.loseRecopyReader_of_serves hserves']
      unfold Part.atFailure Part.recopyReaderFailed
      rw [hserves', Option.bind_some, hy']
      rfl
    have hcut : (p.atFailure l).cutFailed l (p.faultDetail l) = p.atFailure l :=
      Part.cutFailed_idle (by rw [hstate, h]; decide) (by rw [hstate, h]; decide) (by rw [hstate, h]; decide) _
    obtain ⟨hex, hterm⟩ := Part.dest_endRecopy hy' .abnormal .noSourceLeft (.equipment (p.recopyBlockNumber y))
    have hout' : (p.readerFailed l).outline = (p.atFailure l).outline := by
      rw [houtline, Part.failed, hcut]
      exact Part.outline_modReader _ l _ fun _ => rfl
    refine ⟨fun k hk => ?_, ?_, ?_⟩
    · refine hx.serves_none ?_
      rw [hcut, hfail]
      exact Part.serves_endRecopy hy' hk .abnormal .noSourceLeft (.equipment (p.recopyBlockNumber y))
    · rw [Part.explicit_outline hout' d, hfail]
      exact hex
    · rw [Part.dest_term_of_outline hout' d, hfail]
      exact hterm
  case offloading =>
    intro y h hy
    have hcard : ((p.atFailure l).reader l).offload.map (·.card) = some y.card := by
      rw [hstart.offload_card]
      exact congrArg (Option.map OffloadCtx.card) hy
    have hgist : ((p.atFailure l).reader l).offload.map (fun z => { z with tally := [] }) =
        some { y with tally := [] } := by
      have hy' : (p.reader l).offload = some y := hy
      have hg := congrArg ReaderLane.offload hstart.gist
      simp only [ReaderLane.gist, hy', Option.map_some] at hg
      exact hg
    obtain ⟨z, hz, hzy⟩ := Option.map_eq_some_iff.mp hgist
    have hzcard := congrArg OffloadCtx.card hzy
    have hzcur := congrArg OffloadCtx.current hzy
    dsimp only at hzcard hzcur
    have hcut := Part.cutFailed_offloading (hstate.trans h) (p.faultDetail l)
    obtain ⟨hoff, hqueue, ⟨counts, hterm⟩, hev, hunwritten⟩ :=
      Part.stopOffload_leaves hz .equipment .abnormal .equipmentCheck (p.faultDetail l)
    have hxterm := hx.term
    have hxoff := hx.offload_none (by rw [hcut]; exact hoff)
    rw [hcut] at hxterm
    refine ⟨hxoff, ?_, ⟨counts, ?_⟩, fun c hc => ?_, fun cur c v hcur hc => ?_⟩
    · rw [hpool, hcut]
      exact hqueue
    · refine hxterm.trans (hterm.trans ?_)
      rw [offloadEnd, hzcard]
      rfl
    · have hc' : tget (p.readerFailed l).cards y.card = some c := hc
      rw [hcards, hcut, ← hzcard] at hc'
      exact hev c hc'
    · have hc' : tget (p.readerFailed l).clips cur.clip = some c := hc
      rw [hclips, hcut] at hc'
      exact hunwritten cur v (hzcur.trans hcur) c hc'

/-! ### Whom the link serves (R35) -/

theorem Part.serveReader_of_idle {p : Part} {l : Fin 6}
    (h : (p.reader l).out ≠ none ∨ (p.reader l).state = .noReader ∨ (p.reader l).state = .equipment) :
    p.serveReader l = p :=
  if_pos (h.imp_left Option.isSome_iff_ne_none.mpr)

theorem Part.serveReader_of_free {p : Part} {l : Fin 6} (ho : (p.reader l).out = none)
    (hn : (p.reader l).state ≠ .noReader) (he : (p.reader l).state ≠ .equipment) :
    p.serveReader l =
      if (p.reader l).presenceOwed then
        (p.modReader l fun r => { r with presenceOwed := false }).sendReader l .presence .presence
      else
        match (p.reader l).previews with
        | i :: rest =>
          (p.modReader l fun r => { r with previews := rest }).sendReader l (.step (.block i.block)) (.preview i.channel)
        | [] =>
          match p.laneRequest l with
          | some (s, o) => p.sendReader l (.step s) o
          | none => p := by
  refine if_neg ?_
  rintro (h | h | h)
  · rw [ho] at h
    exact absurd h Bool.false_ne_true
  · exact hn h
  · exact he h

theorem Part.serveReader_of_owed {p : Part} {l : Fin 6} (ho : (p.reader l).out = none)
    (hn : (p.reader l).state ≠ .noReader) (he : (p.reader l).state ≠ .equipment)
    (hp : (p.reader l).presenceOwed = true) :
    p.serveReader l = (p.modReader l fun r => { r with presenceOwed := false }).sendReader l .presence .presence := by
  rw [Part.serveReader_of_free ho hn he, if_pos hp]

theorem Part.serveReader_of_preview {p : Part} {l : Fin 6} {i : CardRead} {rest : List CardRead}
    (ho : (p.reader l).out = none) (hn : (p.reader l).state ≠ .noReader) (he : (p.reader l).state ≠ .equipment)
    (hp : (p.reader l).presenceOwed = false) (hi : (p.reader l).previews = i :: rest) :
    p.serveReader l =
      (p.modReader l fun r => { r with previews := rest }).sendReader l (.step (.block i.block)) (.preview i.channel) := by
  rw [Part.serveReader_of_free ho hn he, if_neg (by rw [hp]; exact Bool.false_ne_true), hi]

theorem Part.serveReader_of_lane {p : Part} {l : Fin 6} (ho : (p.reader l).out = none)
    (hn : (p.reader l).state ≠ .noReader) (he : (p.reader l).state ≠ .equipment)
    (hp : (p.reader l).presenceOwed = false) (hi : (p.reader l).previews = []) :
    p.serveReader l =
      match p.laneRequest l with
      | some (s, o) => p.sendReader l (.step s) o
      | none => p := by
  rw [Part.serveReader_of_free ho hn he, if_neg (by rw [hp]; exact Bool.false_ne_true)]
  simp only [hi]

/-! ### What the operation in flight asks for (R35) -/

theorem Part.laneRequest_mounting {p : Part} {l : Fin 6} (h : (p.reader l).state = .mounting) (a : ReaderStep)
    (o : ReaderOwner) :
    p.laneRequest l = some (a, o) ↔
      ((p.reader l).mount = some none ∧ a = .block 0 ∧ o = .mount) ∨
        ((∃ x, (p.reader l).mount = some (some x)) ∧ a = .block 1 ∧ o = .mount) := by
  unfold Part.laneRequest
  simp only [h]
  cases hm : (p.reader l).mount
  case none => simp
  case some x => cases x <;> simp [eq_comm]

theorem Part.laneRequest_offloading {p : Part} {l : Fin 6} (h : (p.reader l).state = .offloading) (a : ReaderStep)
    (o : ReaderOwner) :
    p.laneRequest l = some (a, o) ↔
      o = .offload ∧ ∃ x cur, (p.reader l).offload = some x ∧ x.current = some cur ∧
        (cur.fanOut = [] ∨ p.awaited l ≠ none) ∧ a = .block cur.next := by
  unfold Part.laneRequest
  simp only [h]
  cases hx : (p.reader l).offload
  case none => simp
  case some x =>
    cases hc : x.current
    case none => simp [hc]
    case some cur =>
      simp only [Option.bind_some, hc, List.isEmpty_iff, Option.isSome_iff_ne_none, Option.ite_none_right_eq_some]
      constructor
      · rintro ⟨ht, hreq⟩
        cases hreq
        exact ⟨rfl, x, cur, rfl, hc, ht, rfl⟩
      · rintro ⟨rfl, y, cur', hy, hc', ht, rfl⟩
        cases hy
        cases hc.symm.trans hc'
        exact ⟨ht, rfl⟩

theorem Part.laneRequest_bound {p : Part} {l : Fin 6} (h : (p.reader l).state = .bound) (a : ReaderStep)
    (o : ReaderOwner) :
    p.laneRequest l = some (a, o) ↔
      p.awaited l ≠ none ∧ ∃ d x, (p.reader l).serves = some d ∧ p.recopyOf d = some x ∧ o = .recopy d ∧
        a = .block (p.recopyBlockNumber x) := by
  unfold Part.laneRequest
  simp only [h]
  cases hd : (p.reader l).serves
  case none => simp
  case some d =>
    cases hx : p.recopyOf d
    case none => simp [hx]
    case some x =>
      simp only [hx, Option.isSome_iff_ne_none, Option.ite_none_right_eq_some]
      constructor
      · rintro ⟨ht, hreq⟩
        cases hreq
        exact ⟨ht, d, x, rfl, hx, rfl, rfl⟩
      · rintro ⟨ht, d', y, hd', hy, rfl, rfl⟩
        cases hd'
        cases hx.symm.trans hy
        exact ⟨ht, rfl⟩

theorem Part.laneRequest_erasing {p : Part} {l : Fin 6} (h : (p.reader l).state = .erasing) (a : ReaderStep)
    (o : ReaderOwner) :
    p.laneRequest l = some (a, o) ↔ o = .erase ∧ ∃ x, (p.reader l).erase = some x ∧ a = .erase x.form := by
  unfold Part.laneRequest
  simp only [h]
  cases (p.reader l).erase
  case none => simp
  case some x => simp [eq_comm, and_comm]

theorem Part.laneRequest_iff (p : Part) (l : Fin 6) (a : ReaderStep) (o : ReaderOwner) :
    p.laneRequest l = some (a, o) ↔
      ((p.reader l).state = .mounting ∧ (p.reader l).mount = some none ∧ a = .block 0 ∧ o = .mount) ∨
        ((p.reader l).state = .mounting ∧ (∃ h, (p.reader l).mount = some (some h)) ∧ a = .block 1 ∧ o = .mount) ∨
        ((p.reader l).state = .offloading ∧ o = .offload ∧ ∃ x cur, (p.reader l).offload = some x ∧
          x.current = some cur ∧ (cur.fanOut = [] ∨ p.awaited l ≠ none) ∧ a = .block cur.next) ∨
        ((p.reader l).state = .bound ∧ p.awaited l ≠ none ∧ ∃ d x, (p.reader l).serves = some d ∧
          p.recopyOf d = some x ∧ o = .recopy d ∧ a = .block (p.recopyBlockNumber x)) ∨
        ((p.reader l).state = .erasing ∧ o = .erase ∧ ∃ x, (p.reader l).erase = some x ∧ a = .erase x.form) := by
  cases h : (p.reader l).state
  case mounting =>
    rw [Part.laneRequest_mounting h]
    simp
  case offloading =>
    rw [Part.laneRequest_offloading h]
    simp
  case bound =>
    rw [Part.laneRequest_bound h]
    simp
  case erasing =>
    rw [Part.laneRequest_erasing h]
    simp
  all_goals simp [Part.laneRequest, h]

/-! ### The stall of a reader (R34) -/

theorem Part.readerStall_of_none {p : Part} {l : Fin 6} (h : ∀ o, (p.reader l).out = some o → o.timer = none) :
    p.readerStall l = p := by
  unfold Part.readerStall
  cases ho : (p.reader l).out
  case none => rfl
  case some o => simp only [h o ho]

theorem Part.readerStall_of_some {p : Part} {l : Fin 6} {o : ReaderOut} {t : Nat} (ho : (p.reader l).out = some o)
    (ht : o.timer = some t) :
    p.readerStall l =
      let q := p.modReader l fun r => { r with out := none, retries := 0 }
      match o.owner with
      | .presence => q.presenceFailed l
      | .mount => q.failMount l .refused .abnormal .stalled (q.mountRef l) []
      | .offload => q.stopOffload l .bound .abnormal .stalled .none
      | .erase => q.endErase l .bound .abnormal .stalled .none
      | .recopy d => q.endRecopy d .abnormal .noSourceLeft .none
      | .preview c => q.channelAnswer c none := by
  unfold Part.readerStall
  simp only [ho, ht] <;> rfl

/-- Settles O55: each branch of the read procedure, of the stall and of the service is an equation of its own; what a failed
reader leaves rests on the relation of a part to what a loss leaves of it. -/
theorem readRetriedAndStalled : Obligations.ReadRetriedAndStalled := by
  refine ⟨?retried, ?stalled, fun p l => p.readerFailed_leaves l, ?served, fun _ _ _ _ => rfl⟩
  case retried =>
    intro p l o a code r
    refine ⟨Part.stepFailed_of_first, Part.stepFailed_of_again, Part.stepFailed_of_spent, ?mount, rfl,
      Part.reinitFailed_of_first, Part.reinitFailed_of_again⟩
    case mount =>
      intro detail
      have hdetail : detail = codeDetail code := (codeDetail_eq code).symm
      clear_value detail
      subst hdetail
      refine ⟨fun h => Part.mountUnreadable_of_header h code, fun h hm => ?_⟩
      intro q unreadable
      have hread : p.readUnreadable l .mount code = p.decideMount l h none code :=
        Part.mountUnreadable_of_directory hm code
      rw [hread]
      refine ⟨fun hk => Part.decideMount_new_unreadable hk rfl, fun i card hk => ⟨fun hs => ?_, fun hs => ⟨?_, ?_⟩⟩⟩
      · exact Part.decideMount_unreadable hk (not_or.mpr ⟨Bool.false_ne_true, hs⟩)
      · exact fun hl => Part.decideMount_bound hk (Or.inr hs) hl (Or.inl hs)
      · exact fun hl hl' => Part.decideMount_duplicate hk (Or.inr hs) hl hl'
  case stalled =>
    intro s l p
    refine ⟨fun h => acted_of_event rfl (Part.readerStall_of_none (p := s.part.quiet) h), fun o t ho ht => ?_⟩
    have hstall := Part.readerStall_of_some (p := s.part.quiet) ho ht
    refine ⟨fun hw => ?_, fun hw => ?_, fun hw => ?_, fun hw => ?_, fun d hw => ?_, fun c hw => ?_⟩
    all_goals
      rw [hw] at hstall
      exact acted_of_event rfl hstall
  case served =>
    intro p l r
    refine ⟨Part.serveReader_of_idle, fun ho hn he => ⟨Part.serveReader_of_owed ho hn he, fun i rest hp hi =>
      Part.serveReader_of_preview ho hn he hp hi, fun hp hi => ?_⟩, p.laneRequest_iff l⟩
    have hserve := Part.serveReader_of_lane ho hn he hp hi
    refine ⟨fun h => ?_, fun a o h => ?_⟩
    · rw [hserve, h]
    · rw [hserve, h]

end Sys2Proof.Machine

/-! The answers of a reader to the request outstanding, and what the requesters make of a block (R37, R55 to R60, R68, R71,
R105). -/

namespace Sys2Proof.Machine

/-! ### The answer to the request outstanding (R29) -/

/-- The request outstanding on a lane carries a tag and meets a test. -/
def Part.Asked (p : Part) (l : Fin 6) (tag : Byte) (f : ReaderRequest → Prop) : Prop :=
  ∃ o, (p.reader l).out = some o ∧ o.tag = tag ∧ f o.request

theorem Part.readerAsks_none {p : Part} {l : Fin 6} {tag : Byte} (h : ¬ p.Asked l tag fun _ => True) :
    p.readerAsks l tag = none := by
  cases ha : p.readerAsks l tag
  case none => rfl
  case some o =>
    obtain ⟨ho, ht⟩ := Part.readerAsks_some ha
    exact absurd ⟨o, ho, ht, trivial⟩ h

section
variable {p : Part} {l : Fin 6} {tag : Byte} {o : ReaderOut}

theorem Part.takeBlock_of_asked {n : Nat} {b : Block} (ho : (p.reader l).out = some o) (ht : o.tag = tag)
    (hq : o.request = .step (.block n)) :
    p.takeBlock l tag b =
      if b.checkGood then (p.modReader l fun r => { r with out := none, retries := 0 }).readGood l o.owner b
      else p.stepFailed l o (.block n) none := by
  unfold Part.takeBlock
  rw [Part.readerAsks_of_tag ho ht]
  dsimp only
  rw [hq]

theorem Part.takeBlock_of_other {b : Block} (h : ¬ p.Asked l tag fun q => ∃ n, q = .step (.block n)) :
    p.takeBlock l tag b = p := by
  unfold Part.takeBlock
  cases ha : p.readerAsks l tag
  case none => rfl
  case some o =>
    obtain ⟨ho, ht⟩ := Part.readerAsks_some ha
    dsimp only
    split
    next n hq => exact absurd ⟨o, ho, ht, n, hq⟩ h
    all_goals rfl

theorem Part.takeErase_of_asked {f : EraseForm} (ho : (p.reader l).out = some o) (ht : o.tag = tag)
    (hq : o.request = .step (.erase f)) :
    p.takeErase l tag = (p.modReader l fun r => { r with out := none, retries := 0 }).eraseAnswered l := by
  unfold Part.takeErase
  rw [Part.readerAsks_of_tag ho ht]
  dsimp only
  rw [hq]

theorem Part.takeErase_of_other (h : ¬ p.Asked l tag fun q => ∃ f, q = .step (.erase f)) : p.takeErase l tag = p := by
  unfold Part.takeErase
  cases ha : p.readerAsks l tag
  case none => rfl
  case some o =>
    obtain ⟨ho, ht⟩ := Part.readerAsks_some ha
    dsimp only
    split
    next f hq => exact absurd ⟨o, ho, ht, f, hq⟩ h
    all_goals rfl

theorem Part.takeReinit_of_asked {a : ReaderStep} (ready : Bool) (ho : (p.reader l).out = some o) (ht : o.tag = tag)
    (hq : o.request = .reinit a) :
    p.takeReinit l tag ready = if ready then p.reinitDone l o a else p.reinitFailed l o a := by
  unfold Part.takeReinit
  rw [Part.readerAsks_of_tag ho ht]
  dsimp only
  rw [hq]

theorem Part.takeReinit_of_other (ready : Bool) (h : ¬ p.Asked l tag fun q => ∃ a, q = .reinit a) :
    p.takeReinit l tag ready = p := by
  unfold Part.takeReinit
  cases ha : p.readerAsks l tag
  case none => rfl
  case some o =>
    obtain ⟨ho, ht⟩ := Part.readerAsks_some ha
    dsimp only
    split
    next a hq => exact absurd ⟨o, ho, ht, a, hq⟩ h
    all_goals rfl

theorem Part.takeReaderFault_of_asked (code : BitVec 16) (ho : (p.reader l).out = some o) (ht : o.tag = tag) :
    p.takeReaderFault l tag code =
      match o.request with
      | .presence => (p.modReader l fun r => { r with lastFault := some code }).presenceFailed l
      | .step s => (p.modReader l fun r => { r with lastFault := some code }).stepFailed l o s (some code)
      | .reinit again => (p.modReader l fun r => { r with lastFault := some code }).reinitFailed l o again := by
  unfold Part.takeReaderFault
  simp only [Part.readerAsks_of_tag ho ht] <;> rfl

theorem Part.takeReaderFault_of_other (code : BitVec 16) (h : ¬ p.Asked l tag fun _ => True) :
    p.takeReaderFault l tag code = p := by
  unfold Part.takeReaderFault
  rw [Part.readerAsks_none h]

end

theorem blockGood_iff (b : Block) : b.checkGood = true ↔ b.computedCheck = b.check := beq_iff_eq

theorem Part.modCard_modReader (p : Part) (l : Fin 6) (i : Nat) (f : ReaderLane → ReaderLane) (g : Card → Card) :
    (p.modReader l f).modCard i g = (p.modCard i g).modReader l f := rfl

/-! ### An erase goes on (R71) -/

theorem Part.eraseAnswered_of_run {p : Part} {l : Fin 6} {x : EraseCtx} {first count : Nat}
    (hx : (p.reader l).erase = some x) (hf : x.form = .run first count) :
    p.eraseAnswered l =
      p.modReader l fun r =>
        { r with erase := some { x with form := x.form.after r.blocks, erased := x.erased + count } } := by
  unfold Part.eraseAnswered
  simp only [hx, hf]

theorem Part.eraseAnswered_of_header {p : Part} {l : Fin 6} {x : EraseCtx}
    (hx : (p.reader l).erase = some x) (hf : x.form = .header) :
    p.eraseAnswered l =
      (p.modCard x.card fun c => { c with state := .released, erased := true, eraseIncomplete := false }).modReader l
        fun r =>
          { r with state := .bound, erase := none,
                   term := { record := some (eraseTerm x .normal .erased .none), unsensed := true } } := by
  unfold Part.eraseAnswered
  simp only [hx, hf, Part.termReader, Part.modReader_modReader] <;> rfl

theorem EraseForm.after_of_more {first count blocks : Nat} (h : first + count < blocks) :
    (EraseForm.run first count).after blocks = .run (first + count) (min 1024 (blocks - (first + count))) := if_pos h

theorem EraseForm.after_of_last {first count blocks : Nat} (h : blocks ≤ first + count) :
    (EraseForm.run first count).after blocks = .header := if_neg (by omega)

/-! ### A block of an offload (R55) -/

/-- The block in the slots of the lane that await it. -/
def Part.storeBlock (p : Part) (l : Fin 6) (b : Block) : Part :=
  p.setSlots fun ss => modWhere ss (fun s => s.lane == l && s.data.isNone) fun s => { s with data := some b }

theorem Part.offloadBlock_of_current {p : Part} {l : Fin 6} {b : Block} {cur : Current} {c : Clip}
    (hcur : (p.reader l).offload.bind (·.current) = some cur) (hc : p.clip cur.clip = some c) :
    p.offloadBlock l b =
      if c.headerCheck (cur.next - c.firstBlock) b then
        let last := decide (c.firstBlock + c.blockCount ≤ cur.next + 1)
        let r := if cur.reread then (p, none) else p.analyze l cur.clip c b last
        match r.2 with
        | some trip => r.1.tripReading l trip
        | none =>
          if last then (r.1.storeBlock l b).ingestComplete l cur c (digestFinal (digestAdd cur.digest b))
          else
            (r.1.storeBlock l b).modOffload l fun x =>
              { x with current := x.current.map fun y => { y with digest := digestAdd cur.digest b, next := y.next + 1 } }
      else p.abandonFault l .headerMismatch cur.next := by
  unfold Part.offloadBlock
  simp only [hcur, hc] <;> rfl

theorem Part.clipFailed_of_current {p : Part} {l : Fin 6} {x : OffloadCtx} {cur : Current}
    (hx : (p.reader l).offload = some x) (hcur : x.current = some cur) :
    p.clipFailed l = if cur.barred then p else p.modCard x.card fun c => { c with failed := c.failed + 1 } := by
  unfold Part.clipFailed
  simp only [hx, hcur]

theorem Part.abandonFault_of_current {p : Part} {l : Fin 6} {cur : Current}
    (hcur : (p.reader l).offload.bind (·.current) = some cur) (k : FaultKind) (n : Nat) :
    p.abandonFault l k n =
      let r := (p.mergeFault cur.clip (Raise.integrity k 0 (some (.block n)))).countRaise l k
      match r.2 with
      | some trip => r.1.tripReading l trip
      | none => ((r.1.clipFailed l).abandonClip l).consider l := by
  unfold Part.abandonFault
  simp only [hcur] <;> rfl

theorem Part.offloadUnreadable_of_current {p : Part} {l : Fin 6} {cur : Current}
    (hcur : (p.reader l).offload.bind (·.current) = some cur) :
    p.offloadUnreadable l = p.abandonFault l .readError cur.next := by
  unfold Part.offloadUnreadable
  rw [hcur]

theorem Part.endTripped_of_some {p : Part} {l : Fin 6} {x : OffloadCtx} {card : Card} (k : FaultKind) (n : Nat)
    (hx : (p.reader l).offload = some x) (hc : p.card x.card = some card) :
    p.endTripped l (k, n) =
      ((p.leaveQueue l).modReader l fun r =>
        { r.abandonOf .offload with
          state := .bound, offload := none, analyzer := Analyzer.cleared
          term :=
            { record := some
                { cls := .abnormal, op := .offload, cause := .tripped, ref := .card x.card,
                  counts := [card.nextPos, card.copied, card.failed, card.skipped], detail := .trip k n }
              unsensed := true } }).modCard x.card fun c => { c with state := .tripped } := by
  have hswap (q : Part) (f : Card → Card) : (q.modCard x.card f).clearAnalyzer l = (q.clearAnalyzer l).modCard x.card f :=
    rfl
  unfold Part.endTripped
  rw [hx]
  dsimp only
  rw [hswap]
  simp only [Part.clearAnalyzer, Part.modAnalyzer, Part.termReader, Part.dropOffload, Part.modReader_modReader,
    Part.offloadTerm, hc, TermSlot.leave]

/-! ### An ingest completes (R57, R58) -/

/-- The end of an ingest once its mismatch is known: the READ_ERROR and HEADER_MISMATCH entries cured, the next clip. -/
def Part.ingestEnds (p : Part) (l : Fin 6) (clip : Nat) (trip : Option Trip) : Part :=
  let q := (p.removeFaults clip fun f => f.kind == .readError || f.kind == .headerMismatch).modOffload l fun x =>
    { x with current := none }
  match trip with
  | some x => q.endTripped l x
  | none => q.consider l

section
variable {p : Part} {l : Fin 6} {cur : Current} {c : Clip} {digest : BitVec 64}

/-- A first ingest keeps its digest, and tells a mismatch with the camera's. -/
theorem Part.ingestComplete_first (hc : c.ingestDigest = none) (hr : cur.reread = false) :
    p.ingestComplete l cur c digest =
      let kept := p.modClip cur.clip fun x => { x with ingestDigest := some digest }
      let r :=
        if (match c.cameraDigest with
          | some d => d != digest
          | none => false) then kept.sourceMismatch l cur.clip
        else (kept, none)
      (r.1.mergePending l cur.clip).ingestEnds l cur.clip r.2 := by
  unfold Part.ingestComplete
  simp only [hc, hr, Option.isNone_none, if_true, Bool.false_eq_true, if_false] <;> rfl

/-- A second ingest tells a mismatch with the first one. -/
theorem Part.ingestComplete_again {x : BitVec 64} (hc : c.ingestDigest = some x) (hr : cur.reread = true) :
    p.ingestComplete l cur c digest =
      let r := if some x != some digest then p.sourceMismatch l cur.clip else (p, none)
      r.1.ingestEnds l cur.clip r.2 := by
  unfold Part.ingestComplete
  simp only [hc, hr, Option.isNone_some, Bool.false_eq_true, if_false, if_true] <;> rfl

theorem Part.ingestComplete_of_agreeing (hc : c.ingestDigest = none) (hr : cur.reread = false)
    (hd : c.cameraDigest = none ∨ c.cameraDigest = some digest) :
    p.ingestComplete l cur c digest =
      ((p.modClip cur.clip fun x => { x with ingestDigest := some digest }).mergePending l cur.clip).ingestEnds l cur.clip
        none := by
  rw [Part.ingestComplete_first hc hr]
  rcases hd with hd | hd
  · simp only [hd, Bool.false_eq_true, if_false]
  · simp only [hd, bne_self_eq_false, Bool.false_eq_true, if_false]

theorem Part.ingestComplete_of_differing {x : BitVec 64} (hc : c.ingestDigest = none) (hr : cur.reread = false)
    (hd : c.cameraDigest = some x) (hx : x ≠ digest) :
    p.ingestComplete l cur c digest =
      (((p.modClip cur.clip fun x => { x with ingestDigest := some digest }).sourceMismatch l cur.clip).1.mergePending l
        cur.clip).ingestEnds l cur.clip
        ((p.modClip cur.clip fun x => { x with ingestDigest := some digest }).sourceMismatch l cur.clip).2 := by
  rw [Part.ingestComplete_first hc hr]
  simp only [hd, bne_iff_ne.mpr hx, if_true]

theorem Part.ingestComplete_of_same (hc : c.ingestDigest = some digest) (hr : cur.reread = true) :
    p.ingestComplete l cur c digest = p.ingestEnds l cur.clip none := by
  rw [Part.ingestComplete_again hc hr]
  simp only [bne_self_eq_false, Bool.false_eq_true, if_false]

theorem Part.ingestComplete_of_other {x : BitVec 64} (hc : c.ingestDigest = some x) (hr : cur.reread = true)
    (hx : x ≠ digest) :
    p.ingestComplete l cur c digest =
      (p.sourceMismatch l cur.clip).1.ingestEnds l cur.clip (p.sourceMismatch l cur.clip).2 := by
  rw [Part.ingestComplete_again hc hr]
  have hne : (some x != some digest) = true := bne_iff_ne.mpr fun h => hx (Option.some.inj h)
  simp only [hne, if_true]

end

/-! ### A block of a recopy from a card (R105) -/

theorem Part.modRecopy_of_some {p : Part} {d : Fin 4} {x : RecopyCtx} (h : p.recopyOf d = some x)
    (g : RecopyCtx → RecopyCtx) : p.modRecopy d g = p.modDest d fun r => { r with explicit := some (.recopy (g x)) } := by
  refine p.modDest_congr d _ _ ?_
  rw [Part.explicit_of_recopyOf h]

theorem Part.recopyBlockNumber_of_clip {p : Part} {x : RecopyCtx} {c : Clip} (h : p.clip x.clip = some c) :
    p.recopyBlockNumber x = c.firstBlock + x.next := by
  unfold Part.recopyBlockNumber
  rw [h]

section
variable {p : Part} {l : Fin 6} {d : Fin 4} {x : RecopyCtx} {c : Clip} {b : Block}

theorem Part.recopyCardBlock_of_differing (hx : p.recopyOf d = some x) (hc : p.clip x.clip = some c)
    (hb : c.headerCheck x.next b = false) :
    p.recopyCardBlock l d b = p.endRecopy d .abnormal .noSourceLeft (.header (c.firstBlock + x.next)) := by
  unfold Part.recopyCardBlock
  simp only [hx, hc, hb, Bool.false_eq_true, if_false, Part.recopyBlockNumber_of_clip hc]

theorem Part.recopyCardBlock_of_good {s : Slot} (hx : p.recopyOf d = some x) (hc : p.clip x.clip = some c)
    (hb : c.headerCheck x.next b = true) (hs : p.awaited l = some s) :
    p.recopyCardBlock l d b =
      (p.setSlots fun ss => ss.map fun y => if y.id = s.id then { y with data := some b } else y).modDest d fun r =>
        { r with recopies := r.recopies ++ [.slot s.id], explicit := some (.recopy { x with next := x.next + 1 }) } := by
  have hstored (q : Part) : (q.setSlots fun ss => modWhere ss (fun t => t.id == s.id) fun t => { t with data := some b }) =
      q.setSlots fun ss => ss.map fun y => if y.id = s.id then { y with data := some b } else y := by
    simp only [modWhere, beq_iff_eq]
  unfold Part.recopyCardBlock
  simp only [hx, hc, hb, hs, if_true, hstored]
  have hx' : ((p.setSlots fun ss => ss.map fun y => if y.id = s.id then { y with data := some b } else y).modDest d
      fun r => { r with recopies := r.recopies ++ [.slot s.id] }).recopyOf d = some x := by
    refine Part.recopyOf_of_explicit ?_
    rw [Part.dest_modDest_self]
    exact Part.explicit_of_recopyOf hx
  rw [Part.modRecopy_of_some hx', Part.modDest_modDest]

theorem Part.recopyCardUnreadable_of_some (hx : p.recopyOf d = some x) (hc : p.clip x.clip = some c) :
    p.recopyCardUnreadable d =
      p.endRecopy d .abnormal .noSourceLeft (.mismatch .unreadable (c.firstBlock + x.next)) := by
  unfold Part.recopyCardUnreadable
  simp only [hx, Part.recopyBlockNumber_of_clip hc]

end

/-! ### A block of a mount (R37) -/

theorem Part.mountBlock_of_header {p : Part} {l : Fin 6} {b : Block} (h : (p.reader l).mount = some none) :
    p.mountBlock l b =
      if b.blankHeader then p.failMount l .blank .normal .blankCard (.identity b.cardHeader.id) []
      else if b.goodHeader then p.modReader l fun r => { r with mount := some (some b.cardHeader) }
      else p.failMount l .refused .abnormal .directoryUnreadable (.identity b.cardHeader.id) [] := by
  unfold Part.mountBlock
  rw [h]

theorem Part.mountBlock_of_directory {p : Part} {l : Fin 6} {b : Block} {h : CardHeader}
    (hm : (p.reader l).mount = some (some h)) : p.mountBlock l b = p.decideMount l h (some b) none := by
  unfold Part.mountBlock
  rw [hm]

/-! ### The parts of the obligation -/

/-- Settles O54: an answer goes to the request of its tag; what a requester makes of a block is an equation for each branch
of its rule. -/
theorem readerAnswered : Obligations.ReaderAnswered := by
  refine ⟨?answered, ?others, ?offload, ?abandoned, ?tripped, ?recopy, ?simple, ?form, ?ingest, ?raises, ?mount, ?mounted,
    ?failed, ?commands, ?stored⟩
  case answered =>
    intro s l tag o ho ht
    have ho' : (s.part.quiet.reader l).out = some o := ho
    refine ⟨fun b n hq => ⟨fun hb => ?_, fun hb => ?_⟩, fun code => ?_, fun a hq => ⟨?_, ?_⟩, fun f x hq hx => ⟨?_, ?_⟩⟩
    · refine acted_of_event rfl ((Part.takeBlock_of_asked ho' ht hq).trans (if_pos ?_))
      exact (blockGood_iff b).mpr hb
    · refine acted_of_event rfl ((Part.takeBlock_of_asked ho' ht hq).trans (if_neg ?_))
      exact fun h => hb ((blockGood_iff b).mp h)
    · intro p
      have hfault := Part.takeReaderFault_of_asked code ho' ht
      refine ⟨fun hq => ?_, fun a hq => ?_, fun a hq => ?_⟩
      all_goals
        rw [hq] at hfault
        exact acted_of_event rfl hfault
    · exact acted_of_event rfl (Part.takeReinit_of_asked true ho' ht hq)
    · exact acted_of_event rfl (Part.takeReinit_of_asked false ho' ht hq)
    all_goals
      have hx' : ((s.part.quiet.modReader l fun r => { r with out := none, retries := 0 }).reader l).erase = some x := by
        rw [Part.reader_modReader_self]
        exact hx
    · intro first count hf
      refine acted_of_event rfl ((Part.takeErase_of_asked ho' ht hq).trans ((Part.eraseAnswered_of_run hx' hf).trans ?_))
      exact Part.modReader_modReader _ l _ _
    · intro hf
      refine acted_of_event rfl ((Part.takeErase_of_asked ho' ht hq).trans ((Part.eraseAnswered_of_header hx' hf).trans ?_))
      rw [Part.modCard_modReader, Part.modReader_modReader]
  case others =>
    intro s l tag asked
    refine ⟨fun b h => ?_, fun h => ?_, fun ready h => ?_, fun code h => ?_⟩
    · exact acted_of_event rfl (Part.takeBlock_of_other (p := s.part.quiet) h)
    · exact acted_of_event rfl (Part.takeErase_of_other (p := s.part.quiet) h)
    · exact acted_of_event rfl (Part.takeReinit_of_other (p := s.part.quiet) ready h)
    · exact acted_of_event rfl (Part.takeReaderFault_of_other (p := s.part.quiet) code h)
  case offload =>
    intro p l b cur c hcur hc last digest stored goesOn
    have hread : p.readGood l .offload b = p.offloadBlock l b := rfl
    have hblock := Part.offloadBlock_of_current (b := b) hcur hc
    refine ⟨fun hh => ?_, fun hh => ⟨fun hr => ?_, fun hr ha => ?_, fun trip hr ha => ?_⟩⟩
    · rw [hread, hblock, hh]
      exact if_neg Bool.false_ne_true
    · rw [hread, hblock, if_pos hh]
      simp only [hr, if_true] <;> rfl
    · rw [hread, hblock, if_pos hh]
      simp only [hr, Bool.false_eq_true, if_false, last] at ha ⊢
      rw [ha] <;> rfl
    · rw [hread, hblock, if_pos hh]
      simp only [hr, Bool.false_eq_true, if_false, last] at ha ⊢
      rw [ha] <;> rfl
  case abandoned =>
    intro p l x cur hx hcur
    have hbind : (p.reader l).offload.bind (·.current) = some cur := by
      rw [hx]
      exact hcur
    refine ⟨Part.clipFailed_of_current hx hcur, fun k n => ?_, fun code => Part.offloadUnreadable_of_current hbind,
      fun trip => rfl⟩
    intro raised
    have habandon : p.abandonFault l k n =
        match raised.2 with
        | some trip => raised.1.tripReading l trip
        | none => ((raised.1.clipFailed l).abandonClip l).consider l := Part.abandonFault_of_current hbind k n
    refine ⟨fun h => ?_, fun trip h => ?_⟩
    · rw [habandon, h]
    · rw [habandon, h]
  case tripped =>
    intro p l x card k n hx hc unqueued freed term
    refine (Part.endTripped_of_some k n hx hc).trans ?_
    simp only [ReaderLane.abandonOf_eq] <;> rfl
  case recopy =>
    intro p l d x c hx hc
    refine ⟨fun b hb => Part.recopyCardBlock_of_differing hx hc hb, fun b s hb hs => Part.recopyCardBlock_of_good hx hc hb hs,
      fun code => Part.recopyCardUnreadable_of_some hx hc⟩
  case simple =>
    intro p l c code
    refine ⟨fun b => rfl, rfl, fun h => ?_, fun k h => ?_⟩
    all_goals
      have hread : p.readUnreadable l .erase code =
          p.endErase l .bound .abnormal .equipmentCheck (codeDetail (p.reader l).lastFault) := rfl
      rw [hread, h]
      rfl
  case form => exact fun first count blocks => ⟨EraseForm.after_of_more, EraseForm.after_of_last⟩
  case ingest =>
    intro p l cur c digest ends kept
    refine ⟨Part.ingestComplete_of_agreeing, fun x => Part.ingestComplete_of_differing, Part.ingestComplete_of_same,
      fun x => Part.ingestComplete_of_other⟩
  case raises => exact fun p l i k => ⟨rfl, rfl, rfl⟩
  case mount =>
    intro p l b
    refine ⟨fun hm => ⟨fun hb => ?_, fun hb hg => ?_, fun hb hg => ?_⟩, fun h hm => ?_⟩
    · exact (Part.mountBlock_of_header hm).trans (if_pos hb)
    · refine (Part.mountBlock_of_header hm).trans ((if_neg ?_).trans (if_pos hg))
      rw [hb]
      exact Bool.false_ne_true
    · refine (Part.mountBlock_of_header hm).trans ((if_neg ?_).trans (if_neg ?_))
      · rw [hb]
        exact Bool.false_ne_true
      · rw [hg]
        exact Bool.false_ne_true
    · intro q refused outcome
      have hout : outcome = p.decideMount l h (some b) none := Part.mountBlock_of_directory hm
      clear_value outcome
      subst hout
      refine ⟨fun i card hk => ?_, fun hk => ⟨fun hg => ?_, fun hg hc hf => ?_, fun hg hc => ⟨fun hf => ?_, fun i hf =>
        ⟨fun hlen => ?_, fun hlen => ?_⟩⟩⟩⟩
      · intro canRead
        refine ⟨fun hr => Part.decideMount_unreadable hk hr, fun hr hl hl' => Part.decideMount_duplicate hk hr hl hl',
          fun hr hl => ⟨fun hd => Part.decideMount_bound hk hr hl hd, fun hs hd =>
            Part.decideMount_conflict hk hr hl hs hd⟩⟩
      · exact Part.decideMount_new_unreadable hk hg
      · exact Part.decideMount_cameras hk hg hc hf
      all_goals
        have hroom := Part.decideMount_room (b := some b) (code := none) hk hg hc
        have hf' : tfree (p.unbindOther l h.id).cards Config.cards = _ := hf
        rw [hf'] at hroom
      · exact hroom
      · exact hroom.trans (if_pos hlen)
      · exact hroom.trans (if_neg (Nat.not_lt.mpr hlen))
  case mounted =>
    intro p l i card hc q ended
    have hend := Part.endMount_of_some (l := l) hc
    refine ⟨fun h => ?_, fun hm hs => ⟨fun hp => ?_, fun hp => ?_⟩⟩
    · refine hend.trans (if_neg ?_)
      rintro ⟨hm, hs⟩
      rcases h with h | h
      · exact nomatch h.symm.trans hm
      · exact h hs
    · exact hend.trans ((if_pos ⟨hm, hs⟩).trans (if_pos hp))
    · refine hend.trans ((if_pos ⟨hm, hs⟩).trans (if_neg ?_))
      rw [show (card.clips.foldl Part.regainClip p).planPasses card.plan = false from hp]
      exact Bool.false_ne_true
  case failed =>
    intro p l dst cls cause ref counts detail r
    obtain ⟨x, hx, hr⟩ := p.reader_failMount l dst cls cause ref counts detail
    have hr : r = _ := hr
    clear_value r
    subst hr
    exact ⟨hx.state, hx.mount, rfl⟩
  case commands =>
    intro l tag fields
    refine ⟨rfl, rfl, rfl, fun lo hi => ?_, fun x => rfl, fun mark asked present locked count => ?_, fun type h =>
      readerCommand_unknown l _ type h, rfl, fun n => rfl, fun a => rfl, fun n k => rfl, rfl⟩
    · exact congrArg (Instr.readerFaultAnswer l tag) (code_of_bytes lo hi)
    · by_cases hm : mark = 0
      · subst hm
        rfl
      · have hflag : (mark != 0) = true := bne_iff_ne.mpr hm
        rw [if_neg hm]
        exact congrArg (fun f : Bool =>
          Instr.presenceNotice l (if f then some asked else none) (present != 0) (locked != 0) count) hflag
  case stored => exact fun b hh hp hl => Block.ofBytes_bytes hh hp hl

end Sys2Proof.Machine

/-! An Identify Answer: the decision against the Volume Table, what an attach leaves, the identification after a reset (R80,
R90). -/

namespace Sys2Proof.Machine

/-! ### What an attach hands on leaves the volumes and the lanes' states alone -/

/-- A destination lane but for its release list and its render requests. -/
def DestLane.still (r : DestLane) : DestLane := { r with release := [], renders := [] }

/-- The volume records, and the destination lanes but for their release lists and render requests. -/
def Part.still (p : Part) : Table Volume × (Fin 4 → DestLane) := (p.volumes, fun d => (p.dest d).still)

theorem Part.still_each {α : Type} (xs : List α) (f : Part → α → Part) (h : ∀ q x, (f q x).still = q.still) :
    ∀ p : Part, (p.each xs f).still = p.still := by
  induction xs with
  | nil => exact fun _ => rfl
  | cons x xs ih => exact fun p => (ih (f p x)).trans (h p x)

theorem Part.still_modDest (p : Part) (d : Fin 4) (f : DestLane → DestLane) (h : ∀ r, (f r).still = r.still) :
    (p.modDest d f).still = p.still := by
  refine Prod.ext rfl (funext fun e => ?_)
  by_cases he : e = d
  · subst he
    exact (congrArg DestLane.still (Part.dest_modDest_self p e f)).trans (h _)
  · exact congrArg DestLane.still (Part.dest_modDest_other p d e f he)

theorem Part.still_evaluate (p : Part) (i : Nat) : (p.evaluate i).still = p.still := by
  unfold Part.evaluate
  split
  next =>
    split
    next => rfl
    next => split <;> rfl
  next => rfl

theorem Part.still_evaluateVolume (p : Part) (v : Nat) : (p.evaluateVolume v).still = p.still :=
  Part.still_each _ _ Part.still_evaluate p

theorem Part.still_queueRender (p : Part) (v : Nat) (i : RenderItem) : (p.queueRender v i).still = p.still := by
  unfold Part.queueRender
  split
  next => exact p.still_modDest _ _ fun _ => rfl
  next => rfl

theorem Part.still_renderRead (p : Part) : p.renderRead.still = p.still := by
  unfold Part.renderRead
  split
  next =>
    split
    next => exact p.still_queueRender _ _
    next => rfl
  next => rfl

theorem Part.still_claimRelease (p : Part) (v : Nat) (k : CopyKey) : (p.claimRelease v k).still = p.still := by
  unfold Part.claimRelease
  split
  next =>
    split
    next => exact p.still_modDest _ _ fun _ => rfl
    next => rfl
  next => rfl

theorem Part.still_startRender (p : Part) (e : RenderEntry) : (p.startRender e).still = p.still := by
  have hread (q : Part) (f : RenderEngine → RenderEngine) : (q.setRender f).renderRead.still = q.still :=
    Part.still_renderRead _
  have hproxy (q : Part) (b : Bool) (i v : Nat) (k : CopyKey) :
      (if b then (q.modClip i fun c => { c with proxy := none }).claimRelease v k else q).still = q.still := by
    cases b
    case false => rfl
    case true => exact Part.still_claimRelease _ v k
  have hpin (u : Option (Nat × Nat)) :
      (match u with
        | some (l, _) => p.modLook l Look.pin
        | none => p).still = p.still := by
    cases u <;> rfl
  unfold Part.startRender
  split
  next => exact (hread _ _).trans ((hproxy _ _ _ _ _).trans (hpin _))
  next => rfl

theorem Part.still_examine (p : Part) : p.examine.still = p.still := by
  unfold Part.examine
  split
  next =>
    split
    next => exact p.still_startRender _
    next => rfl
  next => rfl

theorem Part.still_regainSource (p : Part) (c : Fin 2) : (p.regainSource c).still = p.still := by
  unfold Part.regainSource
  split
  next => split <;> rfl
  next => rfl

theorem Part.still_regainAll (p : Part) : p.regainAll.still = p.still := Part.still_each _ _ Part.still_regainSource p

theorem Part.still_handAttach (p : Part) (v : Nat) : (p.handAttach v).still = p.still :=
  (Part.still_regainAll _).trans ((Part.still_examine _).trans (p.still_evaluateVolume v))

theorem Part.volume_of_still {p q : Part} (h : q.still = p.still) (v : Nat) : q.volume v = p.volume v :=
  congrArg (fun s : Table Volume × (Fin 4 → DestLane) => tget s.1 v) h

theorem Part.dest_of_still {p q : Part} (h : q.still = p.still) (d : Fin 4) : (q.dest d).still = (p.dest d).still :=
  congrArg (fun s => s.2 d) h

/-! ### To attach (R80) -/

theorem Part.volume_modVolume_self {p : Part} {v : Nat} {r : Volume} (h : p.volume v = some r) (f : Volume → Volume) :
    (p.modVolume v f).volume v = some (f r) := by
  have h' : tget p.volumes v = some r := h
  exact (tget_tmod p.volumes v v f).trans (by rw [if_pos rfl, h', Option.map_some])

/-- The lane and the volume as an attach sets them. -/
def Part.setAttached (p : Part) (d : Fin 4) (v : Nat) (prot : Bool) (free : Nat) : Part :=
  ((p.modVolume v fun r => { r with lane := some d, attach := attachmentOf prot, free := free }).modDest d fun r =>
    { r with state := attachState prot free, changed := true })

theorem Part.attach_eq (p : Part) (d : Fin 4) (v : Nat) (prot : Bool) (free : Nat) :
    p.attach d v prot free =
      ((p.setAttached d v prot free).handAttach v).termDest d
        (identifyTerm .normal .attached (.volume v)
          [(attachmentOf prot).code, free % 4294967296, free / 4294967296] .none) := by
  unfold Part.attach Part.setAttached Part.changedDest
  dsimp only
  rw [Part.modDest_modDest]

theorem Part.volume_attach {p : Part} {v : Nat} {r : Volume} (h : p.volume v = some r) (d : Fin 4) (prot : Bool)
    (free : Nat) :
    (p.attach d v prot free).volume v =
      some { r with lane := some d, attach := attachmentOf prot, free := free } := by
  rw [p.attach_eq]
  refine (Part.volume_of_still (Part.still_handAttach (p.setAttached d v prot free) v) v).trans ?_
  exact Part.volume_modVolume_self h fun r => { r with lane := some d, attach := attachmentOf prot, free := free }

theorem Part.dest_attach (p : Part) (d : Fin 4) (v : Nat) (prot : Bool) (free : Nat) :
    ((p.attach d v prot free).dest d).state = attachState prot free ∧
      ((p.attach d v prot free).dest d).changed = true ∧
      ((p.attach d v prot free).dest d).term =
        { record := some (identifyTerm .normal .attached (.volume v)
            [(attachmentOf prot).code, free % 4294967296, free / 4294967296] .none)
          unsensed := true } := by
  have hdest : (p.attach d v prot free).dest d =
      { ((p.setAttached d v prot free).handAttach v).dest d with
        term := { record := some (identifyTerm .normal .attached (.volume v)
            [(attachmentOf prot).code, free % 4294967296, free / 4294967296] .none)
                  unsensed := true } } := by
    rw [p.attach_eq]
    exact Part.dest_modDest_self _ d _
  have hstill := Part.dest_of_still (Part.still_handAttach (p.setAttached d v prot free) v) d
  have hset : (p.setAttached d v prot free).dest d =
      { p.dest d with state := attachState prot free, changed := true } := Part.dest_modDest_self _ d _
  rw [hset] at hstill
  have hstate := congrArg DestLane.state hstill
  have hchanged := congrArg DestLane.changed hstill
  rw [hdest]
  exact ⟨hstate, hchanged, rfl⟩

/-! ### The decision against the Volume Table (R80) -/

theorem Part.refuseVolume_eq (p : Part) (d : Fin 4) (cause : Cause) (ref : Reference) (detail : Detail) :
    p.refuseVolume d cause ref detail =
      p.modDest d fun r =>
        { r with state := .refused
                 term := { record := some (identifyTerm .abnormal cause ref [] detail), unsensed := true } } :=
  p.modDest_modDest d (fun r => { r with state := .refused }) fun r =>
    { r with term := { record := some (identifyTerm .abnormal cause ref [] detail), unsensed := true } }

section
variable {p : Part} {d : Fin 4} {label : List Byte} {serial : BitVec 64} {prot : Bool} {free v : Nat} {r : Volume}

theorem Part.decideVolume_of_free (hk : (p.volumes.find? fun e => e.2.sameIdentity label serial) = some (v, r))
    (hl : r.lane = none ∨ r.lane = some d) : p.decideVolume d label serial prot free = p.attach d v prot free := by
  unfold Part.decideVolume
  rw [hk]
  refine if_neg ?_
  rintro ⟨hs, hne⟩
  rcases hl with hl | hl
  · rw [hl] at hs
    exact absurd hs Bool.false_ne_true
  · exact hne hl

theorem Part.decideVolume_of_elsewhere {e : Fin 4}
    (hk : (p.volumes.find? fun e => e.2.sameIdentity label serial) = some (v, r)) (hl : r.lane = some e) (he : e ≠ d) :
    p.decideVolume d label serial prot free =
      p.refuseVolume d .identityConflict (.volumeIdentity label serial) .none := by
  unfold Part.decideVolume
  rw [hk]
  refine if_pos ⟨by rw [hl]; rfl, fun h => he ?_⟩
  exact Option.some.inj (hl.symm.trans h)

theorem Part.decideVolume_of_new (hk : (p.volumes.find? fun e => e.2.sameIdentity label serial) = none)
    (hf : tfree p.volumes Config.volumes = some v) :
    p.decideVolume d label serial prot free =
      Part.attach { p with volumes := tset p.volumes v (newVolume label serial) } d v prot free := by
  unfold Part.decideVolume
  simp only [hk, hf]

theorem Part.decideVolume_of_full (hk : (p.volumes.find? fun e => e.2.sameIdentity label serial) = none)
    (hf : tfree p.volumes Config.volumes = none) :
    p.decideVolume d label serial prot free =
      p.refuseVolume d .volumeTableFull (.volumeIdentity label serial) .none := by
  unfold Part.decideVolume
  simp only [hk, hf]

end

/-! ### The answer to an Identify Request (R80, R90) -/

theorem Part.volumeAsks_of_tag {p : Part} {d : Fin 4} {tag : Byte} {o : VolumeOut} (ho : (p.dest d).out = some o)
    (ht : o.tag = tag) : p.volumeAsks d tag = some o := by
  unfold Part.volumeAsks
  rw [ho]
  exact if_pos ht

theorem Part.takeIdentify_of_asked {p : Part} {d : Fin 4} {tag : Byte} {o : VolumeOut} (label : List Byte)
    (serial : BitVec 64) (prot : Bool) (free : Nat) (ho : (p.dest d).out = some o) (ht : o.tag = tag)
    (hq : o.request = .identify) :
    p.takeIdentify d tag label serial prot free = p.identified d label serial prot free := by
  unfold Part.takeIdentify
  rw [Part.volumeAsks_of_tag ho ht]
  dsimp only
  rw [hq]

section
variable {p : Part} {d : Fin 4} {label : List Byte} {serial : BitVec 64} {prot : Bool} {free v : Nat} {r : Volume}

theorem Part.identified_of_unbound (hb : p.boundVolume d = none) :
    p.identified d label serial prot free =
      (p.modDest d fun r => { r with out := none }).decideVolume d label serial prot free := by
  have hb' : (p.modDest d fun r => { r with out := none }).boundVolume d = none := hb
  unfold Part.identified
  dsimp only
  rw [hb']

theorem Part.identified_of_bound (hb : p.boundVolume d = some v) (hv : p.volume v = some r) :
    p.identified d label serial prot free =
      if r.sameIdentity label serial then (p.modDest d fun r => { r with out := none }).refreshVolume d v prot free
      else
        (((p.modDest d fun r => { r with out := none }).detach d v).modDest d fun r =>
          { r with release := [] }).decideVolume d label serial prot free := by
  have hb' : (p.modDest d fun r => { r with out := none }).boundVolume d = some v := hb
  have hv' : (p.modDest d fun r => { r with out := none }).volume v = some r := hv
  unfold Part.identified
  dsimp only
  rw [hb']
  dsimp only
  rw [hv']

theorem Volume.sameIdentity_iff : r.sameIdentity label serial = true ↔ r.label = label ∧ r.serial = serial := by
  unfold Volume.sameIdentity
  rw [Bool.and_eq_true, beq_iff_eq, beq_iff_eq]

end

/-- The volume identified again, handed on as an attach (R90). -/
def Part.refreshed (p : Part) (d : Fin 4) (v : Nat) (prot : Bool) (free : Nat) : Part :=
  ((p.modVolume v fun x => { x with attach := attachmentOf prot, free := free }).modDest d fun x =>
    { x with state := attachState prot free, reidentify := false,
             changed := x.changed || (p.dest d).state != attachState prot free }).handAttach v

theorem Part.refreshVolume_eq (p : Part) (d : Fin 4) (v : Nat) (prot : Bool) (free : Nat) :
    p.refreshVolume d v prot free =
      if (p.dest d).state = attachState prot free then p.refreshed d v prot free
      else if attachState prot free = .full then (p.refreshed d v prot free).enterFull d v
      else if attachState prot free = .onlineReadonly then (p.refreshed d v prot free).losePlanVolumeAll v
      else p.refreshed d v prot free := rfl

theorem Part.refreshVolume_of_kept {p : Part} {d : Fin 4} {v : Nat} {prot : Bool} {free : Nat}
    (h : (p.dest d).state = attachState prot free ∨ attachState prot free = .online) :
    p.refreshVolume d v prot free = p.refreshed d v prot free := by
  rw [Part.refreshVolume_eq]
  by_cases hs : (p.dest d).state = attachState prot free
  · rw [if_pos hs]
  · have hon := h.resolve_left hs
    rw [if_neg hs, if_neg (by rw [hon]; decide), if_neg (by rw [hon]; decide)]

/-- Settles O57: the answer is decided against the Volume Table, or refreshes the volume still bound; the volumes and the
states of the lanes stay through what an attach hands on. -/
theorem volumeIdentified : Obligations.VolumeIdentified := by
  refine ⟨?answer, ?decision, ?attach⟩
  case answer =>
    intro s d tag label serial prot free o ho ht hq p
    have htake := Part.takeIdentify_of_asked (p := s.part.quiet) label serial prot free ho ht hq
    have hstate : (p.dest d).state = (s.part.dest d).state := by
      rw [show p = s.part.quiet.modDest d fun r => { r with out := none } from rfl, Part.dest_modDest_self]
      rfl
    refine ⟨fun hb => ?_, fun v r hb hv => ⟨fun hsame => ?_, fun hother => ?_⟩⟩
    · exact acted_of_event rfl (htake.trans (Part.identified_of_unbound (p := s.part.quiet) hb))
    · intro after before q
      have hsame' : r.sameIdentity label serial = true := Volume.sameIdentity_iff.mpr hsame
      have hident := htake.trans ((Part.identified_of_bound (p := s.part.quiet) hb hv).trans (if_pos hsame'))
      have hq' : p.refreshed d v prot free = q := by
        unfold Part.refreshed
        rw [hstate]
        rfl
      refine ⟨fun h => ?_, fun hne hfull => ?_, fun hne hro => ?_⟩
      · exact acted_of_event rfl (hident.trans ((Part.refreshVolume_of_kept (hstate ▸ h)).trans hq'))
      · have hne' : ¬ (p.dest d).state = attachState prot free := hstate ▸ hne
        refine acted_of_event rfl (hident.trans ((p.refreshVolume_eq d v prot free).trans
          ((if_neg hne').trans ((if_pos hfull).trans ?_))))
        rw [hq']
      · have hne' : ¬ (p.dest d).state = attachState prot free := hstate ▸ hne
        have hfull' : attachState prot free ≠ .full := fun h => nomatch hro.symm.trans h
        refine acted_of_event rfl (hident.trans ((p.refreshVolume_eq d v prot free).trans
          ((if_neg hne').trans ((if_neg hfull').trans ((if_pos hro).trans ?_)))))
        rw [hq']
    · have hother' : ¬ r.sameIdentity label serial = true := by
        rw [Volume.sameIdentity_iff]
        rintro ⟨hl, hs⟩
        rcases hother with h | h
        · exact h hl
        · exact h hs
      exact acted_of_event rfl (htake.trans ((Part.identified_of_bound (p := s.part.quiet) hb hv).trans (if_neg hother')))
  case decision =>
    intro p d label serial prot free known refusal decided
    have hrefusal (cause : Cause) : p.refuseVolume d cause (.volumeIdentity label serial) .none = refusal cause :=
      p.refuseVolume_eq d cause _ _
    refine ⟨fun v r hk hl => Part.decideVolume_of_free hk hl, fun v r e hk hl he => ?_, fun v hk hf => ?_, fun hk hf => ?_⟩
    · exact (Part.decideVolume_of_elsewhere hk hl he).trans (hrefusal _)
    · exact Part.decideVolume_of_new hk hf
    · exact (Part.decideVolume_of_full hk hf).trans (hrefusal _)
  case attach =>
    intro p d v prot free r hv attachment q
    obtain ⟨hstate, hchanged, hterm⟩ := p.dest_attach d v prot free
    exact ⟨⟨_, Part.volume_attach hv d prot free, rfl, rfl, rfl, rfl, rfl, rfl, rfl⟩, hstate, hchanged, hterm⟩

end Sys2Proof.Machine

/-! A destination lane: its stalls, its arbiter, whom its link serves, and what follows every event (R79, R84 to R90). -/

namespace Sys2Proof.Machine

/-! ### A stall (R87) -/

theorem Part.destStall_of_none {p : Part} {d : Fin 4} (h : ∀ o, (p.dest d).out = some o → o.timer = none) :
    p.destStall d = p := by
  unfold Part.destStall
  cases ho : (p.dest d).out
  case none => rfl
  case some o => simp only [h o ho]

/-- The lane with its link free. -/
def Part.freed (p : Part) (d : Fin 4) : Part := p.modDest d fun r => { r with out := none }

theorem Part.freed_dest (p : Part) (d : Fin 4) : (p.freed d).dest d = { p.dest d with out := none } :=
  Part.dest_modDest_self p d _

theorem Part.destStall_of_some {p : Part} {d : Fin 4} {o : VolumeOut} {t : Nat} (ho : (p.dest d).out = some o)
    (ht : o.timer = some t) :
    p.destStall d =
      match o.request with
      | .identify => (p.freed d).identifyFailed d .none
      | .release _ | .eject => p.freed d
      | q =>
        match (p.freed d).boundVolume d with
        | some v => ((p.freed d).loseStalled d v q).arrival d
        | none => p.freed d := by
  unfold Part.destStall
  simp only [ho, ht] <;> rfl

theorem Part.takeVolumeFault_of_asked {p : Part} {d : Fin 4} {o : VolumeOut} (code : BitVec 16)
    (ho : (p.dest d).out = some o) : p.takeVolumeFault d o.tag code = p.volumeFault d o code := by
  unfold Part.takeVolumeFault
  rw [Part.volumeAsks_of_tag ho rfl]

theorem Part.volumeFault_of_identify {p : Part} {d : Fin 4} {o : VolumeOut} (code : BitVec 16)
    (hq : o.request = .identify) : p.volumeFault d o code = (p.freed d).identifyFailed d (.code code) := by
  unfold Part.volumeFault
  rw [hq]
  rfl

section
variable {p : Part} {d : Fin 4} {v : Nat} {q : VolumeRequest}

theorem Part.loseStalled_of_other (h : ∀ k n, q ≠ .read .sweep k n) :
    p.loseStalled d v q = (p.tellStalled d v q).detachNotice d := by
  unfold Part.loseStalled
  dsimp only
  split
  next k n _ _ => exact absurd rfl (h k n)
  next => rfl

theorem Part.loseStalled_of_idle {k : CopyKey} {n : Nat} (h : (p.dest d).sweep = none) :
    p.loseStalled d v (.read .sweep k n) = (p.tellStalled d v (.read .sweep k n)).detachNotice d := by
  unfold Part.loseStalled
  simp only [h]

theorem Part.loseStalled_of_sweep {k : CopyKey} {n : Nat} {x : VerifyCtx} (h : (p.dest d).sweep = some x) :
    p.loseStalled d v (.read .sweep k n) =
      ((p.tellStalled d v (.read .sweep k n)).detachNotice d).listHead x.vol x.clip := by
  unfold Part.loseStalled
  simp only [h]

end

/-! ### A sweep told of its stall (R98) -/

theorem Part.returnSweep_of_none {p : Part} {d : Fin 4} (h : (p.dest d).sweep = none) : p.returnVerify d false = p := by
  have hv : p.verifyOf d false = none := h
  unfold Part.returnVerify
  rw [hv]

theorem Part.returnSweep_of_some {p : Part} {d : Fin 4} {x : VerifyCtx} (h : (p.dest d).sweep = some x) :
    p.returnVerify d false =
      let q := p.modDest d fun r => { r with sweep := none, verifies := r.verifies.filter fun i => i.explicit }
      (if x.prior = .written then q.listHead x.vol x.clip else q).copyTo x.clip x.vol x.prior := by
  have hv : p.verifyOf d false = some x := h
  have hfilter (vs : List VerifyItem) : (vs.filter fun i => i.explicit != false) = vs.filter fun i => i.explicit :=
    congrArg (vs.filter ·) (funext fun i => Bool.bne_false _)
  have hset (q : Part) : q.setVerify d false none = q.modDest d fun r => { r with sweep := none } := rfl
  unfold Part.returnVerify
  simp only [hv, hset, Part.modDest_modDest, hfilter]

/-! ### The arbiter (R84, R85) -/

/-- The guard count after a request other than a verify read or a release. -/
def DestLane.raised (r : DestLane) : Nat := if r.verifies = [] then r.guard else min (r.guard + 1) 16

theorem DestLane.raiseGuard_eq (r : DestLane) : r.raiseGuard = { r with guard := r.raised } := by
  unfold DestLane.raiseGuard DestLane.raised
  by_cases h : r.verifies = []
  · rw [if_pos (List.isEmpty_iff.mpr h), if_pos h]
  · rw [if_neg (fun he => h (List.isEmpty_iff.mp he)), if_neg h]
    rfl

theorem Part.sendRelease_of_cons {p : Part} {d : Fin 4} {k : CopyKey} {rest : List CopyKey}
    (h : (p.dest d).release = k :: rest) :
    p.sendRelease d k = (p.modDest d fun x => { x with release := rest }).sendVolume d (.release k) := by
  refine congrArg (fun q : Part => q.sendVolume d (.release k)) (p.modDest_congr d _ _ ?_)
  rw [h]
  rfl

section
variable {p : Part} {d : Fin 4} {v : Nat}

theorem Part.arbitrate_of_release {k : CopyKey} {rest : List CopyKey} (h : (p.dest d).release = k :: rest) :
    p.arbitrate d v = (p.modDest d fun x => { x with release := rest }).sendVolume d (.release k) := by
  have hsend : p.arbitrate d v = p.sendRelease d k := by
    unfold Part.arbitrate
    simp only [h]
  exact hsend.trans (Part.sendRelease_of_cons h)

theorem Part.arbitrate_of_guard {i : VerifyItem} {rest : List VerifyItem} (hr : (p.dest d).release = [])
    (hv : (p.dest d).verifies = i :: rest) (hg : 16 ≤ (p.dest d).guard) : p.arbitrate d v = p.sendVerify d i := by
  have hg' : decide (Config.verifyGuard ≤ (p.dest d).guard) = true := decide_eq_true hg
  unfold Part.arbitrate
  simp only [hr, hv, hg']

/-- Whom the arbiter serves when neither a release nor the guard comes first. -/
theorem Part.arbitrate_of_classes (hr : (p.dest d).release = []) (hv : (p.dest d).verifies = [] ∨ (p.dest d).guard < 16) :
    p.arbitrate d v =
      match (p.dest d).previews with
      | i :: _ =>
        (p.modDest d fun r => { r.raiseGuard with previews := r.previews.tail }).sendVolume d
          (.read (.preview i.channel) i.key i.index)
      | [] =>
        match p.nextOffload d v with
        | some (s, b) =>
          ((p.modDest d fun r => { r.raiseGuard with robin := s.lane + 1 }).startWrite s.id v).sendVolume d
            (.write (.slot s.id) s.key s.index (.copy b))
        | none =>
          match (p.dest d).recopies, (p.dest d).verifies, (p.dest d).renders with
          | i :: _, _, _ => p.sendRecopy d v i
          | [], i :: _, _ => p.sendVerify d i
          | [], [], i :: _ => p.sendRender d i
          | [], [], [] => p := by
  unfold Part.arbitrate
  simp only [hr]
  split
  next i rest hvs hg =>
    rcases hv with hv | hv
    · exact nomatch hvs.symm.trans hv
    · have hle : 16 ≤ (p.dest d).guard := of_decide_eq_true hg
      omega
  next => rfl

theorem Part.arbitrate_of_preview {i : PreviewItem} {rest : List PreviewItem} (hr : (p.dest d).release = [])
    (hv : (p.dest d).verifies = [] ∨ (p.dest d).guard < 16) (hi : (p.dest d).previews = i :: rest) :
    p.arbitrate d v =
      (p.modDest d fun x => { x with previews := rest, guard := x.raised }).sendVolume d
        (.read (.preview i.channel) i.key i.index) := by
  rw [Part.arbitrate_of_classes hr hv]
  simp only [hi]
  refine congrArg (fun q : Part => q.sendVolume d (.read (.preview i.channel) i.key i.index)) (p.modDest_congr d _ _ ?_)
  rw [DestLane.raiseGuard_eq, hi]
  rfl

theorem Part.arbitrate_of_offload {s : Slot} {b : Block} (hr : (p.dest d).release = [])
    (hv : (p.dest d).verifies = [] ∨ (p.dest d).guard < 16) (hi : (p.dest d).previews = [])
    (ho : p.nextOffload d v = some (s, b)) :
    p.arbitrate d v =
      ((p.modDest d fun x => { x with robin := s.lane + 1, guard := x.raised }).startWrite s.id v).sendVolume d
        (.write (.slot s.id) s.key s.index (.copy b)) := by
  rw [Part.arbitrate_of_classes hr hv]
  simp only [hi, ho, DestLane.raiseGuard_eq]

theorem Part.arbitrate_of_recopy {i : RecopyItem} {rest : List RecopyItem} (hr : (p.dest d).release = [])
    (hv : (p.dest d).verifies = [] ∨ (p.dest d).guard < 16) (hi : (p.dest d).previews = [])
    (ho : p.nextOffload d v = none) (hx : (p.dest d).recopies = i :: rest) :
    p.arbitrate d v = p.sendRecopy d v i := by
  rw [Part.arbitrate_of_classes hr hv]
  simp only [hi, ho, hx]

theorem Part.arbitrate_of_verify {i : VerifyItem} {rest : List VerifyItem} (hr : (p.dest d).release = [])
    (hv : (p.dest d).verifies = [] ∨ (p.dest d).guard < 16) (hi : (p.dest d).previews = [])
    (ho : p.nextOffload d v = none) (hx : (p.dest d).recopies = []) (hy : (p.dest d).verifies = i :: rest) :
    p.arbitrate d v = p.sendVerify d i := by
  rw [Part.arbitrate_of_classes hr hv]
  simp only [hi, ho, hx, hy]

theorem Part.arbitrate_of_render {i : RenderItem} {rest : List RenderItem} (hr : (p.dest d).release = [])
    (hi : (p.dest d).previews = []) (ho : p.nextOffload d v = none) (hx : (p.dest d).recopies = [])
    (hy : (p.dest d).verifies = []) (hz : (p.dest d).renders = i :: rest) :
    p.arbitrate d v = p.sendRender d i := by
  rw [Part.arbitrate_of_classes hr (Or.inl hy)]
  simp only [hi, ho, hx, hy, hz]

theorem Part.arbitrate_of_idle (hr : (p.dest d).release = []) (hi : (p.dest d).previews = [])
    (ho : p.nextOffload d v = none) (hx : (p.dest d).recopies = []) (hy : (p.dest d).verifies = [])
    (hz : (p.dest d).renders = []) : p.arbitrate d v = p := by
  rw [Part.arbitrate_of_classes hr (Or.inl hy)]
  simp only [hi, ho, hx, hy, hz]

/-- The lane with its first recopy request taken, and the guard raised. -/
def Part.tookRecopy (p : Part) (d : Fin 4) (rest : List RecopyItem) : Part :=
  p.modDest d fun x => { x with recopies := rest, guard := x.raised }

theorem Part.tookRecopy_eq {i : RecopyItem} {rest : List RecopyItem} (hx : (p.dest d).recopies = i :: rest) :
    (p.modDest d fun r => { r.raiseGuard with recopies := r.recopies.tail }) = p.tookRecopy d rest := by
  refine p.modDest_congr d _ _ ?_
  rw [DestLane.raiseGuard_eq, hx]
  rfl

theorem Part.sendRecopy_read {i : RecopyItem} {rest : List RecopyItem} {t : Fin 4} {k : CopyKey} {n : Nat}
    (hx : (p.dest d).recopies = i :: rest) (hi : i = .read t k n) :
    p.sendRecopy d v i = (p.tookRecopy d rest).sendVolume d (.read (.recopy t) k n) := by
  unfold Part.sendRecopy
  rw [Part.tookRecopy_eq hx, hi]

theorem Part.sendRecopy_write {i : RecopyItem} {rest : List RecopyItem} {k : CopyKey} {n : Nat} {b : Block}
    (hx : (p.dest d).recopies = i :: rest) (hi : i = .write k n b) :
    p.sendRecopy d v i = (p.tookRecopy d rest).sendVolume d (.write .recopy k n (.copy b)) := by
  unfold Part.sendRecopy
  rw [Part.tookRecopy_eq hx, hi]

theorem Part.sendRecopy_slot {i : RecopyItem} {rest : List RecopyItem} {id : Nat} {s : Slot} {b : Block}
    (hx : (p.dest d).recopies = i :: rest) (hi : i = .slot id) (hs : p.slot id = some s) (hb : s.data = some b) :
    p.sendRecopy d v i =
      ((p.tookRecopy d rest).startWrite id v).sendVolume d (.write (.slot id) s.key s.index (.copy b)) := by
  have hs' : (p.tookRecopy d rest).slot id = some s := hs
  unfold Part.sendRecopy
  rw [Part.tookRecopy_eq hx, hi]
  simp only [hs', hb]

theorem Part.tookRender_eq {i : RenderItem} {rest : List RenderItem} (hv : (p.dest d).verifies = [])
    (hx : (p.dest d).renders = i :: rest) :
    (p.modDest d fun r => { r.raiseGuard with renders := r.renders.tail }) =
      p.modDest d fun r => { r with renders := rest } := by
  refine p.modDest_congr d _ _ ?_
  rw [DestLane.raiseGuard_eq, DestLane.raised, if_pos hv, hx]
  rfl

theorem Part.sendRender_read {i : RenderItem} {rest : List RenderItem} {k : CopyKey} {n : Nat}
    (hv : (p.dest d).verifies = []) (hx : (p.dest d).renders = i :: rest) (hi : i = .read k n) :
    p.sendRender d i = (p.modDest d fun r => { r with renders := rest }).sendVolume d (.read .render k n) := by
  unfold Part.sendRender
  rw [Part.tookRender_eq hv hx, hi]

theorem Part.sendRender_write {i : RenderItem} {rest : List RenderItem} {k : CopyKey} {n : Nat} {b : ProxyBlock}
    (hv : (p.dest d).verifies = []) (hx : (p.dest d).renders = i :: rest) (hi : i = .write k n b) :
    p.sendRender d i =
      (p.modDest d fun r => { r with renders := rest }).sendVolume d (.write .render k n (.proxy b)) := by
  unfold Part.sendRender
  rw [Part.tookRender_eq hv hx, hi]

end

/-! ### The next offload write (R84) -/

/-- The head of a reader lane's queue of writes to a volume. -/
def Part.firstWrite (p : Part) (v : Nat) (l : Fin 6) : Option Slot :=
  p.pool.slots.find? fun s =>
    s.lane == l && !s.recopy && s.data.isSome && s.writes.any fun w => w.vol == v && !w.started

theorem Part.firstWrite_data {p : Part} {v : Nat} {l : Fin 6} {s : Slot} (h : p.firstWrite v l = some s) :
    ∃ b, s.data = some b := by
  have ht := List.find?_some h
  simp only [Bool.and_eq_true] at ht
  obtain ⟨⟨_, hd⟩, _⟩ := ht
  exact Option.isSome_iff_exists.mp hd

theorem Part.laneWrite_eq_none (p : Part) (v : Nat) (l : Fin 6) : p.laneWrite v l = none ↔ p.firstWrite v l = none := by
  unfold Part.laneWrite
  constructor
  · intro h
    cases hf : p.firstWrite v l
    case none => rfl
    case some s =>
      obtain ⟨b, hb⟩ := Part.firstWrite_data hf
      unfold Part.firstWrite at hf
      rw [hf, Option.bind_some, hb] at h
      exact nomatch h
  · intro h
    unfold Part.firstWrite at h
    rw [h]
    rfl

theorem Part.laneWrite_eq_some (p : Part) (v : Nat) (l : Fin 6) (s : Slot) (b : Block) :
    p.laneWrite v l = some (s, b) ↔ p.firstWrite v l = some s ∧ s.data = some b := by
  unfold Part.laneWrite Part.firstWrite
  rw [Option.bind_eq_some_iff]
  constructor
  · rintro ⟨t, ht, hm⟩
    obtain ⟨c, hc, heq⟩ := Option.map_eq_some_iff.mp hm
    cases heq
    exact ⟨ht, hc⟩
  · rintro ⟨hs, hb⟩
    exact ⟨s, hs, by rw [hb]; rfl⟩

theorem Part.nextOffload_eq (p : Part) (d : Fin 4) (v : Nat) :
    p.nextOffload d v = Fin.findSome? fun k : Fin 6 => p.laneWrite v ((p.dest d).robin + k) := by
  have hall : allReaders = List.finRange 6 := by decide
  unfold Part.nextOffload robinOrder
  rw [List.head?_filterMap, List.findSome?_map, hall, Fin.findSome?_eq_findSome?_finRange]
  rfl

theorem Part.nextOffload_eq_some (p : Part) (d : Fin 4) (v : Nat) (s : Slot) (b : Block) :
    p.nextOffload d v = some (s, b) ↔
      ∃ k : Fin 6, p.firstWrite v ((p.dest d).robin + k) = some s ∧ s.data = some b ∧
        ∀ j : Fin 6, j < k → p.firstWrite v ((p.dest d).robin + j) = none := by
  simp only [Part.nextOffload_eq, Fin.findSome?_eq_some_iff, Part.laneWrite_eq_some, Part.laneWrite_eq_none, and_assoc]

theorem Part.nextOffload_eq_none (p : Part) (d : Fin 4) (v : Nat) :
    p.nextOffload d v = none ↔ ∀ l, p.firstWrite v l = none := by
  simp only [Part.nextOffload_eq, Fin.findSome?_eq_none_iff, Part.laneWrite_eq_none]
  constructor
  · intro h l
    have hl := h (l - (p.dest d).robin)
    rwa [add_sub_cancel] at hl
  · exact fun h k => h _

/-! ### Whom the link serves (R79, R84, R88, R90) -/

/-- The guard count goes with an empty verify queue (R85). -/
def Part.eased (p : Part) (d : Fin 4) : Part :=
  p.modDest d fun x => { x with guard := if x.verifies = [] then 0 else x.guard }

theorem Part.eased_dest (p : Part) (d : Fin 4) :
    (p.eased d).dest d = { p.dest d with guard := if (p.dest d).verifies = [] then 0 else (p.dest d).guard } :=
  Part.dest_modDest_self p d _

theorem Part.serveDest_eq (p : Part) (d : Fin 4) :
    p.serveDest d =
      if (p.dest d).out.isSome then p.eased d
      else
        match p.boundVolume d with
        | some v =>
          if (p.dest d).reidentify then
            match (p.dest d).release with
            | k :: _ => (p.eased d).sendRelease d k
            | [] => (p.eased d).sendVolume d .identify
          else (p.eased d).arbitrate d v
        | none =>
          if (p.dest d).state = .empty ∧ (p.dest d).ejectOwed = true then
            match (p.dest d).release with
            | k :: _ => (p.eased d).sendRelease d k
            | [] => ((p.eased d).modDest d fun r => { r with ejectOwed := false }).sendVolume d .eject
          else (p.eased d).startIdentify d := by
  have heased : (p.modDest d fun r => if r.verifies.isEmpty then { r with guard := 0 } else r) = p.eased d := by
    refine p.modDest_congr d _ _ ?_
    by_cases h : (p.dest d).verifies = []
    · rw [if_pos (List.isEmpty_iff.mpr h), if_pos h]
    · rw [if_neg (fun he => h (List.isEmpty_iff.mp he)), if_neg h]
  unfold Part.serveDest
  dsimp only
  rw [heased, p.eased_dest]
  rfl

section
variable {p : Part} {d : Fin 4} {v : Nat}

theorem Part.serveDest_of_busy (h : (p.dest d).out ≠ none) : p.serveDest d = p.eased d := by
  rw [Part.serveDest_eq, if_pos (Option.isSome_iff_ne_none.mpr h)]

theorem not_isSome_of_none {α : Type} {x : Option α} (h : x = none) : ¬ x.isSome = true := by
  rw [h]
  exact Bool.false_ne_true

theorem Part.serveDest_of_arbiter (ho : (p.dest d).out = none) (hb : p.boundVolume d = some v)
    (hr : (p.dest d).reidentify = false) : p.serveDest d = (p.eased d).arbitrate d v := by
  rw [Part.serveDest_eq, if_neg (not_isSome_of_none ho), hb]
  exact if_neg (by rw [hr]; exact Bool.false_ne_true)

theorem Part.sendRelease_eased {k : CopyKey} {rest : List CopyKey} (h : (p.dest d).release = k :: rest) :
    (p.eased d).sendRelease d k =
      ((p.eased d).modDest d fun x => { x with release := rest }).sendVolume d (.release k) := by
  refine Part.sendRelease_of_cons (rest := rest) ?_
  rw [p.eased_dest]
  exact h

theorem Part.serveDest_of_release {k : CopyKey} {rest : List CopyKey} (ho : (p.dest d).out = none)
    (hb : p.boundVolume d = some v) (hr : (p.dest d).reidentify = true) (hk : (p.dest d).release = k :: rest) :
    p.serveDest d = ((p.eased d).modDest d fun x => { x with release := rest }).sendVolume d (.release k) := by
  rw [Part.serveDest_eq, if_neg (not_isSome_of_none ho), hb]
  simp only [hr, hk, if_true]
  exact Part.sendRelease_eased hk

theorem Part.serveDest_of_identify (ho : (p.dest d).out = none) (hb : p.boundVolume d = some v)
    (hr : (p.dest d).reidentify = true) (hk : (p.dest d).release = []) :
    p.serveDest d = (p.eased d).sendVolume d .identify := by
  rw [Part.serveDest_eq, if_neg (not_isSome_of_none ho), hb]
  simp only [hr, hk, if_true]

theorem Part.serveDest_of_ejecting {k : CopyKey} {rest : List CopyKey} (ho : (p.dest d).out = none)
    (hb : p.boundVolume d = none) (hs : (p.dest d).state = .empty) (he : (p.dest d).ejectOwed = true)
    (hk : (p.dest d).release = k :: rest) :
    p.serveDest d = ((p.eased d).modDest d fun x => { x with release := rest }).sendVolume d (.release k) := by
  rw [Part.serveDest_eq, if_neg (not_isSome_of_none ho), hb]
  dsimp only
  rw [if_pos ⟨hs, he⟩, hk]
  exact Part.sendRelease_eased hk

theorem Part.serveDest_of_eject (ho : (p.dest d).out = none) (hb : p.boundVolume d = none)
    (hs : (p.dest d).state = .empty) (he : (p.dest d).ejectOwed = true) (hk : (p.dest d).release = []) :
    p.serveDest d = ((p.eased d).modDest d fun x => { x with ejectOwed := false }).sendVolume d .eject := by
  rw [Part.serveDest_eq, if_neg (not_isSome_of_none ho), hb]
  dsimp only
  rw [if_pos ⟨hs, he⟩, hk]

theorem Part.serveDest_of_unbound (ho : (p.dest d).out = none) (hb : p.boundVolume d = none)
    (h : (p.dest d).state ≠ .empty ∨ (p.dest d).ejectOwed = false) : p.serveDest d = (p.eased d).startIdentify d := by
  rw [Part.serveDest_eq, if_neg (not_isSome_of_none ho), hb]
  refine if_neg ?_
  rintro ⟨hs, he⟩
  rcases h with h | h
  · exact h hs
  · exact Bool.false_ne_true (h.symm.trans he)

theorem Part.startIdentify_of_held (hs : (p.dest d).state = .empty) (hi : (p.dest d).identifyPending = true)
    (ht : (p.dest d).term.unsensed = false) (ho : (p.dest d).out = none) :
    p.startIdentify d =
      (p.modDest d fun x => { x with state := .identifying, identifyPending := false }).sendVolume d .identify :=
  if_pos ⟨hs, hi, ht, by rw [ho]; rfl⟩

theorem Part.startIdentify_of_none
    (h : (p.dest d).state ≠ .empty ∨ (p.dest d).identifyPending = false ∨ (p.dest d).term.unsensed = true) :
    p.startIdentify d = p := by
  refine if_neg ?_
  rintro ⟨hs, hi, ht, _⟩
  rcases h with h | h | h
  · exact h hs
  · exact Bool.false_ne_true (h.symm.trans hi)
  · exact Bool.false_ne_true (ht.symm.trans h)

end

/-! ### The obligation -/

/-- Settles O59: each case of a stall, of the arbiter and of the service of a link is an equation; the next offload write is
the first success of a search that goes round the reader lanes. -/
theorem destStalled : Obligations.DestStalled := by
  refine ⟨?stall, ?sweep, ?arbiter, fun p d v s b => ⟨p.nextOffload_eq_some d v s b, p.nextOffload_eq_none d v⟩, ?serve,
    fun p d request => rfl, ?settle⟩
  case stall =>
    intro s d p
    refine ⟨fun h => acted_of_event rfl (Part.destStall_of_none (p := s.part.quiet) h), fun o t ho ht => ?_⟩
    have hstall := Part.destStall_of_some (p := s.part.quiet) ho ht
    refine ⟨fun hq => ?_, fun hq => ?_, fun code hq => ?_, fun v hb => ?_⟩
    · refine acted_of_event rfl (hstall.trans ?_)
      rcases hq with hq | ⟨k, hq⟩
      · rw [hq]
        rfl
      · rw [hq]
        rfl
    · refine acted_of_event rfl (hstall.trans ?_)
      rw [hq]
      rfl
    · exact acted_of_event rfl ((Part.takeVolumeFault_of_asked (p := s.part.quiet) code ho).trans
        (Part.volumeFault_of_identify code hq))
    · have hb' : (s.part.quiet.freed d).boundVolume d = some v := hb
      intro gone
      have hlose (hne : o.request ≠ .identify ∧ (∀ k, o.request ≠ .release k) ∧ o.request ≠ .eject) :
          s.part.quiet.destStall d = (p.loseStalled d v o.request).arrival d := by
        obtain ⟨hid, hrel, hej⟩ := hne
        refine hstall.trans ?_
        cases hq : o.request
        case identify => exact absurd hq hid
        case release k => exact absurd hq (hrel k)
        case eject => exact absurd hq hej
        all_goals
          simp only [hb'] <;> rfl
      refine ⟨fun hq => ?_, fun hq => ?_⟩
      · have hne : o.request ≠ .identify ∧ (∀ k, o.request ≠ .release k) ∧ o.request ≠ .eject := by
          rcases hq with ⟨w, k, n, b, hq⟩ | ⟨w, k, n, _, hq⟩ <;> simp [hq]
        have hsweep : ∀ k n, o.request ≠ .read .sweep k n := by
          rcases hq with ⟨w, k, n, b, hq⟩ | ⟨w, k, n, hw, hq⟩
          · simp [hq]
          · rw [hq]
            intro k' n' he
            cases he
            exact hw rfl
        refine acted_of_event rfl ((hlose hne).trans ?_)
        rw [Part.loseStalled_of_other hsweep]
      · obtain ⟨k, n, hq⟩ := hq
        have hne : o.request ≠ .identify ∧ (∀ k, o.request ≠ .release k) ∧ o.request ≠ .eject := by simp [hq]
        have hsweep : (p.dest d).sweep = (s.part.dest d).sweep := by
          rw [show p = s.part.quiet.freed d from rfl, Part.freed_dest]
          rfl
        have hgone : gone = (p.tellStalled d v (.read .sweep k n)).detachNotice d := by
          rw [← hq]
        refine ⟨fun hs => ?_, fun x hs => ?_⟩
        · refine acted_of_event rfl ((hlose hne).trans ?_)
          rw [hgone, hq, Part.loseStalled_of_idle (hsweep.trans hs)]
        · refine acted_of_event rfl ((hlose hne).trans ?_)
          rw [hgone, hq, Part.loseStalled_of_sweep (hsweep.trans hs)]
          rfl
  case sweep =>
    intro p d v k n told
    refine ⟨fun hs => Part.returnSweep_of_none hs, fun x hs => ?_⟩
    intro idle
    have htold : told = (if x.prior = .written then idle.listHead x.vol x.clip else idle).copyTo x.clip x.vol x.prior :=
      Part.returnSweep_of_some hs
    refine ⟨fun hw => ?_, fun hw => ?_⟩
    · rw [htold, if_pos hw, hw]
      rfl
    · rw [htold, if_neg hw]
  case arbiter =>
    intro p d v r raised verify
    have hverify (i : VerifyItem) : p.sendVerify d i = verify i := rfl
    refine ⟨fun k rest hk => Part.arbitrate_of_release hk, fun hr => ⟨fun i rest hi hg => ?_, fun hv => ⟨fun i rest hi => ?_,
      fun s b hi ho => ?_, fun hi ho => ⟨fun i rest hx => ?_, fun i rest hx hy => ?_, fun i rest hx hy hz => ?_,
      fun hx hy hz => ?_⟩⟩⟩⟩
    · exact Part.arbitrate_of_guard hr hi hg
    · exact Part.arbitrate_of_preview hr hv hi
    · exact Part.arbitrate_of_offload hr hv hi ho
    · intro q
      have harb := Part.arbitrate_of_recopy hr hv hi ho hx
      exact ⟨fun t k n he => harb.trans (Part.sendRecopy_read hx he), fun k n b he =>
        harb.trans (Part.sendRecopy_write hx he), fun id s b he hs hb => harb.trans (Part.sendRecopy_slot hx he hs hb)⟩
    · exact Part.arbitrate_of_verify hr hv hi ho hx hy
    · intro q
      have harb := Part.arbitrate_of_render hr hi ho hx hy hz
      exact ⟨fun k n he => harb.trans (Part.sendRender_read hy hz he), fun k n b he =>
        harb.trans (Part.sendRender_write hy hz he)⟩
    · exact Part.arbitrate_of_idle hr hi ho hx hy hz
  case serve =>
    intro p d r q released
    refine ⟨fun h => Part.serveDest_of_busy h, fun ho => ⟨fun v hb => ⟨fun hr => Part.serveDest_of_arbiter ho hb hr,
      fun k rest hr hk => Part.serveDest_of_release ho hb hr hk, fun hr hk => Part.serveDest_of_identify ho hb hr hk⟩,
      fun hb => ⟨fun hs he => ⟨fun k rest hk => Part.serveDest_of_ejecting ho hb hs he hk, fun hk =>
        Part.serveDest_of_eject ho hb hs he hk⟩, fun h => ?_⟩⟩⟩
    have hunbound : p.serveDest d = (p.eased d).startIdentify d := Part.serveDest_of_unbound ho hb h
    refine ⟨fun hs hi ht => hunbound.trans (Part.startIdentify_of_held ?_ ?_ ?_ ?_), fun hn =>
      hunbound.trans (Part.startIdentify_of_none ?_)⟩
    all_goals rw [p.eased_dest]
    · exact hs
    · exact hi
    · exact ht
    · exact ho
    · exact hn
  case settle =>
    intro p swept granted
    unfold Part.settle
    rfl

end Sys2Proof.Machine

/-! The answers of a volume, and what the requesters make of them: the writes of slots, the verify, the recopy, the hand-on of
a copy entry (R54, R59, R93, R96, R104 to R108). -/

namespace Sys2Proof.Machine

/-! ### The answer to the request outstanding (R75) -/

theorem Part.volumeAsks_none {p : Part} {d : Fin 4} {tag : Byte} (h : ∀ o, (p.dest d).out = some o → o.tag ≠ tag) :
    p.volumeAsks d tag = none := by
  unfold Part.volumeAsks
  cases ho : (p.dest d).out
  case none => rfl
  case some o => exact if_neg (h o ho)

section
variable {p : Part} {d : Fin 4} {tag : Byte} {o : VolumeOut}

theorem Part.takeWrite_of_asked {owner : WriteOwner} {key : CopyKey} {n : Nat} {b : Stored} (stored : Bool) (free : Nat)
    (ho : (p.dest d).out = some o) (ht : o.tag = tag) (hq : o.request = .write owner key n b) :
    p.takeWrite d tag stored free = (p.freed d).writeAnswered d owner key b stored free := by
  unfold Part.takeWrite
  rw [Part.volumeAsks_of_tag ho ht]
  dsimp only
  rw [hq]
  rfl

theorem Part.takeRead_of_asked {owner : ReadOwner} {key : CopyKey} {n : Nat} (b : Option Block)
    (ho : (p.dest d).out = some o) (ht : o.tag = tag) (hq : o.request = .read owner key n) :
    p.takeRead d tag b = (p.freed d).readAnswered d owner b := by
  unfold Part.takeRead
  rw [Part.volumeAsks_of_tag ho ht]
  dsimp only
  rw [hq]
  rfl

theorem Part.takeRelease_of_asked {key : CopyKey} (free : Nat) (ho : (p.dest d).out = some o) (ht : o.tag = tag)
    (hq : o.request = .release key) : p.takeRelease d tag free = (p.freed d).setFree d free := by
  unfold Part.takeRelease
  rw [Part.volumeAsks_of_tag ho ht]
  dsimp only
  rw [hq]
  rfl

theorem Part.takeEject_of_asked (ho : (p.dest d).out = some o) (ht : o.tag = tag) (hq : o.request = .eject) :
    p.takeEject d tag = p.freed d := by
  unfold Part.takeEject
  rw [Part.volumeAsks_of_tag ho ht]
  dsimp only
  rw [hq]
  rfl

theorem Part.takeFault_of_asked (code : BitVec 16) (ho : (p.dest d).out = some o) (ht : o.tag = tag) :
    p.takeVolumeFault d tag code =
      match o.request with
      | .identify => (p.freed d).identifyFailed d (.code code)
      | .write owner _ _ _ =>
        match (p.freed d).boundVolume d with
        | some v => (p.freed d).writeUnwritten d v owner .stalled .stalled (.code code)
        | none => p.freed d
      | .read owner _ _ => (p.freed d).readAnswered d owner none
      | .release _ | .eject => p.freed d := by
  unfold Part.takeVolumeFault
  rw [Part.volumeAsks_of_tag ho ht]
  rfl

end

theorem Part.writeAnswered_of_bound {p : Part} {d : Fin 4} {v : Nat} (h : p.boundVolume d = some v) (o : WriteOwner)
    (key : CopyKey) (b : Stored) (stored : Bool) (free : Nat) :
    p.writeAnswered d o key b stored free =
      if stored then (p.writeStored d v o key b).setFree d free
      else (p.writeUnwritten d v o .destFull .destFull .none).setFree d 0 := by
  unfold Part.writeAnswered
  rw [h]

theorem Part.writeAnswered_of_unbound {p : Part} {d : Fin 4} (h : p.boundVolume d = none) (o : WriteOwner)
    (key : CopyKey) (b : Stored) (stored : Bool) (free : Nat) : p.writeAnswered d o key b stored free = p := by
  unfold Part.writeAnswered
  rw [h]

/-! ### A write of a slot (R54, R61) -/

theorem Part.slot_id {p : Part} {id : Nat} {s : Slot} (h : p.slot id = some s) : s.id = id := by
  simpa using List.find?_some h

section
variable {p : Part} {d : Fin 4} {id v : Nat} {key : CopyKey} {x : Stored} {s : Slot} {w : SlotWrite}

theorem Part.writeStored_of_offload (hs : p.slot id = some s) (hw : s.writeTo v = some w) (hr : s.recopy = false) :
    p.writeStored d v (.slot id) key x = p.slotWritten s v w.orphan := by
  unfold Part.writeStored
  simp only [hs, hw, hr, Bool.false_eq_true, if_false]

theorem Part.writeStored_of_recopy {b : Block} (hs : p.slot id = some s) (hw : s.writeTo v = some w)
    (hr : s.recopy = true) (hb : s.data = some b) :
    p.writeStored d v (.slot id) key x =
      if w.orphan then (p.endWrite s.id v).claimRelease v s.key else (p.endWrite s.id v).recopyWritten d b := by
  unfold Part.writeStored
  simp only [hs, hw, hr, if_true, hb, Part.slot_id hs]

theorem Part.slotWritten_of_late (orphan : Bool) {b : Block} {c : Clip} (hb : s.data = some b) (hc : p.clip s.clip = some c)
    (h : orphan = true ∨ c.offloadWriting v = false) :
    p.slotWritten s v orphan = (p.endWrite s.id v).claimRelease v s.key := by
  unfold Part.slotWritten
  cases orphan
  case true => rfl
  case false =>
    have hw : c.offloadWriting v = false := h.resolve_left Bool.false_ne_true
    simp only [hb, hc, hw, Bool.false_eq_true, if_false, Bool.not_false, if_true]

theorem Part.slotWritten_of_writing {b : Block} {c : Clip} (hb : s.data = some b) (hc : p.clip s.clip = some c)
    (hw : c.offloadWriting v = true) :
    p.slotWritten s v false =
      let digest := digestAdd (p.progressOf s.clip v).digest b
      if c.blockCount ≤ (p.progressOf s.clip v).written + 1 then
        ((p.endWrite s.id v).setProgress s.clip v none).writeEnd s.clip v (digestFinal digest)
      else
        (p.endWrite s.id v).setProgress s.clip v
          (some { clip := s.clip, written := (p.progressOf s.clip v).written + 1, digest := digest }) := by
  unfold Part.slotWritten
  simp only [hb, hc, hw, Bool.false_eq_true, if_false, Bool.not_true]

theorem Part.writeUnwritten_of_slot (ends renders : Cause) (detail : Detail) (hs : p.slot id = some s)
    (hw : s.writeTo v = some w) :
    p.writeUnwritten d v (.slot id) ends renders detail =
      if s.recopy then
        if w.orphan then p.endWrite s.id v else (p.endWrite s.id v).endRecopy d .abnormal ends detail
      else p.slotUnwritten s v w.orphan := by
  unfold Part.writeUnwritten
  simp only [hs, hw, Part.slot_id hs]

/-- The clip has its WRITING entry on the volume. -/
def Part.Renewed (p : Part) (i v : Nat) : Prop := ∃ c, p.clip i = some c ∧ c.offloadWriting v = true

theorem Part.offloadWriting_iff (i : Nat) : p.offloadWriting i v = true ↔ p.Renewed i v := by
  unfold Part.offloadWriting Part.Renewed
  cases p.clip i <;> simp

theorem Part.slotUnwritten_of_renewed (h : p.Renewed s.clip v) : p.slotUnwritten s v true = p.endWrite s.id v := by
  have ho : (p.endWrite s.id v).offloadWriting s.clip v = true :=
    (Part.offloadWriting_iff (p := p.endWrite s.id v) s.clip).mpr h
  unfold Part.slotUnwritten
  simp only [ho, Bool.and_self, if_true]

/-- The clip of the slot loses its entry on the volume, and the WAITING writes to it. -/
def Part.entryLost (p : Part) (s : Slot) (v : Nat) : Part :=
  (p.removeWriting s.clip v).dropWrites fun t w => t.clip == s.clip && !t.recopy && w.vol == v && !w.started

theorem Part.slotUnwritten_of_own (orphan : Bool) (h : orphan = false ∨ ¬ p.Renewed s.clip v) :
    p.slotUnwritten s v orphan =
      if (((((p.endWrite s.id v).entryLost s v).reader s.lane).offload.bind (·.current)).map (·.clip)) = some s.clip then
        ((p.endWrite s.id v).entryLost s v).shrinkFanOut s.lane v none
      else (p.endWrite s.id v).entryLost s v := by
  have ho : (orphan && (p.endWrite s.id v).offloadWriting s.clip v) = false := by
    rcases h with h | h
    · rw [h, Bool.false_and]
    · have hw : (p.endWrite s.id v).offloadWriting s.clip v = false :=
        Bool.eq_false_of_not_eq_true fun hw => h ((Part.offloadWriting_iff (p := p.endWrite s.id v) s.clip).mp hw)
      rw [hw, Bool.and_false]
  unfold Part.slotUnwritten
  simp only [ho, Bool.false_eq_true, if_false] <;> rfl

end

/-- The clip that a lane reads. -/
theorem reading_iff (o : Option OffloadCtx) (i : Nat) :
    ((o.bind (·.current)).map (·.clip)) = some i ↔ ∃ x cur, o = some x ∧ x.current = some cur ∧ cur.clip = i := by
  constructor
  · intro h
    obtain ⟨cur, hcur, hclip⟩ := Option.map_eq_some_iff.mp h
    obtain ⟨x, hx, hxc⟩ := Option.bind_eq_some_iff.mp hcur
    exact ⟨x, cur, hx, hxc, hclip⟩
  · rintro ⟨x, cur, rfl, hcur, rfl⟩
    rw [Option.bind_some, hcur, Option.map_some]

/-! ### The tally of a fan-out (R59) -/

section
variable {p : Part} {i v : Nat} {written : Bool} {l : Fin 6} {c : Clip} {x : OffloadCtx} {y : Tally}

/-- The lane's offload with another tally. -/
def Part.tallied (p : Part) (l : Fin 6) (x : OffloadCtx) (ys : List Tally) : Part :=
  p.modReader l fun r => { r with offload := some { x with tally := ys } }

theorem Part.leaveTally_of_entry (hc : p.clip i = some c) (hl : p.offloadLane c.card = some l)
    (hx : (p.reader l).offload = some x) (hy : (x.tally.find? fun y => y.clip == i) = some y) :
    p.leaveTally i v written =
      if v ∉ y.volumes then p
      else if (y.volumes.filter (· != v)).isEmpty then
        if y.written || written then
          (p.tallied l x (x.tally.filter fun y => y.clip != i)).modCard x.card fun c => { c with copied := c.copied + 1 }
        else p.tallied l x (x.tally.filter fun y => y.clip != i)
      else
        p.tallied l x
          (modWhere x.tally (fun z => z.clip == i) fun z =>
            { z with volumes := y.volumes.filter (· != v), written := y.written || written }) := by
  have hlane : (p.clip i).bind (fun c => p.offloadLane c.card) = some l := by rw [hc, Option.bind_some, hl]
  unfold Part.leaveTally
  simp only [hlane, hx, hy, Part.modOffload_of_some hx] <;> rfl

end

/-! ### The write end of an offload copy (R59) -/

section
variable {p : Part} {i v : Nat} {digest : BitVec 64} {c : Clip} {r : Volume}

theorem Part.writeEnd_of_gone (hc : p.clip i = some c) (hw : c.offloadWriting v = false) : p.writeEnd i v digest = p := by
  unfold Part.writeEnd
  simp only [hc, hw, Bool.false_eq_true, false_and, if_false]

theorem Part.writeEnd_of_writing (hc : p.clip i = some c) (hv : p.volume v = some r) (hw : c.offloadWriting v = true) :
    p.writeEnd i v digest =
      if c.ingestDigest = some digest then
        ((p.modVolume v fun r => { r with verifyList := addOnce r.verifyList i }).copyTo i v .written).leaveTally i v true
      else (p.failCopy i v .digest).leaveTally i v false := by
  unfold Part.writeEnd
  simp only [hc, hv, hw, Option.isSome_some, and_self, if_true]

end

/-! ### A change of a copy entry (R93) -/

theorem Part.copyChange_of_none {p : Part} {i v : Nat} (h : p.copyState i v = none) (st : CopyState) (f : Part → Part) :
    p.copyChange i v st f = p := by
  unfold Part.copyChange
  rw [h]

theorem Part.copyChange_of_some {p : Part} {i v : Nat} {old : CopyState} (h : p.copyState i v = some old)
    (st : CopyState) (f : Part → Part) :
    p.copyChange i v st f = (f (p.modClip i fun c => c.setCopy v st)).handOn i v old st := by
  unfold Part.copyChange
  rw [h]

/-- The render reads the copy as its VERIFIED source. -/
def Part.RendersFrom (p : Part) (i v : Nat) (old : CopyState) : Prop :=
  old = .verified ∧ ∃ x, p.render.active = some x ∧ x.source = v ∧ x.clip = i

theorem Part.rendersFrom_iff (p : Part) (i v : Nat) (old : CopyState) :
    (old = .verified ∧ p.renderReads v ∧ (p.render.active.map (·.clip)) = some i) ↔ p.RendersFrom i v old := by
  unfold Part.RendersFrom Part.renderReads
  cases p.render.active <;> simp

theorem Part.rendersFrom_evaluateClip (p : Part) (i v : Nat) (old : CopyState) :
    (p.evaluateClip i).RendersFrom i v old ↔ p.RendersFrom i v old := by
  obtain ⟨cards, attention, h⟩ := p.evaluateClip_eq i
  rw [h]
  rfl

theorem Part.handOn_verifying_of_source {p : Part} {i v : Nat} {old : CopyState} (h : p.RendersFrom i v old) :
    p.handOn i v old .verifying = (p.evaluateClip i).abortRender .sourceLost .none :=
  if_pos ((Part.rendersFrom_iff _ i v old).mpr ((p.rendersFrom_evaluateClip i v old).mpr h))

theorem Part.handOn_verifying_of_other {p : Part} {i v : Nat} {old : CopyState} (h : ¬ p.RendersFrom i v old) :
    p.handOn i v old .verifying = p.evaluateClip i :=
  if_neg fun ht => h ((p.rendersFrom_evaluateClip i v old).mp ((Part.rendersFrom_iff _ i v old).mp ht))

theorem Part.handOn_failed_of_source {p : Part} {i v : Nat} {old : CopyState} (h : p.RendersFrom i v old) (m : Mismatch) :
    p.handOn i v old (.failed m) =
      (((p.evaluateClip i).abortRender .sourceLost .none).loseCopy i v).loseRecopyCopy i v :=
  congrArg (fun q : Part => (q.loseCopy i v).loseRecopyCopy i v)
    (if_pos ((Part.rendersFrom_iff _ i v old).mpr ((p.rendersFrom_evaluateClip i v old).mpr h)))

theorem Part.handOn_failed_of_other {p : Part} {i v : Nat} {old : CopyState} (h : ¬ p.RendersFrom i v old)
    (m : Mismatch) : p.handOn i v old (.failed m) = ((p.evaluateClip i).loseCopy i v).loseRecopyCopy i v :=
  congrArg (fun q : Part => (q.loseCopy i v).loseRecopyCopy i v)
    (if_neg fun ht => h ((p.rendersFrom_evaluateClip i v old).mp ((Part.rendersFrom_iff _ i v old).mp ht)))

/-! ### A verify read answered (R95, R96) -/

section
variable {p : Part} {d : Fin 4} {explicit : Bool} {x : VerifyCtx} {c : Clip} {b : Block}

/-- The verify after one more block. -/
def VerifyCtx.counted (x : VerifyCtx) (b : Block) : VerifyCtx :=
  { x with next := x.next + 1, digest := digestAdd x.digest b, read := x.read + 1 }

theorem Part.verifyAnswer_unreadable (hx : p.verifyOf d explicit = some x) :
    p.verifyAnswer d explicit none = p.verifyResult d explicit x (some .unreadable) := by
  unfold Part.verifyAnswer
  rw [hx]

theorem Part.verifyAnswer_differing (hx : p.verifyOf d explicit = some x) (hb : b.computedCheck ≠ b.check) :
    p.verifyAnswer d explicit (some b) = p.verifyResult d explicit x (some .unreadable) := by
  have hb' : b.checkGood = false := Bool.eq_false_of_not_eq_true fun h => hb ((blockGood_iff b).mp h)
  unfold Part.verifyAnswer
  simp only [hx, hb', Bool.false_eq_true, if_false]

theorem Part.verifyAnswer_good (hx : p.verifyOf d explicit = some x) (hc : p.clip x.clip = some c)
    (hb : b.computedCheck = b.check) :
    p.verifyAnswer d explicit (some b) =
      if c.blockCount ≤ x.next + 1 then
        p.verifyResult d explicit (x.counted b)
          (if c.ingestDigest = some (digestFinal (digestAdd x.digest b)) then none else some .digest)
      else (p.setVerify d explicit (some (x.counted b))).queueVerify d explicit x.clip (x.next + 1) := by
  unfold Part.verifyAnswer
  simp only [hx, (blockGood_iff b).mpr hb, if_true, hc] <;> rfl

theorem Part.copyState_setVerify (p : Part) (d : Fin 4) (explicit : Bool) (y : Option VerifyCtx) (i v : Nat) :
    (p.setVerify d explicit y).copyState i v = p.copyState i v := by
  cases explicit <;> rfl

theorem Part.volume_setVerify (p : Part) (d : Fin 4) (explicit : Bool) (y : Option VerifyCtx) (v : Nat) :
    (p.setVerify d explicit y).volume v = p.volume v := by
  cases explicit <;> rfl

theorem Part.verifyResult_of_named {r : Volume} (bad : Option Mismatch) (hs : p.copyState x.clip x.vol ≠ none)
    (hv : p.volume x.vol = some r) :
    p.verifyResult d explicit x bad =
      match bad with
      | none =>
        ((p.setVerify d explicit none).proveCopy x.clip x.vol).verifyTerm d explicit (x.termination .normal .verified .none)
      | some m =>
        ((p.setVerify d explicit none).failCopy x.clip x.vol m).verifyTerm d explicit
          (x.termination .normal .mismatch (.mismatch m (if m = .unreadable then x.next else 0))) := by
  obtain ⟨st, hst⟩ := Option.ne_none_iff_exists'.mp hs
  unfold Part.verifyResult
  simp only [Part.copyState_setVerify, Part.volume_setVerify, hst, hv] <;> rfl

end

/-! ### A recopy read or written (R104 to R106) -/

section
variable {p : Part} {d t : Fin 4} {x : RecopyCtx} {c : Clip} {b : Block}

theorem Part.recopyAnswer_unreadable (hx : p.recopyOf t = some x) :
    p.recopyAnswer t none = p.endRecopy t .abnormal .noSourceLeft (.mismatch .unreadable x.next) := by
  unfold Part.recopyAnswer
  simp only [hx]

theorem Part.recopyAnswer_of_block (hx : p.recopyOf t = some x) (hc : p.clip x.clip = some c) :
    p.recopyAnswer t (some b) =
      if b.checkGood then p.modDest t fun r => { r with recopies := r.recopies ++ [.write (c.key false) x.next b] }
      else p.endRecopy t .abnormal .noSourceLeft (.mismatch .unreadable x.next) := by
  unfold Part.recopyAnswer
  simp only [hx, Part.keyOf_of_clip hc]

/-- The recopy after one more block written. -/
def RecopyCtx.counted (x : RecopyCtx) (b : Block) : RecopyCtx :=
  { x with
    digest := digestAdd x.digest b
    written := x.written + 1
    next := match x.source with
      | .volume _ => x.written + 1
      | .card _ _ => x.next }

theorem Part.recopyWritten_of_clip (hx : p.recopyOf t = some x) (hc : p.clip x.clip = some c) :
    p.recopyWritten t b =
      if c.blockCount ≤ x.written + 1 then p.recopyEnd t (x.counted b) (digestFinal (x.counted b).digest)
      else (p.modDest t fun r => { r with explicit := some (.recopy (x.counted b)) }).recopyRead t := by
  unfold Part.recopyWritten
  simp only [hx, hc, Part.modRecopy_of_some hx] <;> rfl

/-- The target's lane free, and the reader that the recopy read through. -/
def Part.recopyOver (p : Part) (d : Fin 4) (x : RecopyCtx) : Part :=
  (match x.source with
    | .card l _ => (p.leaveQueue l).modReader l fun r => { r with serves := none }
    | .volume _ => p).modDest d fun r => { r with explicit := none }

theorem Part.recopyOver_clip (p : Part) (d : Fin 4) (x : RecopyCtx) (i : Nat) : (p.recopyOver d x).clip i = p.clip i := by
  unfold Part.recopyOver
  cases x.source <;> rfl

theorem Part.recopyEnd_eq (p : Part) (d : Fin 4) (x : RecopyCtx) (digest : BitVec 64) :
    p.recopyEnd d x digest =
      if (p.clip x.clip).bind (·.ingestDigest) = some digest then
        (((p.recopyOver d x).modVolume x.target fun r => { r with verifyList := addOnce r.verifyList x.clip }).copyTo x.clip
          x.target .written).termDest d (x.termination .normal .recopied .none)
      else
        ((p.recopyOver d x).failCopy x.clip x.target .digest).termDest d
          (x.termination .normal .mismatch (.mismatch .digest 0)) := by
  have hover : ((match x.readerLane with
      | some l => (p.leaveQueue l).modReader l fun r => { r with serves := none }
      | none => p).setExplicit d none) = p.recopyOver d x := by
    unfold Part.recopyOver RecopyCtx.readerLane
    cases x.source <;> rfl
  have hunfold : p.recopyEnd d x digest =
      let q := (match x.readerLane with
        | some l => (p.leaveQueue l).modReader l fun r => { r with serves := none }
        | none => p).setExplicit d none
      if (q.clip x.clip).bind (·.ingestDigest) = some digest then
        ((q.modVolume x.target fun r => { r with verifyList := addOnce r.verifyList x.clip }).copyTo x.clip x.target
          .written).termDest d (x.termination .normal .recopied .none)
      else
        (q.failCopy x.clip x.target .digest).termDest d (x.termination .normal .mismatch (.mismatch .digest 0)) := rfl
  rw [hunfold]
  dsimp only
  rw [hover, Part.recopyOver_clip]

end

/-! ### A recopy ended before its write end (R108) -/

/-- The clip has no entry on the volume. -/
def Part.NoCopy (p : Part) (i v : Nat) : Prop := ∀ c, p.clip i = some c → c.copyOn v = none

theorem Part.RecordsLessen.noCopy {p q : Part} (h : p.RecordsLessen q) {i v : Nat} (hp : p.NoCopy i v) : q.NoCopy i v := by
  intro e he
  obtain ⟨c, hc, _⟩ := h.clip_of_some he
  rcases h.copies i c e v hc he with heq | hnone
  · rw [heq]
    exact hp c hc
  · exact hnone

theorem Part.noCopy_dropCopy (p : Part) (i v : Nat) : (p.dropCopy i v).NoCopy i v := by
  have hmod : (p.modClip i fun c => c.removeCopy v).NoCopy i v := by
    intro e he
    have he' : tget (tmod p.clips i fun c => c.removeCopy v) i = some e := he
    rw [tget_tmod, if_pos rfl, Option.map_eq_some_iff] at he'
    obtain ⟨c, _, rfl⟩ := he'
    exact c.copyOn_removeCopy_self v
  exact ((Part.lessens_evaluateClip _ i).trans (Part.lessens_loseCopy _ i v)).noCopy hmod

theorem Part.copyState_of_noCopy {p : Part} {i v : Nat} (h : p.NoCopy i v) : p.copyState i v = none := by
  unfold Part.copyState
  cases hc : p.clip i
  case none => rfl
  case some c => rw [Option.bind_some, h c hc, Option.map_none]

theorem Part.copyState_endRecopy {p : Part} {d : Fin 4} {x : RecopyCtx} (h : p.recopyOf d = some x) (cls : TermClass)
    (cause : Cause) (detail : Detail) : (p.endRecopy d cls cause detail).copyState x.clip x.target = none := by
  have hdrop : (p.dropRecopy d).NoCopy x.clip x.target := by
    rw [Part.dropRecopy_of_some h]
    split
    next => exact (Part.lessens_claimRelease _ _ _).noCopy (Part.noCopy_dropCopy _ _ _)
    next => exact Part.noCopy_dropCopy _ _ _
  rw [Part.endRecopy_of_some h]
  exact Part.copyState_of_noCopy ((Part.lessens_termDest _ d _).noCopy hdrop)

end Sys2Proof.Machine

/-! The answers of a volume: the obligation, from the rules of its requesters. -/

namespace Sys2Proof.Machine

/-! ### A message of a volume in bytes (11.4) -/

theorem volumeCommand_identify (d : Fin 4) (tag : Byte) {label : List Byte} (serial : BitVec 64) (prot : Byte)
    {free : Nat} (hl : label.length = 16) (hf : free < 2 ^ 48) :
    volumeCommand d ([0x91, tag] ++ label ++ leBytes 8 serial.toNat ++ [prot] ++ leBytes 6 free) =
      .identifyAnswer d tag label serial (prot != 0) free := by
  have hserial : ([0x91, tag] ++ label).length = 18 := by simp [hl]
  have hprot : ([0x91, tag] ++ label ++ leBytes 8 serial.toNat).length = 26 := by simp [hl]
  have hfree : ([0x91, tag] ++ label ++ leBytes 8 serial.toNat ++ [prot]).length = 27 := by simp [hl]
  have hlabel' := bytesAt_field [0x91, tag] label (leBytes 8 serial.toNat ++ [prot] ++ leBytes 6 free) (off := 2) rfl hl
  have hserial' := numAt_field ([0x91, tag] ++ label) ([prot] ++ leBytes 6 free) 8 hserial serial.isLt
  have hprot' := byteAt_field ([0x91, tag] ++ label ++ leBytes 8 serial.toNat) (leBytes 6 free) prot hprot
  have hfree' := numAt_last ([0x91, tag] ++ label ++ leBytes 8 serial.toNat ++ [prot]) 6 hfree hf
  simp only [List.append_assoc] at hlabel' hserial' hprot' hfree' ⊢
  have hcommand (m : List Byte) :
      volumeCommand d (0x91 :: tag :: m) =
        .identifyAnswer d tag (bytesAt (0x91 :: tag :: m) 2 16) (BitVec.ofNat 64 (numAt (0x91 :: tag :: m) 18 8))
          (flagAt (0x91 :: tag :: m) 26) (numAt (0x91 :: tag :: m) 27 6) := rfl
  simp only [List.cons_append, List.nil_append] at hlabel' hserial' hprot' hfree' ⊢
  rw [hcommand, hlabel', hserial', hfree', flagAt, hprot', BitVec.ofNat_toNat, BitVec.setWidth_eq]

theorem volumeCommand_write (d : Fin 4) (tag x : Byte) {free : Nat} (hf : free < 2 ^ 48) :
    volumeCommand d ([0x92, tag, x] ++ leBytes 6 free) = .writeAnswer d tag (x == 0) free := by
  have hfree := numAt_last [0x92, tag, x] 6 (off := 3) rfl hf
  exact congrArg (Instr.writeAnswer d tag (x == 0)) hfree

theorem volumeCommand_release (d : Fin 4) (tag : Byte) {freed free : Nat} (hn : freed < 2 ^ 32) (hf : free < 2 ^ 48) :
    volumeCommand d ([0x94, tag] ++ leBytes 4 freed ++ leBytes 6 free) = .releaseAnswer d tag freed free := by
  have hfreed := numAt_field [0x94, tag] (leBytes 6 free) 4 (off := 2) rfl hn
  have hfree := numAt_last ([0x94, tag] ++ leBytes 4 freed) 6 (off := 6) (by simp) hf
  have hcommand (m : List Byte) :
      volumeCommand d ([0x94, tag] ++ m) =
        .releaseAnswer d tag (numAt ([0x94, tag] ++ m) 2 4) (numAt ([0x94, tag] ++ m) 6 6) := rfl
  rw [List.append_assoc] at hfreed hfree ⊢
  rw [hcommand, hfreed, hfree]

theorem volumeCommand_read_failed (d : Fin 4) (tag : Byte) (fields : List Byte) {x : Byte} (hx : x ≠ 0) :
    volumeCommand d ([0x93, tag, x] ++ fields) = .readAnswer d tag none := by
  have hflag : (x == 0) = false := beq_eq_false_iff_ne.mpr hx
  exact congrArg (fun f : Bool => Instr.readAnswer d tag (if f then some (Block.ofBytes fields) else none)) hflag

theorem volumeCommand_free (d : Fin 4) (tag : Byte) {free : Nat} (hf : free < 2 ^ 48) :
    volumeCommand d ([0x99, tag] ++ leBytes 6 free) = .freeReport d free := by
  have hfree := numAt_last [0x99, tag] 6 (off := 2) rfl hf
  exact congrArg (Instr.freeReport d) hfree

/-- Settles O58: an answer goes to the request of its tag; each requester's rule has an equation for each branch, and the
entry of a recopy that ends is taken out. -/
theorem volumeAnswered : Obligations.VolumeAnswered := by
  refine ⟨?answered, ?others, ?stored, ?unwritten, ?writers, ?readers, ?tally, ?writeEnd, ?changes, ?handOn, ?verified,
    ?results, ?recopied, ?recopyEnd, ?ended, ?commands⟩
  case answered =>
    intro s d tag o ho ht p
    have ho' : (s.part.quiet.dest d).out = some o := ho
    have hfault (code : BitVec 16) := Part.takeFault_of_asked code ho' ht
    refine ⟨fun owner key n b hq => ⟨fun stored free hb => ?_, fun v hb => ⟨fun free => ?_, fun free => ?_, fun code => ?_⟩⟩,
      fun owner key n hq => ⟨fun b => ?_, fun code => ?_⟩, fun key hq => ⟨fun freed free => ?_, fun code => ?_⟩,
      fun hq => ⟨?_, fun code => ?_⟩⟩
    · exact acted_of_event rfl ((Part.takeWrite_of_asked stored free ho' ht hq).trans
        (Part.writeAnswered_of_unbound (p := p) hb owner key b stored free))
    · exact acted_of_event rfl ((Part.takeWrite_of_asked true free ho' ht hq).trans
        (Part.writeAnswered_of_bound (p := p) hb owner key b true free))
    · exact acted_of_event rfl ((Part.takeWrite_of_asked false free ho' ht hq).trans
        (Part.writeAnswered_of_bound (p := p) hb owner key b false free))
    · have hb' : (s.part.quiet.freed d).boundVolume d = some v := hb
      refine acted_of_event rfl ((hfault code).trans ?_)
      simp only [hq, hb'] <;> rfl
    · exact acted_of_event rfl (Part.takeRead_of_asked b ho' ht hq)
    · refine acted_of_event rfl ((hfault code).trans ?_)
      simp only [hq] <;> rfl
    · exact acted_of_event rfl (Part.takeRelease_of_asked free ho' ht hq)
    · refine acted_of_event rfl ((hfault code).trans ?_)
      simp only [hq] <;> rfl
    · exact acted_of_event rfl (Part.takeEject_of_asked ho' ht hq)
    · refine acted_of_event rfl ((hfault code).trans ?_)
      simp only [hq] <;> rfl
  case others =>
    intro s d tag h
    have hnone : s.part.quiet.volumeAsks d tag = none := Part.volumeAsks_none h
    refine ⟨fun label serial prot free => acted_of_event rfl ?_, fun stored free => acted_of_event rfl ?_,
      fun b => acted_of_event rfl ?_, fun freed free => acted_of_event rfl ?_, acted_of_event rfl ?_,
      fun code => acted_of_event rfl ?_⟩
    · rw [Part.takeIdentify, hnone]
    · rw [Part.takeWrite, hnone]
    · rw [Part.takeRead, hnone]
    · rw [Part.takeRelease, hnone]
    · rw [Part.takeEject, hnone]
    · rw [Part.takeVolumeFault, hnone]
  case stored =>
    intro p d id v key x s w b c hs hr hw hb hc old q
    have hslot : p.writeStored d v (.slot id) key x = p.slotWritten s v w.orphan := Part.writeStored_of_offload hs hw hr
    refine ⟨fun h => hslot.trans (Part.slotWritten_of_late w.orphan hb hc h), fun ho hw hlt => ?_, fun ho hw hle => ?_⟩
    · rw [hslot, ho, Part.slotWritten_of_writing hb hc hw]
      exact if_neg (Nat.not_le.mpr hlt)
    · rw [hslot, ho, Part.slotWritten_of_writing hb hc hw]
      exact if_pos hle
  case unwritten =>
    intro p d id v s w ends renders detail hs hw left q unwritten renewed
    have hend : p.endWrite s.id v = q := rfl
    have hun : unwritten = _ := Part.writeUnwritten_of_slot ends renders detail hs hw
    refine ⟨hend, fun ho h => ?_, fun ho hr => ?_, fun h hr => ?_, fun hr key x b hb => ⟨fun ho => ?_, fun ho => ?_⟩⟩
    · cases hr : s.recopy
      case true =>
        rw [hun, hr, ho]
        rfl
      case false =>
        have hren : p.Renewed s.clip v := h.resolve_left (by rw [hr]; exact Bool.false_ne_true)
        rw [hun, hr, ho]
        exact Part.slotUnwritten_of_renewed hren
    · rw [hun, hr, ho]
      rfl
    · intro gone kept cancelled reading
      have hown := Part.slotUnwritten_of_own (p := p) (s := s) w.orphan h
      have hlost : (p.endWrite s.id v).entryLost s v = cancelled := rfl
      rw [hlost] at hown
      have hslot : unwritten = p.slotUnwritten s v w.orphan := by
        rw [hun, hr]
        rfl
      refine ⟨fun hread => ?_, fun hread => ?_⟩
      · rw [hslot, hown]
        exact if_pos ((reading_iff _ _).mpr hread)
      · rw [hslot, hown]
        exact if_neg fun hi => hread ((reading_iff _ _).mp hi)
    · rw [Part.writeStored_of_recopy hs hw hr hb, ho]
      rfl
    · rw [Part.writeStored_of_recopy hs hw hr hb, ho]
      rfl
  case writers => exact fun p d v ends renders detail key => ⟨rfl, rfl, rfl, fun _ => rfl, fun _ => rfl, fun _ => rfl⟩
  case readers =>
    intro p d c b
    have hread : p.readAnswered d (.preview c) (some b) = p.channelAnswer c (if b.checkGood then some b else none) := rfl
    refine ⟨fun hb => ?_, fun hb => ?_, rfl, fun _ => rfl, fun _ => rfl⟩
    · rw [hread, if_pos ((blockGood_iff b).mpr hb)]
    · rw [hread, if_neg fun h => hb ((blockGood_iff b).mp h)]
  case tally =>
    intro p i v written l c x y hc hl hx hy left tallied last
    have htally := Part.leaveTally_of_entry (v := v) (written := written) hc hl hx hy
    refine ⟨fun hv => htally.trans (if_pos hv), fun hv hne => ?_, fun hv hnil => ⟨fun hw => ?_, fun hw hw' => ?_⟩⟩
    · refine htally.trans ((if_neg (not_not.mpr hv)).trans ((if_neg ?_).trans ?_))
      · exact fun h => hne (List.isEmpty_iff.mp h)
      · refine congrArg (p.tallied l x) ?_
        simp only [modWhere, beq_iff_eq] <;> rfl
    · refine htally.trans ((if_neg (not_not.mpr hv)).trans ((if_pos (List.isEmpty_iff.mpr hnil)).trans (if_pos ?_)))
      exact Bool.or_eq_true_iff.mpr hw
    · refine htally.trans ((if_neg (not_not.mpr hv)).trans ((if_pos (List.isEmpty_iff.mpr hnil)).trans (if_neg ?_)))
      rw [hw, hw']
      exact Bool.false_ne_true
  case writeEnd =>
    intro p i v digest c r hc hv
    refine ⟨Part.writeEnd_of_gone hc, fun hw => ⟨fun hd => ?_, fun hd => ?_⟩⟩
    · exact (Part.writeEnd_of_writing hc hv hw).trans (if_pos hd)
    · exact (Part.writeEnd_of_writing hc hv hw).trans (if_neg hd)
  case changes =>
    intro p i v
    refine ⟨fun h => ⟨fun st => Part.copyChange_of_none h st id, Part.copyChange_of_none h _ _,
      fun m => Part.copyChange_of_none h _ _⟩, fun old h => ?_⟩
    intro set
    exact ⟨fun st => Part.copyChange_of_some h st id, Part.copyChange_of_some h _ _,
      fun m => Part.copyChange_of_some h _ _⟩
  case handOn =>
    intro p i v old q reading
    refine ⟨rfl, rfl, rfl, fun h => ⟨Part.handOn_verifying_of_source h, Part.handOn_failed_of_source h⟩,
      fun h => ⟨Part.handOn_verifying_of_other h, Part.handOn_failed_of_other h⟩⟩
  case verified =>
    intro p d explicit x c b hx hc owner y
    have hread (z : Option Block) : p.readAnswered d owner z = p.verifyAnswer d explicit z := by
      cases explicit <;> rfl
    refine ⟨(hread _).trans (Part.verifyAnswer_unreadable hx), fun hb => (hread _).trans (Part.verifyAnswer_differing hx hb),
      fun hb hlt => ?_, fun hb hle => ⟨fun hd => ?_, fun hd => ?_⟩⟩
    · rw [hread, Part.verifyAnswer_good hx hc hb]
      exact if_neg (Nat.not_le.mpr hlt)
    · rw [hread, Part.verifyAnswer_good hx hc hb, if_pos hle]
      exact congrArg (p.verifyResult d explicit y) (if_pos hd)
    · rw [hread, Part.verifyAnswer_good hx hc hb, if_pos hle]
      exact congrArg (p.verifyResult d explicit y) (if_neg hd)
  case results =>
    intro p d explicit x r hs hv q ended
    refine ⟨Part.verifyResult_of_named none hs hv, Part.verifyResult_of_named (some .digest) hs hv,
      Part.verifyResult_of_named (some .unreadable) hs hv⟩
  case recopied =>
    intro p d t x c b hx hc lost
    refine ⟨Part.recopyAnswer_unreadable hx, fun hb => ?_, fun hb => ?_, ?_⟩
    · exact (Part.recopyAnswer_of_block hx hc).trans (if_neg fun h => hb ((blockGood_iff b).mp h))
    · exact (Part.recopyAnswer_of_block hx hc).trans (if_pos ((blockGood_iff b).mpr hb))
    · intro y
      exact ⟨fun hlt => (Part.recopyWritten_of_clip hx hc).trans (if_neg (Nat.not_le.mpr hlt)),
        fun hle => (Part.recopyWritten_of_clip hx hc).trans (if_pos hle)⟩
  case recopyEnd =>
    intro p d x digest q ended
    exact ⟨fun h => (p.recopyEnd_eq d x digest).trans (if_pos h), fun h => (p.recopyEnd_eq d x digest).trans (if_neg h)⟩
  case ended =>
    intro p d cls cause detail
    refine ⟨fun h => ?_, fun x hx => ?_⟩
    · rw [Part.endRecopy, h]
    · obtain ⟨hex, hterm⟩ := Part.dest_endRecopy hx cls cause detail
      exact ⟨hex, Part.copyState_endRecopy hx cls cause detail,
        fun l k hs => Part.serves_endRecopy hx hs cls cause detail, hterm⟩
  case commands =>
    intro d tag fields
    refine ⟨fun label serial prot free hl hf => volumeCommand_identify d tag serial prot hl hf,
      fun x free hf => volumeCommand_write d tag x hf, rfl, fun x hx => volumeCommand_read_failed d tag fields hx,
      fun freed free hn hf => volumeCommand_release d tag hn hf, rfl,
      fun lo hi => congrArg (Instr.volumeFaultAnswer d tag) (code_of_bytes lo hi), rfl, rfl,
      fun free hf => volumeCommand_free d tag hf, fun type h => volumeCommand_unknown d _ type h, rfl,
      fun owner key n b => ?_, fun owner key n => ?_, fun key => rfl, rfl⟩
    · simp only [Message.bytes, linkBytes, VolumeRequest.parts, List.append_assoc]
    · simp only [Message.bytes, linkBytes, VolumeRequest.parts, List.append_assoc]

end Sys2Proof.Machine

/-! The loss of a plan volume, the entry of a lane into FULL, the departure of a volume: what each leaves of the destination
lanes and of the volume records (R61, R65, R82, R86). -/

namespace Sys2Proof.Machine

/-! ### An offload leaves the destination lanes and the volumes alone -/

/-- The destination lanes and the volume records. -/
def Part.holds (p : Part) : Vector DestLane 4 × Table Volume := (p.dests, p.volumes)

theorem Part.holds_foldl {α : Type} (f : Part × List Nat → α → Part × List Nat)
    (h : ∀ s x, (f s x).1.holds = s.1.holds) (xs : List α) : ∀ s, (xs.foldl f s).1.holds = s.1.holds := by
  induction xs with
  | nil => exact fun _ => rfl
  | cons x xs ih => exact fun s => (ih (f s x)).trans (h s x)

theorem Part.holds_formFanOut (p : Part) (i : Nat) (plan : Plan) : (p.formFanOut i plan).1.holds = p.holds := by
  refine Part.holds_foldl _ (fun s v => ?_) plan.volumes (p, [])
  unfold fanOutStep
  split
  next => split <;> rfl
  next => rfl

theorem Part.holds_takeUp (p : Part) (l : Fin 6) (i pos : Nat) (c : Clip) (fanOut : List Nat) :
    (p.takeUp l i pos c fanOut).holds = p.holds := by
  unfold Part.takeUp
  dsimp only
  split <;> rfl

theorem Part.holds_considerFrom (l : Fin 6) (fuel : Nat) : ∀ p : Part, (Part.considerFrom l fuel p).holds = p.holds := by
  induction fuel with
  | zero => exact fun _ => rfl
  | succ fuel ih =>
    intro p
    unfold Part.considerFrom
    split
    next => rfl
    next x _ =>
      split
      next => rfl
      next card _ =>
        dsimp only
        split
        next => rfl
        next => rfl
        next i _ _ =>
          split
          next => exact ih _
          next c _ =>
            split
            next => exact ih _
            next =>
              split
              next => exact ih _
              next =>
                split
                next => exact (ih _).trans (Part.holds_formFanOut _ i card.plan)
                next => exact (Part.holds_takeUp _ l i _ c _).trans (Part.holds_formFanOut _ i card.plan)

theorem Part.holds_consider (p : Part) (l : Fin 6) : (p.consider l).holds = p.holds := Part.holds_considerFrom l 252 p

theorem Part.holds_holdCard (p : Part) (i : Nat) : (p.holdCard i).holds = p.holds := by
  obtain ⟨cards, attention, h⟩ := p.holdCard_eq i
  rw [h]
  rfl

/-! ### What a loss may take of the destination lanes; it keeps the volume records -/

structure Part.DestsLessen (p q : Part) : Prop where
  lanes : ∀ d, (p.dest d).Lessens (q.dest d)
  volumes : q.volumes = p.volumes

theorem Part.DestsLessen.of_holds {p q : Part} (h : q.holds = p.holds) : p.DestsLessen q where
  lanes := by
    intro d
    have hd : q.dest d = p.dest d := congrArg (fun s : Vector DestLane 4 × Table Volume => s.1.get d) h
    rw [hd]
    exact DestLane.Lessens.refl _
  volumes := congrArg Prod.snd h

theorem Part.DestsLessen.refl (p : Part) : p.DestsLessen p := Part.DestsLessen.of_holds rfl

theorem Part.DestsLessen.trans {p q r : Part} (h : p.DestsLessen q) (k : q.DestsLessen r) : p.DestsLessen r where
  lanes := fun d => (h.lanes d).trans (k.lanes d)
  volumes := k.volumes.trans h.volumes

theorem Part.RecordsLessen.destsLessen {p q : Part} (h : p.RecordsLessen q) : p.DestsLessen q := ⟨h.dests, h.volumes⟩

theorem Part.destsLessen_each {α : Type} (xs : List α) (f : Part → α → Part) (h : ∀ (q : Part) x, q.DestsLessen (f q x)) :
    ∀ p : Part, p.DestsLessen (p.each xs f) := by
  induction xs with
  | nil => exact Part.DestsLessen.refl
  | cons x xs ih => exact fun p => (h p x).trans (ih (f p x))

theorem Part.destsLessen_stopOffload (p : Part) (l : Fin 6) (dst : ReaderState) (cls : TermClass) (cause : Cause)
    (detail : Detail) : p.DestsLessen (p.stopOffload l dst cls cause detail) := by
  cases hx : (p.reader l).offload
  case none =>
    rw [Part.stopOffload_of_none hx]
    exact Part.DestsLessen.of_holds rfl
  case some x =>
    obtain ⟨counts, heq⟩ := Part.stopOffload_of_some hx dst cls cause detail
    rw [heq]
    refine (p.recordsLessen_beforeEnd l).destsLessen.trans (Part.DestsLessen.of_holds ?_)
    exact Part.holds_holdCard _ _

/-! ### A volume leaves the fan-out (R65) -/

section
variable {p : Part} {l : Fin 6} {v : Nat} {spare : Option Nat} {x : OffloadCtx} {card : Card}

/-- The volume out of the fan-out of a current clip. -/
def Current.without (v : Nat) (y : Current) : Current := { y with fanOut := y.fanOut.filter (· != v) }

/-- The lane with the volume out of its current clip's fan-out. -/
def Part.narrowed (p : Part) (l : Fin 6) (v : Nat) (x : OffloadCtx) : Part :=
  p.modReader l fun r => { r with offload := some { x with current := x.current.map (Current.without v) } }

theorem Part.narrowed_offload : ((p.narrowed l v x).reader l).offload =
    some { x with current := x.current.map (Current.without v) } :=
  congrArg ReaderLane.offload (Part.reader_modReader_self p l fun r =>
    { r with offload := some { x with current := x.current.map (Current.without v) } })

/-- A clip read again with no fan-out left is given up for the next position. -/
def Part.passed (p : Part) (l : Fin 6) : Part :=
  (((p.modReader l fun r => r.abandonOf .offload).freeSlots fun s => s.lane == l && s.data.isNone).modOffload l
    fun x => { x with current := none }).consider l

/-- Some other plan volume is usable. -/
def Part.HasDestination (p : Part) (card : Card) (spare : Option Nat) : Prop :=
  ∃ w ∈ card.plan.volumes, p.usable w = true ∧ spare ≠ some w

theorem Part.hasDestination_iff :
    (card.plan.volumes.any fun w => p.usable w && spare != some w) = true ↔ p.HasDestination card spare := by
  unfold Part.HasDestination
  rw [List.any_eq_true]
  simp

theorem Part.shrinkFanOut_of_offload (hx : (p.reader l).offload = some x) (hc : p.card x.card = some card) :
    p.shrinkFanOut l v spare =
      if (!(card.plan.volumes.any fun w => p.usable w && spare != some w) && x.done.isNone) = true then
        (p.narrowed l v x).stopOffload l .bound .abnormal .noDestination .none
      else
        match x.current.map (Current.without v) with
        | some cur =>
          if cur.fanOut.isEmpty then
            if cur.reread then ((p.narrowed l v x).leaveQueue l).passed l else (p.narrowed l v x).leaveQueue l
          else p.narrowed l v x
        | none => p.narrowed l v x := by
  have hnarrow : (p.modOffload l fun x => { x with current := x.current.map fun y =>
      { y with fanOut := y.fanOut.filter (· != v) } }) = p.narrowed l v x := Part.modOffload_of_some hx _
  have hcard : (p.narrowed l v x).card x.card = some card := hc
  have husable (w : Nat) : (p.narrowed l v x).usable w = p.usable w := rfl
  unfold Part.shrinkFanOut
  simp only [hx, hnarrow, hcard, husable, Part.narrowed_offload, Option.bind_some] <;> rfl

theorem Part.shrinkFanOut_of_lost (hx : (p.reader l).offload = some x) (hc : p.card x.card = some card)
    (hd : ¬ p.HasDestination card spare) (hn : x.done = none) :
    p.shrinkFanOut l v spare = (p.narrowed l v x).stopOffload l .bound .abnormal .noDestination .none := by
  have hany : (card.plan.volumes.any fun w => p.usable w && spare != some w) = false :=
    Bool.eq_false_of_not_eq_true fun h => hd (Part.hasDestination_iff.mp h)
  rw [Part.shrinkFanOut_of_offload hx hc, if_pos (by rw [hany, hn]; rfl)]

theorem Part.shrinkFanOut_of_kept (hx : (p.reader l).offload = some x) (hc : p.card x.card = some card)
    (h : p.HasDestination card spare ∨ x.done ≠ none) :
    p.shrinkFanOut l v spare =
      match x.current.map (Current.without v) with
      | some cur =>
        if cur.fanOut.isEmpty then
          if cur.reread then ((p.narrowed l v x).leaveQueue l).passed l else (p.narrowed l v x).leaveQueue l
        else p.narrowed l v x
      | none => p.narrowed l v x := by
  refine (Part.shrinkFanOut_of_offload hx hc).trans (if_neg ?_)
  intro ht
  obtain ⟨hany, hnone⟩ := Bool.and_eq_true_iff.mp ht
  rcases h with h | h
  · rw [Part.hasDestination_iff.mpr h] at hany
    exact absurd hany Bool.false_ne_true
  · exact h (Option.isNone_iff_eq_none.mp hnone)

theorem Current.without_isEmpty (v : Nat) (cur : Current) :
    (cur.without v).fanOut.isEmpty = true ↔ ∀ w ∈ cur.fanOut, w = v := by
  rw [List.isEmpty_iff, Current.without, List.filter_eq_nil_iff]
  simp

theorem Part.destsLessen_passed (p : Part) (l : Fin 6) : p.DestsLessen (p.passed l) :=
  Part.DestsLessen.of_holds (Part.holds_consider _ l)

theorem Part.destsLessen_shrinkFanOut (p : Part) (l : Fin 6) (v : Nat) (spare : Option Nat) :
    p.DestsLessen (p.shrinkFanOut l v spare) := by
  unfold Part.shrinkFanOut
  split
  next x hx =>
    have hnarrow : (p.modOffload l fun x => { x with current := x.current.map fun y =>
        { y with fanOut := y.fanOut.filter (· != v) } }) = p.narrowed l v x := Part.modOffload_of_some hx _
    dsimp only
    rw [hnarrow]
    have hstart : p.DestsLessen (p.narrowed l v x) := Part.DestsLessen.of_holds rfl
    refine iteInduction (motive := fun q => p.DestsLessen q) (fun _ => ?stopped) fun _ => ?kept
    case stopped => exact hstart.trans (Part.destsLessen_stopOffload _ l _ _ _ _)
    case kept =>
      split
      next cur _ =>
        split
        next =>
          split
          next =>
            have hleave : p.DestsLessen ((p.narrowed l v x).leaveQueue l) := Part.DestsLessen.of_holds rfl
            exact hleave.trans (Part.destsLessen_passed _ l)
          next => exact Part.DestsLessen.of_holds rfl
        next => exact hstart
      next => exact hstart
  next => exact Part.DestsLessen.refl p

/-! ### A plan volume lost (R65) -/

theorem Part.losePlanVolume_of_none (hx : (p.reader l).offload = none) : p.losePlanVolume l v = p := by
  unfold Part.losePlanVolume
  rw [hx]
  rfl

theorem Part.losePlanVolume_of_offload (hx : (p.reader l).offload = some x) (hc : p.card x.card = some card) :
    p.losePlanVolume l v =
      if v ∈ card.plan.volumes then
        ((card.clips.foldl (fun q i => q.removeWriting i v) p).dropWrites fun s w =>
          s.lane == l && !s.recopy && w.vol == v && !w.started).shrinkFanOut l v (some v)
      else p := by
  have hbind : ((p.reader l).offload.bind fun x => p.card x.card) = some card := by rw [hx, Option.bind_some, hc]
  unfold Part.losePlanVolume
  simp only [hbind] <;> rfl

theorem Part.destsLessen_dropWrites (p : Part) (test : Slot → SlotWrite → Bool) : p.DestsLessen (p.dropWrites test) :=
  Part.DestsLessen.of_holds rfl

theorem Part.destsLessen_losePlanVolume (p : Part) (l : Fin 6) (v : Nat) : p.DestsLessen (p.losePlanVolume l v) := by
  unfold Part.losePlanVolume
  split
  next card _ =>
    split
    next =>
      have hremove : p.DestsLessen (p.each card.clips fun p i => p.removeWriting i v) :=
        (Part.lessens_each _ _ (fun q i => q.lessens_removeWriting i v) p).destsLessen
      exact hremove.trans ((Part.destsLessen_dropWrites _ _).trans (Part.destsLessen_shrinkFanOut _ l v (some v)))
    next => exact Part.DestsLessen.refl p
  next => exact Part.DestsLessen.refl p

end

theorem Part.destsLessen_losePlanVolumeAll (p : Part) (v : Nat) : p.DestsLessen (p.losePlanVolumeAll v) :=
  Part.destsLessen_each _ _ (fun q l => q.destsLessen_losePlanVolume l v) p

/-! ### A render aborted (R164) -/

/-- A destination lane but for its render requests, its release list and the request outstanding. -/
def DestLane.unrendered (r : DestLane) : DestLane := { r with out := none, release := [], renders := [] }

/-- A destination lane after the end of a render. -/
structure DestLane.Unrenders (r x : DestLane) : Prop where
  rest : x.unrendered = r.unrendered
  renders : x.renders.Sublist r.renders
  write : ∀ o id k n b, r.out = some o → o.request = .write (.slot id) k n b → x.out = some o

theorem DestLane.Unrenders.refl (r : DestLane) : r.Unrenders r := ⟨rfl, List.Sublist.refl _, fun _ _ _ _ _ h _ => h⟩

theorem DestLane.Unrenders.trans {r x y : DestLane} (h : r.Unrenders x) (k : x.Unrenders y) : r.Unrenders y where
  rest := k.rest.trans h.rest
  renders := k.renders.trans h.renders
  write := fun o id key n b ho hr => k.write o id key n b (h.write o id key n b ho hr) hr

theorem Part.holds_unpin (p : Part) (used : Option (Nat × Nat)) : (p.unpin used).holds = p.holds := by
  unfold Part.unpin
  split <;> rfl

theorem Part.holds_removeEntry (p : Part) (tag : Nat) : (p.removeEntry tag).holds = p.holds := by
  unfold Part.removeEntry Part.refRelease
  dsimp only
  split <;> rfl

theorem Part.claimRelease_unrenders (p : Part) (v : Nat) (k : CopyKey) (d : Fin 4) :
    (p.dest d).Unrenders ((p.claimRelease v k).dest d) := by
  unfold Part.claimRelease
  split
  next e _ =>
    split
    next =>
      by_cases he : d = e
      · subst he
        rw [Part.dest_modDest_self]
        exact ⟨rfl, List.Sublist.refl _, fun _ _ _ _ _ h _ => h⟩
      · rw [Part.dest_modDest_other p e d _ he]
        exact DestLane.Unrenders.refl _
    next => exact DestLane.Unrenders.refl _
  next => exact DestLane.Unrenders.refl _

theorem Part.withdrawRender_unrenders (p : Part) (d : Fin 4) : (p.dest d).Unrenders (p.withdrawRender.dest d) := by
  rw [p.dest_withdrawRender]
  refine ⟨rfl, List.nil_sublist _, fun o id k n b ho hr => ?_⟩
  rw [ho, Option.map_some]
  unfold VolumeOut.withdrawRender
  rw [hr]

/-- The claim of a render given back when it has proxy blocks written. -/
def Part.unclaimRender (p : Part) (x : RenderCtx) : Part :=
  match p.keyOf x.clip true with
  | some k => if 0 < x.proxyBlocks then p.claimRelease x.target k else p
  | none => p

theorem Part.dropRender_of_render {p : Part} {x : RenderCtx} (hx : p.render.active = some x) :
    p.dropRender = (((p.withdrawRender.unclaimRender x).unpin x.used).removeEntry x.tag).setRender
      fun r => { r with active := none } := by
  simp only [Part.dropRender, hx] <;> rfl

theorem Part.unclaimRender_unrenders (p : Part) (x : RenderCtx) :
    (p.unclaimRender x).volumes = p.volumes ∧ ∀ d, (p.dest d).Unrenders ((p.unclaimRender x).dest d) := by
  unfold Part.unclaimRender
  split
  next k _ =>
    split
    next => exact ⟨(Part.claimRelease_clips _ _ _).2.1, Part.claimRelease_unrenders p x.target k⟩
    next => exact ⟨rfl, fun d => DestLane.Unrenders.refl _⟩
  next => exact ⟨rfl, fun d => DestLane.Unrenders.refl _⟩

theorem Part.dropRender_unrenders (p : Part) :
    p.dropRender.volumes = p.volumes ∧ ∀ d, (p.dest d).Unrenders (p.dropRender.dest d) := by
  cases hx : p.render.active
  case none =>
    rw [show p.dropRender = p by simp only [Part.dropRender, hx]]
    exact ⟨rfl, fun d => DestLane.Unrenders.refl _⟩
  case some x =>
    have hwithdraw : p.withdrawRender.volumes = p.volumes := by rw [p.withdrawRender_eq]
    obtain ⟨hclaim, hdests⟩ := p.withdrawRender.unclaimRender_unrenders x
    have hholds : p.dropRender.holds = (p.withdrawRender.unclaimRender x).holds := by
      rw [Part.dropRender_of_render hx]
      exact (Part.holds_removeEntry _ _).trans (Part.holds_unpin _ x.used)
    refine ⟨(congrArg Prod.snd hholds).trans (hclaim.trans hwithdraw), fun d => ?_⟩
    have hd : p.dropRender.dest d = (p.withdrawRender.unclaimRender x).dest d :=
      congrArg (fun s : Vector DestLane 4 × Table Volume => s.1.get d) hholds
    rw [hd]
    exact (p.withdrawRender_unrenders d).trans (hdests d)

theorem Part.abortRender_unrenders (p : Part) (cause : Cause) (detail : Detail) :
    (p.abortRender cause detail).volumes = p.volumes ∧
      ∀ d, (p.dest d).Unrenders ((p.abortRender cause detail).dest d) := by
  unfold Part.abortRender
  split
  next => exact p.dropRender_unrenders
  next => exact ⟨rfl, fun d => DestLane.Unrenders.refl _⟩

end Sys2Proof.Machine

/-! The rules for the loss of a plan volume, the entry into FULL and the departure of a volume (R61, R65, R82, R86). -/

namespace Sys2Proof.Machine

/-! ### A clip given up without a fan-out (R65) -/

section
variable {p : Part} {l : Fin 6} {v : Nat} {spare : Option Nat} {x : OffloadCtx} {card : Card}

/-- The lane without a current clip, its offload request withdrawn. -/
def ReaderLane.passed (x : OffloadCtx) (r : ReaderLane) : ReaderLane :=
  { r.abandonOf .offload with offload := some { x with current := none } }

theorem Part.passed_eq (hx : (p.reader l).offload = some x) :
    p.passed l = ((p.setSlots fun ss => ss.filter fun s => !(s.lane == l && s.data.isNone)).modReader l
      (ReaderLane.passed x)).consider l := by
  have habandon : ((p.reader l).abandonOf .offload).offload = some x := by
    rw [ReaderLane.abandonOf_eq]
    split <;> exact hx
  have hoff : (((p.modReader l fun r => r.abandonOf .offload).freeSlots fun s => s.lane == l && s.data.isNone).reader
      l).offload = some x :=
    (congrArg ReaderLane.offload (Part.reader_modReader_self p l fun r => r.abandonOf .offload)).trans habandon
  unfold Part.passed
  rw [Part.modOffload_of_some hoff]
  refine congrArg (fun q : Part => q.consider l) ?_
  exact Part.modReader_modReader (p.setSlots fun ss => ss.filter fun s => !(s.lane == l && s.data.isNone)) l
    (fun r => r.abandonOf .offload) fun r => { r with offload := some { x with current := none } }

end

/-! ### A WRITING entry removed (R61) -/

theorem Part.removeWriting_of_none {p : Part} {i v : Nat} {c : Clip} (hc : p.clip i = some c)
    (h : c.offloadWriting v = false) : p.removeWriting i v = p := by
  simp only [Part.removeWriting, hc, h, Bool.false_eq_true, if_false]

/-- The entry's claim given back, its progress ended, its writes orphaned. -/
def Part.unwriting (p : Part) (i v : Nat) (c : Clip) : Part :=
  ((if 0 < (p.progressOf i v).written then p.claimRelease v (c.key false) else p).setProgress i v none).orphanWrites
    fun s w => s.clip == i && !s.recopy && w.vol == v

theorem Part.removeWriting_of_writing {p : Part} {i v : Nat} {c : Clip} (hc : p.clip i = some c)
    (h : c.offloadWriting v = true) :
    p.removeWriting i v = ((p.unwriting i v c).copyGone i v).leaveTally i v false := by
  simp only [Part.removeWriting, hc, h, if_true] <;> rfl

theorem Part.noCopy_copyGone (p : Part) (i v : Nat) : (p.copyGone i v).NoCopy i v := by
  unfold Part.copyGone Part.loseRecopyCopy
  exact (Part.lessens_loseRecopies _ _ _).toRecordsLessen.noCopy (p.noCopy_dropCopy i v)

theorem Part.noCopy_leaveTally {p : Part} {i v : Nat} (h : p.NoCopy i v) (written : Bool) :
    (p.leaveTally i v written).NoCopy i v :=
  (p.lessens_leaveTally i v written).toRecordsLessen.noCopy h

theorem Part.copyState_removeWriting {p : Part} {i v : Nat} {c : Clip} (hc : p.clip i = some c)
    (h : c.offloadWriting v = true) : (p.removeWriting i v).copyState i v = none := by
  rw [Part.removeWriting_of_writing hc h]
  exact Part.copyState_of_noCopy (Part.noCopy_leaveTally (Part.noCopy_copyGone _ i v) false)

/-! ### FULL (R82) -/

/-- The lane in FULL with the volume out of every fan-out. -/
def Part.filled (p : Part) (d : Fin 4) (v : Nat) : Part :=
  (p.modDest d fun r => { r with state := .full, changed := true }).losePlanVolumeAll v

theorem Part.enterFull_eq (p : Part) (d : Fin 4) (v : Nat) :
    p.enterFull d v =
      if ((p.filled d v).endRecopy d .abnormal .destFull .none).renderWrites v = true then
        ((p.filled d v).endRecopy d .abnormal .destFull .none).abortRender .destFull .none
      else (p.filled d v).endRecopy d .abnormal .destFull .none := by
  have hfull : ((p.modDest d fun r => { r with state := .full }).changedDest d) =
      p.modDest d fun r => { r with state := .full, changed := true } := p.modDest_modDest d _ _
  unfold Part.enterFull Part.filled
  rw [hfull]

theorem Part.renderWrites_of_target {p : Part} {v : Nat} {x : RenderCtx} (hx : p.render.active = some x)
    (hv : x.target = v) : p.renderWrites v = true := by
  unfold Part.renderWrites
  rw [hx]
  exact beq_iff_eq.mpr hv

theorem Part.renderWrites_of_other {p : Part} {v : Nat} (h : ∀ x, p.render.active = some x → x.target ≠ v) :
    ¬ p.renderWrites v = true := by
  unfold Part.renderWrites
  split
  next x hx => exact fun ht => h x hx (beq_iff_eq.mp ht)
  next => exact Bool.false_ne_true

theorem Part.explicit_endRecopy (p : Part) (d : Fin 4) (cls : TermClass) (cause : Cause) (detail : Detail) (y : RecopyCtx) :
    ((p.endRecopy d cls cause detail).dest d).explicit ≠ some (.recopy y) := by
  cases hx : p.recopyOf d
  case none =>
    have hkeep : p.endRecopy d cls cause detail = p := by
      unfold Part.endRecopy
      rw [hx]
    rw [hkeep]
    intro h
    exact absurd (hx.symm.trans (Part.recopyOf_of_explicit h)) (nomatch ·)
  case some x =>
    rw [(Part.dest_endRecopy hx cls cause detail).1]
    exact (nomatch ·)

/-- The lane of a volume that turned FULL: what `was` keeps of it in `r` (R82). -/
structure DestLane.Fills (was r : DestLane) : Prop where
  state : r.state = .full
  changed : r.changed = true
  verifies : r.verifies = was.verifies
  sweep : r.sweep = was.sweep
  guard : r.guard = was.guard
  ended : ∀ x, r.explicit ≠ some (.recopy x)
  verify : ∀ x, was.explicit = some (.verify x) → r.explicit = some (.verify x)
  write : ∀ o id k n b, was.out = some o → o.request = .write (.slot id) k n b → r.out = some o
  previews : r.previews.Sublist was.previews
  recopies : r.recopies.Sublist was.recopies
  renders : r.renders.Sublist was.renders

theorem DestLane.Fills.of_steps {was m r : DestLane}
    (h : ({ was with state := .full, changed := true } : DestLane).Lessens m) (he : ∀ x, m.explicit ≠ some (.recopy x))
    (k : m.Unrenders r) : was.Fills r := by
  have hgist := h.gist
  have hrest := k.rest
  have hexplicit : r.explicit = m.explicit := by have := congrArg DestLane.explicit hrest; exact this
  have hpreviews : r.previews = m.previews := by have := congrArg DestLane.previews hrest; exact this
  have hrecopies : r.recopies = m.recopies := by have := congrArg DestLane.recopies hrest; exact this
  have hrenders : m.renders = was.renders := by have := congrArg DestLane.renders hgist; exact this
  constructor
  case state => exact (congrArg DestLane.state hrest :).trans (congrArg DestLane.state hgist :)
  case changed => exact (congrArg DestLane.changed hrest :).trans (congrArg DestLane.changed hgist :)
  case verifies => exact (congrArg DestLane.verifies hrest :).trans (congrArg DestLane.verifies hgist :)
  case sweep => exact (congrArg DestLane.sweep hrest :).trans (congrArg DestLane.sweep hgist :)
  case guard => exact (congrArg DestLane.guard hrest :).trans (congrArg DestLane.guard hgist :)
  case ended => exact fun x => hexplicit ▸ he x
  case verify =>
    intro x hx
    rw [hexplicit]
    rcases h.explicit with hkeep | ⟨_, y, hy⟩
    · exact hkeep.trans hx
    · exact absurd (hx.symm.trans hy) (nomatch ·)
  case write => exact fun o id key n b ho hr => k.write o id key n b (h.write o id key n b ho hr) hr
  case previews => exact hpreviews ▸ h.previews
  case recopies => exact hrecopies ▸ h.recopies
  case renders => exact hrenders ▸ k.renders

theorem Part.filled_lessens (p : Part) (d : Fin 4) (v : Nat) :
    ({ p.dest d with state := .full, changed := true } : DestLane).Lessens ((p.filled d v).dest d) := by
  have hlane := (Part.destsLessen_losePlanVolumeAll (p.modDest d fun r => { r with state := .full, changed := true })
    v).lanes d
  rw [Part.dest_modDest_self] at hlane
  exact hlane

theorem Part.enterFull_fills (p : Part) (d : Fin 4) (v : Nat) : (p.dest d).Fills ((p.enterFull d v).dest d) := by
  have hended := (p.filled_lessens d v).trans (((p.filled d v).lessens_endRecopy d .abnormal .destFull .none).dests d)
  have hexplicit := Part.explicit_endRecopy (p.filled d v) d .abnormal .destFull .none
  rw [Part.enterFull_eq]
  split
  next => exact DestLane.Fills.of_steps hended hexplicit ((Part.abortRender_unrenders _ _ _).2 d)
  next => exact DestLane.Fills.of_steps hended hexplicit (DestLane.Unrenders.refl _)

/-! ### A volume departs (R86) -/

/-- A volume record but for its list of copies to verify. -/
def Volume.unlisted (r : Volume) : Volume := { r with verifyList := [] }

/-- The volume records but for their lists of copies to verify. -/
def Part.labels (p : Part) : Table Volume := p.volumes.map fun e => (e.1, e.2.unlisted)

theorem Part.labels_of_volumes {p q : Part} (h : q.volumes = p.volumes) : q.labels = p.labels := by
  unfold Part.labels
  rw [h]

theorem Part.volume_of_labels {p q : Part} (h : q.labels = p.labels) {v : Nat} {r : Volume} (hr : p.volume v = some r) :
    ∃ x, q.volume v = some x ∧ x.unlisted = r.unlisted := by
  have hmap := congrArg (fun t => tget t v) h
  simp only [Part.labels, tget_map] at hmap
  have hq : (q.volume v).map Volume.unlisted = some r.unlisted := hmap.trans (congrArg (Option.map Volume.unlisted) hr)
  exact Option.map_eq_some_iff.mp hq

theorem Part.volumes_of_still {p q : Part} (h : q.still = p.still) : q.volumes = p.volumes := congrArg Prod.fst h

theorem Part.volumes_ite {c : Prop} [Decidable c] {p q : Part} (h : q.volumes = p.volumes) :
    (if c then q else p).volumes = p.volumes :=
  iteInduction (motive := fun x : Part => x.volumes = p.volumes) (fun _ => h) fun _ => rfl

theorem Part.volumes_handOn (p : Part) (i v : Nat) (old st : CopyState) : (p.handOn i v old st).volumes = p.volumes := by
  have hevaluate : (p.evaluateClip i).volumes = p.volumes := (p.lessens_evaluateClip i).volumes
  have habort := Part.volumes_ite (c := old = .verified ∧ (p.evaluateClip i).renderReads v ∧
    ((p.evaluateClip i).render.active.map (·.clip)) = some i)
    ((p.evaluateClip i).abortRender_unrenders .sourceLost .none).1
  have hregain : (((p.evaluateClip i).examine).regainClip i).volumes = p.volumes := by
    refine (Part.volumes_of_still (Part.still_each allChannels _ (fun q c => ?_) _)).trans
      ((Part.volumes_of_still (Part.still_examine _)).trans hevaluate)
    exact iteInduction (motive := fun x : Part => x.still = q.still) (fun _ => q.still_regainSource c) fun _ => rfl
  unfold Part.handOn
  dsimp only
  cases st
  case writing => exact hevaluate
  case written => exact hregain
  case verified => exact hregain
  case verifying => exact habort.trans hevaluate
  case failed m =>
    exact ((Part.lessens_loseRecopies _ _ _).volumes.trans (Part.lessens_loseCopy _ i v).volumes).trans
      (habort.trans hevaluate)

theorem Part.volumes_copyTo (p : Part) (i v : Nat) (st : CopyState) : (p.copyTo i v st).volumes = p.volumes := by
  unfold Part.copyTo Part.copyChange
  split
  next => exact Part.volumes_handOn _ i v _ st
  next => rfl

theorem Part.labels_listHead (p : Part) (v i : Nat) : (p.listHead v i).labels = p.labels :=
  map_tmod Volume.unlisted p.volumes v (fun r => { r with verifyList := i :: r.verifyList.filter (· != i) }) fun _ => rfl

theorem Part.volumes_setVerify (p : Part) (d : Fin 4) (explicit : Bool) (x : Option VerifyCtx) :
    (p.setVerify d explicit x).volumes = p.volumes := by
  cases explicit <;> rfl

theorem Part.labels_returnVerify (p : Part) (d : Fin 4) (explicit : Bool) :
    (p.returnVerify d explicit).labels = p.labels := by
  unfold Part.returnVerify
  split
  next x _ =>
    refine (Part.labels_of_volumes (Part.volumes_copyTo _ _ _ _)).trans ?_
    have hset := Part.labels_of_volumes (p.volumes_setVerify d explicit none)
    split
    next => exact (Part.labels_listHead _ _ _).trans hset
    next => exact hset
  next => rfl

theorem Part.labels_verifyDetached (p : Part) (d : Fin 4) : (p.verifyDetached d).labels = p.labels := by
  unfold Part.verifyDetached
  split
  next => exact p.labels_returnVerify d true
  next => rfl

theorem Part.lessens_removeWritingOn (p : Part) (v : Nat) : p.Lessens (p.removeWritingOn v) :=
  Part.lessens_each _ _ (fun q i => q.lessens_removeWriting i v) p

/-- The record of the volume that leaves its lane. -/
def Part.unlaned (p : Part) (v : Nat) : Part := p.modVolume v fun r => { r with attach := .detached, lane := none }

/-- The recopies, the render, the playbacks and the cards of a volume that departed. -/
def Part.severed (p : Part) (d : Fin 4) (v : Nat) : Part :=
  let p := p.endRecopy d .readyChanged .volumeDetached .none
  let p := p.dropWrites fun _ w => w.vol == v
  let p := p.loseRecopyVolume v
  let p := if p.renderReads v then p.abortRender .sourceLost .none else p
  let p := if p.renderWrites v then p.abortRender .destDetached .none else p
  let p := p.loseAll (.volume v)
  p.evaluateVolume v

theorem Part.volumes_severed (p : Part) (d : Fin 4) (v : Nat) : (p.severed d v).volumes = p.volumes := by
  unfold Part.severed
  extract_lets ended dropped lost read written unsourced
  have hended : ended.volumes = p.volumes := (p.lessens_endRecopy d _ _ _).volumes
  have hlost : lost.volumes = dropped.volumes := (dropped.lessens_loseRecopies _ _).volumes
  have hread : read.volumes = lost.volumes := Part.volumes_ite (lost.abortRender_unrenders _ _).1
  have hwritten : written.volumes = read.volumes := Part.volumes_ite (read.abortRender_unrenders _ _).1
  have hunsourced : unsourced.volumes = written.volumes := (written.lessens_loseAll _).volumes
  have hevaluate : (unsourced.evaluateVolume v).volumes = unsourced.volumes :=
    Part.volumes_of_still (unsourced.still_evaluateVolume v)
  rw [hevaluate, hunsourced, hwritten, hread, hlost]
  exact hended

/-- The offloads of a volume that departed lose it. -/
def Part.offloadsCut (p : Part) (v : Nat) : Part :=
  ((p.dropWrites fun s w => !s.recopy && w.vol == v).removeWritingOn v).losePlanVolumeAll v

theorem Part.volumes_offloadsCut (p : Part) (v : Nat) : (p.offloadsCut v).volumes = p.volumes :=
  (Part.destsLessen_losePlanVolumeAll _ v).volumes.trans (Part.lessens_removeWritingOn _ v).volumes

theorem Part.detach_eq (p : Part) (d : Fin 4) (v : Nat) :
    p.detach d v =
      ((((((p.modDest d fun r => { r with out := none }).unlaned v).offloadsCut v).verifyDetached d).returnVerify d
        false).severed d v).modDest d fun r =>
          { r.emptyArbiter with state := .empty, reidentify := false, changed := true } := rfl

theorem Part.labels_modDest (p : Part) (d : Fin 4) (f : DestLane → DestLane) : (p.modDest d f).labels = p.labels := rfl

theorem Part.labels_detach (p : Part) (d : Fin 4) (v : Nat) : (p.detach d v).labels = (p.unlaned v).labels := by
  rw [Part.detach_eq, Part.labels_modDest, Part.labels_of_volumes (Part.volumes_severed _ d v), Part.labels_returnVerify,
    Part.labels_verifyDetached, Part.labels_of_volumes (Part.volumes_offloadsCut _ v)]
  rfl

theorem Part.detachNotice_of_bound {p : Part} {d : Fin 4} {v : Nat} (h : p.boundVolume d = some v) :
    p.detachNotice d = (p.detach d v).modDest d fun r =>
      { r with state := .empty, out := none, release := [], present := false, identifyPending := false,
               ejectOwed := false, reidentify := false } := by
  simp only [Part.detachNotice, h]

theorem Part.detachNotice_of_unbound {p : Part} {d : Fin 4} (h : p.boundVolume d = none) :
    p.detachNotice d = p.modDest d fun r =>
      { r with state := .empty, out := none, release := [], present := false, identifyPending := false,
               ejectOwed := false, reidentify := false } := by
  simp only [Part.detachNotice, h]

theorem Part.volume_modVolume_other {p : Part} {v w : Nat} (h : w ≠ v) (f : Volume → Volume) :
    (p.modVolume v f).volume w = p.volume w := by
  unfold Part.volume Part.modVolume
  rw [tget_tmod, if_neg h]

theorem Part.labels_detachNotice {p : Part} {d : Fin 4} {v : Nat} (h : p.boundVolume d = some v) :
    (p.detachNotice d).labels = (p.unlaned v).labels := by
  rw [Part.detachNotice_of_bound h, Part.labels_modDest, Part.labels_detach]

end Sys2Proof.Machine

/-! Settles VolumesComeAndGo: arrivals, departures, free reports, and what a volume that is lost or full leaves (R61, R65, R79,
R82, R86). -/

namespace Sys2Proof.Machine

/-! ### Arrivals (R79) -/

section
variable {p : Part} {d : Fin 4} {v : Nat}

/-- The lane with its volume present and the identification due. -/
def Part.arrived (p : Part) (d : Fin 4) : Part := p.modDest d fun r => { r with present := true, identifyPending := true }

theorem Part.arrived_dest (p : Part) (d : Fin 4) :
    (p.arrived d).dest d = { p.dest d with present := true, identifyPending := true } := p.dest_modDest_self d _

theorem Part.arrival_of_empty (hs : (p.dest d).state = .empty) (hp : (p.dest d).present = false) :
    p.arrival d = (p.arrived d).startIdentify d := by
  unfold Part.arrival
  rw [if_pos ⟨hs, hp⟩]
  rfl

theorem Part.arrival_of_present (h : (p.dest d).state ≠ .empty ∨ (p.dest d).present = true) :
    p.arrival d = ((p.detachNotice d).arrived d).startIdentify d := by
  have hnot : ¬ ((p.dest d).state = .empty ∧ (p.dest d).present = false) := by
    rintro ⟨hs, hp⟩
    rcases h with h | h
    · exact h hs
    · exact Bool.false_ne_true (hp.symm.trans h)
  unfold Part.arrival
  rw [if_neg hnot]
  rfl

theorem Part.arrival_of_unsensed (hs : (p.dest d).state = .empty) (hp : (p.dest d).present = false)
    (ht : (p.dest d).term.unsensed = true) : p.arrival d = p.arrived d := by
  rw [Part.arrival_of_empty hs hp]
  refine Part.startIdentify_of_none (Or.inr (Or.inr ?_))
  rw [Part.arrived_dest]
  exact ht

theorem Part.arrival_of_free (hs : (p.dest d).state = .empty) (hp : (p.dest d).present = false)
    (ht : (p.dest d).term.unsensed = false) (ho : (p.dest d).out = none) :
    p.arrival d = (p.modDest d fun r =>
      { r with present := true, identifyPending := false, state := .identifying }).sendVolume d .identify := by
  rw [Part.arrival_of_empty hs hp, Part.startIdentify_of_held (by rw [Part.arrived_dest]; exact hs)
    (by rw [Part.arrived_dest]) (by rw [Part.arrived_dest]; exact ht) (by rw [Part.arrived_dest]; exact ho)]
  exact congrArg (fun q : Part => q.sendVolume d .identify) (p.modDest_modDest d
    (fun r => { r with present := true, identifyPending := true }) fun x =>
      { x with state := .identifying, identifyPending := false })

/-- A lane without a volume. -/
def DestLane.vacant (r : DestLane) : DestLane :=
  { r with state := .empty, out := none, release := [], present := false, identifyPending := false, ejectOwed := false,
           reidentify := false }

theorem Part.dest_detachNotice (p : Part) (d : Fin 4) : ∃ r : DestLane, (p.detachNotice d).dest d = r.vacant := by
  cases hb : p.boundVolume d
  case none =>
    rw [Part.detachNotice_of_unbound hb, Part.dest_modDest_self]
    exact ⟨p.dest d, rfl⟩
  case some v =>
    rw [Part.detachNotice_of_bound hb, Part.dest_modDest_self]
    exact ⟨(p.detach d v).dest d, rfl⟩

/-! ### Free reports (R81, R82) -/

/-- The volume with the free blocks reported. -/
def Part.freeSet (p : Part) (v n : Nat) : Part := p.modVolume v fun r => { r with free := n }

theorem Part.setFree_of_unbound {n : Nat} (hb : p.boundVolume d = none) : p.setFree d n = p := by
  simp only [Part.setFree, hb]

theorem Part.setFree_of_bound {n : Nat} (hb : p.boundVolume d = some v) :
    p.setFree d n =
      if (p.dest d).state = .online ∧ n = 0 then (p.freeSet v n).enterFull d v
      else if (p.dest d).state = .full ∧ 0 < n then (p.freeSet v n).exitFull d
      else p.freeSet v n := by
  simp only [Part.setFree, hb] <;> rfl

theorem Part.exitFull_eq (p : Part) (d : Fin 4) :
    p.exitFull d = (p.modDest d fun r => { r with state := .online, changed := true }).examine :=
  congrArg Part.examine (p.modDest_modDest d _ _)

theorem Part.setFree_of_filled {n : Nat} (hb : p.boundVolume d = some v) (hs : (p.dest d).state = .online) (hn : n = 0) :
    p.setFree d n = (p.freeSet v n).enterFull d v :=
  (Part.setFree_of_bound hb).trans (if_pos ⟨hs, hn⟩)

theorem Part.setFree_of_eased {n : Nat} (hb : p.boundVolume d = some v) (hs : (p.dest d).state = .full) (hn : 0 < n) :
    p.setFree d n =
      ((p.freeSet v n).modDest d fun r => { r with state := .online, changed := true }).examine := by
  have hfull : ¬ ((p.dest d).state = .online ∧ n = 0) := fun h => absurd (hs.symm.trans h.1) (nomatch ·)
  rw [Part.setFree_of_bound hb, if_neg hfull, if_pos ⟨hs, hn⟩, Part.exitFull_eq]

theorem Part.setFree_of_same {n : Nat} (hb : p.boundVolume d = some v)
    (h : ((p.dest d).state = .online ∧ 0 < n) ∨ ((p.dest d).state = .full ∧ n = 0) ∨
      ((p.dest d).state ≠ .online ∧ (p.dest d).state ≠ .full)) : p.setFree d n = p.freeSet v n := by
  rw [Part.setFree_of_bound hb]
  rcases h with ⟨hs, hn⟩ | ⟨hs, hn⟩ | ⟨ho, hf⟩
  · have hfull : (p.dest d).state ≠ .full := fun h => absurd (hs.symm.trans h) (nomatch ·)
    rw [if_neg fun h => hn.ne' h.2, if_neg fun h => hfull h.1]
  · have honline : (p.dest d).state ≠ .online := fun h => absurd (hs.symm.trans h) (nomatch ·)
    rw [if_neg fun h => honline h.1, if_neg fun h => h.2.ne' hn]
  · rw [if_neg fun h => ho h.1, if_neg fun h => hf h.1]

end

/-! ### The obligation -/

/-- Settles O56: the steps of each event are equations; what survives in the lane that turned FULL is what neither a loss
(`DestLane.Lessens`) nor the end of a render (`DestLane.Unrenders`) takes, and no step of a departure but the first touches
more of a volume record than its list of copies to verify. -/
theorem volumesComeAndGo : Obligations.VolumesComeAndGo := by
  unfold Obligations.VolumesComeAndGo
  refine ⟨?full, fun p v => rfl, ?plan, ?fanOut, ?writing, ?lane, ?record, ?free⟩
  case full =>
    intro p d v was told ended
    refine ⟨fun x hx hv => ?_, fun h => ?_, ?_⟩
    · exact (p.enterFull_eq d v).trans (if_pos (Part.renderWrites_of_target (p := ended) hx hv))
    · exact (p.enterFull_eq d v).trans (if_neg (Part.renderWrites_of_other (p := ended) h))
    · obtain ⟨state, changed, verifies, sweep, guard, hrecopy, verify, write, previews, recopies, renders⟩ :=
        p.enterFull_fills d v
      exact ⟨state, changed, verifies, sweep, guard, hrecopy, verify, write, previews, recopies, renders⟩
  case plan =>
    intro p l v
    refine ⟨Part.losePlanVolume_of_none, fun x card hx hc => ⟨fun hv => ?_, fun hv => ?_⟩⟩
    · rw [Part.losePlanVolume_of_offload hx hc, if_neg hv]
    · rw [Part.losePlanVolume_of_offload hx hc, if_pos hv]
      rfl
  case fanOut =>
    intro p l v spare x card hx hc fan q usable left
    refine ⟨fun hu hd => Part.shrinkFanOut_of_lost hx hc hu hd, fun h => ?_⟩
    have hleft : left = _ := Part.shrinkFanOut_of_kept hx hc h
    refine ⟨fun hn => ?_, fun cur hcur => ⟨fun hw => ?_, fun hw => ⟨fun hr => ?_, fun hr => ?_⟩⟩⟩
    · rw [hleft, hn]
      rfl
    · have hne : ¬ (cur.without v).fanOut.isEmpty = true := by
        obtain ⟨w, hmem, hwv⟩ := hw
        exact fun he => hwv ((cur.without_isEmpty v).mp he w hmem)
      rw [hleft, hcur]
      exact if_neg hne
    · have he : (cur.without v).fanOut.isEmpty = true := (cur.without_isEmpty v).mpr hw
      rw [hleft, hcur]
      exact (if_pos he).trans (if_neg (Bool.eq_false_iff.mp hr))
    · have he : (cur.without v).fanOut.isEmpty = true := (cur.without_isEmpty v).mpr hw
      have hoff : (((p.narrowed l v x).leaveQueue l).reader l).offload = _ := Part.narrowed_offload
      rw [hleft, hcur]
      refine ((if_pos he).trans (if_pos hr)).trans ((Part.passed_eq hoff).trans ?_)
      refine congrArg (fun q : Part => q.consider l) (Part.modReader_congr _ l _ _ ?_)
      simp only [ReaderLane.passed, ReaderLane.abandonOf_eq]
  case writing =>
    intro p i v c hc
    refine ⟨Part.removeWriting_of_none hc, fun hw => ⟨?_, Part.copyState_removeWriting hc hw⟩⟩
    exact Part.removeWriting_of_writing hc hw
  case lane =>
    intro s d
    refine ⟨fun hs hp => ⟨fun ht => ?_, fun ht ho => ?_⟩, fun h => ?_, ?_, ?_, ?_, fun hb => ?_, fun type bytes => ?_⟩
    · exact acted_of_event rfl (Part.arrival_of_unsensed (p := s.part.quiet) hs hp ht)
    · exact acted_of_event rfl (Part.arrival_of_free (p := s.part.quiet) hs hp ht ho)
    · exact acted_of_event rfl (Part.arrival_of_present (p := s.part.quiet) h)
    · exact acted_of_event rfl rfl
    · exact acted_of_event rfl rfl
    · obtain ⟨r, hr⟩ := s.part.quiet.dest_detachNotice d
      intro now
      have hnow : now = r.vacant := hr
      rw [hnow]
      exact ⟨rfl, rfl, rfl, rfl, rfl, rfl, rfl⟩
    · exact Part.detachNotice_of_unbound (p := s.part.quiet) hb
    · exact acted_of_event rfl rfl
  case record =>
    intro p d v r hb hr
    have hlabels := Part.labels_detachNotice hb
    refine ⟨?_, fun w y hw hy => ?_⟩
    · obtain ⟨x, hx, he⟩ := Part.volume_of_labels hlabels (Part.volume_modVolume_self hr _)
      exact ⟨x, hx, (congrArg Volume.attach he :), (congrArg Volume.lane he :), (congrArg Volume.label he :),
        (congrArg Volume.serial he :), (congrArg Volume.role he :), (congrArg Volume.free he :),
        (congrArg Volume.mode he :)⟩
    · obtain ⟨x, hx, he⟩ := Part.volume_of_labels hlabels ((Part.volume_modVolume_other hw _).trans hy)
      exact ⟨x, hx, (congrArg Volume.attach he :), (congrArg Volume.lane he :), (congrArg Volume.label he :),
        (congrArg Volume.serial he :), (congrArg Volume.role he :), (congrArg Volume.free he :),
        (congrArg Volume.mode he :)⟩
  case free =>
    intro s d n
    refine ⟨fun hb => acted_of_event rfl (Part.setFree_of_unbound (p := s.part.quiet) hb), fun v hb => ?_⟩
    refine ⟨fun hs hn => ?_, fun hs hn => ?_, fun h => ?_⟩
    · exact acted_of_event rfl (Part.setFree_of_filled (p := s.part.quiet) hb hs hn)
    · exact acted_of_event rfl (Part.setFree_of_eased (p := s.part.quiet) hb hs hn)
    · exact acted_of_event rfl (Part.setFree_of_same (p := s.part.quiet) hb h)

end Sys2Proof.Machine

/-! The rules for the reset of a reader lane (R194): the offload, its slots and the WRITING entries of its card. -/

namespace Sys2Proof.Machine

/-! ### Records through the withdrawal of the writes of slots gone -/

theorem Part.records_modDest (p : Part) (d : Fin 4) (f : DestLane → DestLane) : (p.modDest d f).records = p.records := rfl

theorem Part.records_lateWrites (p : Part) : p.lateWrites.records = p.records :=
  Part.records_each _ _ (fun q d => q.records_modDest d _) p

theorem Part.readers_lateWrites (p : Part) (l : Fin 6) : p.lateWrites.reader l = p.reader l := by
  have hstep : ∀ (ds : List (Fin 4)) (f : Part → Fin 4 → DestLane → DestLane) (q : Part),
      (q.each ds fun q d => q.modDest d (f q d)).readers = q.readers := by
    intro ds f
    induction ds with
    | nil => exact fun _ => rfl
    | cons d ds ih => exact fun q => ih _
  exact congrArg (fun v : Vector ReaderLane 6 => v.get l) (hstep allDests _ p)

section
variable {p : Part} {l : Fin 6} {x : OffloadCtx}

/-! ### The lane and its slots -/

/-- A lane whose offload holds no clip, its request withdrawn. -/
def ReaderLane.idled (r : ReaderLane) : ReaderLane :=
  { r with out := none, retries := 0, analyzer := Analyzer.cleared,
           offload := r.offload.map fun x => { x with current := none, tally := [] } }

theorem Part.idled_eq (p : Part) (l : Fin 6) :
    (((p.modReader l fun r => { r with out := none, retries := 0 }).clearAnalyzer l).modOffload l fun x =>
      { x with current := none, tally := [] }) = p.modReader l ReaderLane.idled :=
  (congrArg (fun q : Part => q.modOffload l fun x => { x with current := none, tally := [] })
    (p.modReader_modReader l (fun r => { r with out := none, retries := 0 }) fun r =>
      { r with analyzer := Analyzer.cleared })).trans (p.modReader_modReader l _ _)

/-- The slots of the lane given back, with the writes that were out for them. -/
def Part.unslotted (p : Part) (l : Fin 6) : Part := (p.freeSlots fun s => s.lane == l).lateWrites

/-- The clip and volume of each write an offload slot of the lane holds. -/
def Part.served (p : Part) (l : Fin 6) : List (Nat × Nat) :=
  (((p.slotsOf l).filter fun s => !s.recopy).map fun s => s.writes.map fun w => (s.clip, w.vol)).flatten

theorem Part.freeLaneSlots_eq (p : Part) (l : Fin 6) :
    p.freeLaneSlots l = (p.unslotted l).each (p.served l) fun p e => p.removeWriting e.1 e.2 := rfl

theorem Part.mem_served {s : Slot} {w : SlotWrite} (hs : s ∈ p.slotsOf l) (hr : s.recopy = false) (hw : w ∈ s.writes) :
    (s.clip, w.vol) ∈ p.served l := by
  have hmem : s ∈ (p.slotsOf l).filter fun s => !s.recopy := List.mem_filter.mpr ⟨hs, by rw [hr]; rfl⟩
  exact List.mem_flatten.mpr ⟨_, List.mem_map.mpr ⟨s, hmem, rfl⟩, List.mem_map.mpr ⟨w, hw, rfl⟩⟩

theorem Part.lessens_served (p : Part) (es : List (Nat × Nat)) :
    p.Lessens (p.each es fun p e => p.removeWriting e.1 e.2) :=
  Part.lessens_each es _ (fun q e => q.lessens_removeWriting e.1 e.2) p

theorem Part.slots_freeLaneSlots (p : Part) (l : Fin 6) : ∀ s ∈ (p.freeLaneSlots l).pool.slots, s.lane ≠ l := by
  intro s hs hl
  rw [Part.freeLaneSlots_eq] at hs
  obtain ⟨t, ht, hlane⟩ := ((p.unslotted l).lessens_served (p.served l)).slots s hs
  have hpool : (p.unslotted l).pool = (p.freeSlots fun s => s.lane == l).pool :=
    congrArg (fun r : Table Card × Table Clip × Pool × Table Volume => r.2.2.1)
      (p.freeSlots fun s => s.lane == l).records_lateWrites
  rw [hpool] at ht
  have hne : (!(t.lane == l)) = true := (List.mem_filter.mp ht).2
  rw [hlane, hl] at hne
  simp at hne

theorem Part.unwritten_freeLaneSlots {s : Slot} {w : SlotWrite} (hs : s ∈ p.slotsOf l) (hr : s.recopy = false)
    (hw : w ∈ s.writes) : (p.freeLaneSlots l).Unwritten s.clip w.vol := by
  rw [Part.freeLaneSlots_eq]
  exact Part.unwritten_each _ (fun (p : Part) e => p.removeWriting e.1 e.2)
    (fun q e => q.lessens_removeWriting e.1 e.2) (Part.mem_served hs hr hw)
    (fun q => q.unwritten_removeWriting s.clip w.vol) _

theorem Part.reader_freeLaneSlots (p : Part) (l k : Fin 6) : (p.reader k).Lessens ((p.freeLaneSlots l).reader k) := by
  have hsame : (p.unslotted l).reader k = p.reader k := Part.readers_lateWrites _ k
  rw [Part.freeLaneSlots_eq, ← hsame]
  exact ((p.unslotted l).lessens_served (p.served l)).readers k

theorem Part.card_freeLaneSlots {i : Nat} {c : Card} (h : p.card i = some c) (l : Fin 6) :
    ∃ e, (p.freeLaneSlots l).card i = some e ∧ e.gist = c.gist := by
  have hcards : (p.unslotted l).cards = p.cards :=
    congrArg (fun r : Table Card × Table Clip × Pool × Table Volume => r.1)
      (p.freeSlots fun s => s.lane == l).records_lateWrites
  have hc : (p.unslotted l).card i = some c := (congrArg (fun t => tget t i) hcards).trans h
  rw [Part.freeLaneSlots_eq]
  exact ((p.unslotted l).lessens_served (p.served l)).card_some hc

/-! ### The WRITING entries of the card's clips -/

/-- The WRITING entries of a clip removed. -/
def Part.unwriteClip (p : Part) (i : Nat) : Part :=
  match p.clip i with
  | some c => p.each c.writingVolumes fun p v => p.removeWriting i v
  | none => p

/-- The WRITING entries of a card's clips removed. -/
def Part.unwriteCard (p : Part) (i : Nat) : Part :=
  match p.card i with
  | some card => p.each card.clips Part.unwriteClip
  | none => p

theorem Part.lessens_unwriteClip (p : Part) (i : Nat) : p.Lessens (p.unwriteClip i) := by
  unfold Part.unwriteClip
  split
  next => exact Part.lessens_each _ _ (fun q v => q.lessens_removeWriting i v) p
  next => exact Part.Lessens.refl p

theorem Part.unwritten_unwriteClip (p : Part) (i v : Nat) : (p.unwriteClip i).Unwritten i v := by
  unfold Part.unwriteClip
  split
  next c hc => exact Part.unwritten_writingVolumes hc v
  next hc =>
    intro c h
    exact absurd (hc.symm.trans h) (nomatch ·)

theorem Part.lessens_unwriteCard (p : Part) (i : Nat) : p.Lessens (p.unwriteCard i) := by
  unfold Part.unwriteCard
  split
  next => exact Part.lessens_each _ _ Part.lessens_unwriteClip p
  next => exact Part.Lessens.refl p

theorem Part.unwritten_unwriteCard {j : Nat} {card : Card} (hc : p.card j = some card) {i : Nat} (hi : i ∈ card.clips)
    (v : Nat) : (p.unwriteCard j).Unwritten i v := by
  unfold Part.unwriteCard
  rw [hc]
  exact Part.unwritten_each _ Part.unwriteClip Part.lessens_unwriteClip hi (fun q => q.unwritten_unwriteClip i v) p

/-! ### The offload reset -/

/-- The lane without the work of its offload. -/
def Part.unworked (p : Part) (l : Fin 6) : Part := (p.modReader l ReaderLane.idled).freeLaneSlots l

/-- The lane leaves the queue and its offload. -/
def Part.unbusied (p : Part) (l : Fin 6) : Part :=
  (p.leaveQueue l).modReader l fun r => { r with offload := none, state := .bound }

theorem Part.resetOffload_of_none (hx : (p.reader l).offload = none) :
    p.resetOffload l = (p.unworked l).leaveQueue l := by
  unfold Part.resetOffload
  dsimp only
  rw [Part.idled_eq, hx]
  rfl

theorem Part.resetOffload_of_some (hx : (p.reader l).offload = some x) :
    p.resetOffload l = (((p.unworked l).unwriteCard x.card).unbusied l).holdCard x.card := by
  unfold Part.resetOffload
  dsimp only
  rw [Part.idled_eq, hx]
  rfl

theorem Part.reader_unworked (p : Part) (l : Fin 6) :
    ((p.reader l).idled).Lessens ((p.unworked l).reader l) := by
  have h := (p.modReader l ReaderLane.idled).reader_freeLaneSlots l l
  rw [Part.reader_modReader_self] at h
  exact h

/-- What the reset of an offload leaves, before the erase is dropped and the lane starts again. -/
structure Part.OffloadReset (p q : Part) (l : Fin 6) : Prop where
  offload : (q.reader l).offload = none
  analyzer : (q.reader l).analyzer = Analyzer.cleared
  trips : (q.reader l).trips = (p.reader l).trips
  erase : (q.reader l).erase = (p.reader l).erase
  queue : l ∉ q.pool.queue
  slots : ∀ s ∈ q.pool.slots, s.lane ≠ l
  unwritten : ∀ s w, s ∈ p.slotsOf l → s.recopy = false → w ∈ s.writes → q.Unwritten s.clip w.vol
  card : ∀ x card, (p.reader l).offload = some x → p.card x.card = some card →
    (∀ i v, i ∈ card.clips → q.Unwritten i v) ∧ ∀ c, q.card x.card = some c → c.state.Evaluated

theorem Part.not_mem_leaveQueue (p : Part) (l : Fin 6) : l ∉ (p.leaveQueue l).pool.queue := by
  intro h
  have hne := (List.mem_filter.mp h).2
  simp at hne

theorem Part.offloadReset (p : Part) (l : Fin 6) : p.OffloadReset (p.resetOffload l) l := by
  have hlane := (p.reader_unworked l).gist
  have hunwritten (s : Slot) (w : SlotWrite) (hs : s ∈ p.slotsOf l) (hr : s.recopy = false) (hw : w ∈ s.writes) :
      (p.unworked l).Unwritten s.clip w.vol :=
    Part.unwritten_freeLaneSlots (p := p.modReader l ReaderLane.idled) hs hr hw
  have hslots : ∀ s ∈ (p.unworked l).pool.slots, s.lane ≠ l := Part.slots_freeLaneSlots _ l
  cases hx : (p.reader l).offload
  case none =>
    have hoff : ((p.unworked l).reader l).offload.map (·.card) = none := by
      rw [(p.reader_unworked l).offload_card, ReaderLane.idled, hx]
      rfl
    rw [Part.resetOffload_of_none hx]
    exact {
      offload := Option.map_eq_none_iff.mp hoff
      analyzer := (congrArg ReaderLane.analyzer hlane :)
      trips := (congrArg ReaderLane.trips hlane :)
      erase := (congrArg ReaderLane.erase hlane :)
      queue := Part.not_mem_leaveQueue _ l
      slots := hslots
      unwritten := hunwritten
      card := fun x card h => absurd (hx.symm.trans h) (nomatch ·) }
  case some x =>
    have hcard := (p.unworked l).lessens_unwriteCard x.card
    have hreader : (((((p.unworked l).unwriteCard x.card).unbusied l).holdCard x.card).reader l) =
        { ((p.unworked l).unwriteCard x.card).reader l with offload := none, state := .bound } := by
      rw [Part.reader_holdCard]
      exact Part.reader_modReader_self _ l _
    have hgist := (hcard.readers l).gist.trans hlane
    have hclips (i v : Nat) (h : ((p.unworked l).unwriteCard x.card).Unwritten i v) :
        ((((p.unworked l).unwriteCard x.card).unbusied l).holdCard x.card).Unwritten i v := by
      intro c hc
      have hsame := Part.clips_holdCard (((p.unworked l).unwriteCard x.card).unbusied l) x.card
      exact h c ((congrArg (fun t => tget t i) hsame).symm.trans hc)
    rw [Part.resetOffload_of_some hx]
    exact {
      offload := by rw [hreader]
      analyzer := by rw [hreader]; exact (congrArg ReaderLane.analyzer hgist :)
      trips := by rw [hreader]; exact (congrArg ReaderLane.trips hgist :)
      erase := by rw [hreader]; exact (congrArg ReaderLane.erase hgist :)
      queue := by
        rw [Part.pool_holdCard]
        exact Part.not_mem_leaveQueue _ l
      slots := by
        rw [Part.pool_holdCard]
        intro s hs hl
        obtain ⟨t, ht, htl⟩ := hcard.slots s hs
        exact hslots t ht (htl.trans hl)
      unwritten := fun s w hs hr hw => hclips _ _ (hcard.toRecordsLessen.unwritten (hunwritten s w hs hr hw))
      card := by
        intro y card hy hc
        obtain rfl : x = y := Option.some.inj (hx.symm.trans hy)
        obtain ⟨e, he, heg⟩ := Part.card_freeLaneSlots (p := p.modReader l ReaderLane.idled) hc l
        have hsame : e.clips = card.clips := (congrArg Card.clips heg :)
        exact ⟨fun i v hi => hclips i v (Part.unwritten_unwriteCard he (hsame ▸ hi) v), fun c => Part.state_holdCard⟩ }

end

end Sys2Proof.Machine

/-! What the reset of a reader lane leaves, and that a lane's traffic cleared leaves no write, no explicit work and no sweep
(R90, R194). -/

namespace Sys2Proof.Machine

/-! ### A reader lane reset -/

/-- A reader lane at the end of its reset. -/
def ReaderLane.cleared (r : ReaderLane) : ReaderLane :=
  { r with out := none, retries := 0, reinitFails := 0, mount := none, serves := none, mountPending := false,
           previews := [], term := TermSlot.none, changed := false }

/-- A reader lane that starts again. -/
def ReaderLane.restarted (r : ReaderLane) : ReaderLane :=
  if r.state = .noReader then r else { r with state := .empty, presenceOwed := true, remountOwed := true }

/-- The recopy and the playbacks that read through the lane lose it. -/
def Part.unread (p : Part) (l : Fin 6) : Part :=
  (p.loseRecopyReader l .none).each (allChannels.filter ((p.loseRecopyReader l .none).readingLane l)) Part.loseSource

theorem Part.resetReader_eq (p : Part) (l : Fin 6) :
    p.resetReader l =
      (((p.unread l).resetOffload l).dropErase l .bound).modReader l fun r => r.cleared.restarted :=
  Part.modReader_modReader _ l ReaderLane.cleared ReaderLane.restarted

theorem Part.lessens_unread (p : Part) (l : Fin 6) : p.Lessens (p.unread l) :=
  (p.lessens_loseRecopyReader l .none).trans (Part.lessens_each _ _ Part.lessens_loseSource _)

theorem Part.reader_resetReader (p : Part) (l : Fin 6) :
    (p.resetReader l).reader l = ((((p.unread l).resetOffload l).dropErase l .bound).reader l).cleared.restarted := by
  rw [Part.resetReader_eq]
  exact Part.reader_modReader_self _ l _

/-- The part of a lane a restart leaves alone. -/
def ReaderLane.course (r : ReaderLane) : ReaderLane :=
  { r with state := .empty, presenceOwed := true, remountOwed := true }

theorem ReaderLane.course_restarted (r : ReaderLane) : r.restarted.course = r.course := by
  unfold ReaderLane.restarted
  split <;> rfl

theorem ReaderLane.course_cleared_restarted (r : ReaderLane) :
    let x := r.cleared.restarted
    x.term = TermSlot.none ∧ x.changed = false ∧ x.out = none ∧ x.serves = none ∧ x.offload = r.offload ∧
      x.analyzer = r.analyzer ∧ x.trips = r.trips := by
  have h := r.cleared.course_restarted
  exact ⟨(congrArg ReaderLane.term h :), (congrArg ReaderLane.changed h :), (congrArg ReaderLane.out h :),
    (congrArg ReaderLane.serves h :), (congrArg ReaderLane.offload h :), (congrArg ReaderLane.analyzer h :),
    (congrArg ReaderLane.trips h :)⟩

theorem Part.dropErase_of_none {p : Part} {l : Fin 6} (h : (p.reader l).erase = none) (dst : ReaderState) :
    p.dropErase l dst = p := by
  unfold Part.dropErase
  rw [h]

theorem Part.dropErase_keeps_work (p : Part) (l : Fin 6) (dst : ReaderState) :
    (p.dropErase l dst).pool = p.pool ∧ (p.dropErase l dst).clips = p.clips ∧
      ((p.dropErase l dst).reader l).offload = (p.reader l).offload ∧
      ((p.dropErase l dst).reader l).analyzer = (p.reader l).analyzer ∧
      ((p.dropErase l dst).reader l).trips = (p.reader l).trips := by
  unfold Part.dropErase
  split
  next x _ =>
    refine ⟨rfl, rfl, ?_⟩
    rw [Part.reader_modReader_self]
    have habandon := (ReaderLane.Lessens.of_abandon (r := (p.abortErase x.card).reader l) .erase).gist
    have hsame : ((((p.abortErase x.card).reader l)).abandonOf .erase).offload = (p.reader l).offload := by
      rw [ReaderLane.abandonOf_eq]
      split <;> rfl
    exact ⟨hsame, (congrArg ReaderLane.analyzer habandon :), (congrArg ReaderLane.trips habandon :)⟩
  next => exact ⟨rfl, rfl, rfl, rfl, rfl⟩

theorem Part.pool_modReader (p : Part) (l : Fin 6) (f : ReaderLane → ReaderLane) : (p.modReader l f).pool = p.pool := rfl

/-- What the reset of a reader lane leaves of its offload (R194). -/
structure Part.ReaderReset (p q : Part) (l : Fin 6) : Prop where
  offload : (q.reader l).offload = none
  analyzer : (q.reader l).analyzer = Analyzer.cleared
  trips : (q.reader l).trips = (p.reader l).trips
  queue : l ∉ q.pool.queue
  slots : q.slotsOf l = []
  unwritten : ∀ s w, s ∈ p.slotsOf l → s.recopy = false → w ∈ s.writes → q.Unwritten s.clip w.vol
  card : ∀ x card, (p.reader l).offload = some x → p.card x.card = some card → (p.reader l).erase = none →
    (∀ i v, i ∈ card.clips → q.Unwritten i v) ∧ ∀ c, q.card x.card = some c → c.state.Evaluated

theorem Part.readerReset (p : Part) (l : Fin 6) : p.ReaderReset (p.resetReader l) l := by
  have hless := p.lessens_unread l
  have hlane := (hless.readers l).gist
  have hreset := (p.unread l).offloadReset l
  obtain ⟨hpool, hclips, hoffload, hanalyzer, htrips⟩ := ((p.unread l).resetOffload l).dropErase_keeps_work l .bound
  obtain ⟨_, _, _, _, hoffload', hanalyzer', htrips'⟩ :=
    ((((p.unread l).resetOffload l).dropErase l .bound).reader l).course_cleared_restarted
  have hclip (i : Nat) : (p.resetReader l).clip i = ((p.unread l).resetOffload l).clip i := by
    rw [Part.resetReader_eq, Part.clip_modReader]
    exact congrArg (fun t => tget t i) hclips
  have hslots : (p.resetReader l).pool = ((p.unread l).resetOffload l).pool := by
    rw [Part.resetReader_eq, Part.pool_modReader, hpool]
  have hunwritten (i v : Nat) (h : ((p.unread l).resetOffload l).Unwritten i v) : (p.resetReader l).Unwritten i v :=
    fun c hc => h c ((hclip i).symm.trans hc)
  rw [← Part.reader_resetReader] at hoffload' hanalyzer' htrips'
  constructor
  case offload => exact hoffload'.trans (hoffload.trans hreset.offload)
  case analyzer => exact hanalyzer'.trans (hanalyzer.trans hreset.analyzer)
  case trips => exact htrips'.trans (htrips.trans (hreset.trips.trans (congrArg ReaderLane.trips hlane :)))
  case queue =>
    rw [hslots]
    exact hreset.queue
  case slots =>
    unfold Part.slotsOf
    rw [hslots, List.filter_eq_nil_iff]
    exact fun s hs hl => hreset.slots s hs (beq_iff_eq.mp hl)
  case unwritten =>
    intro s w hs hr hw
    obtain ⟨hmem, hl⟩ := List.mem_filter.mp hs
    obtain ⟨t, ht, htl, htr, htc, y, hy, hyv⟩ := hless.writes s hmem hr w hw
    have hts : t ∈ (p.unread l).slotsOf l := List.mem_filter.mpr ⟨ht, by rw [htl]; exact hl⟩
    have := hreset.unwritten t y hts htr hy
    rw [htc, hyv] at this
    exact hunwritten _ _ this
  case card =>
    intro x card hx hc he
    have hcard := (hless.readers l).offload_card
    rw [hx, Option.map_some, Option.map_eq_some_iff] at hcard
    obtain ⟨y, hy, hyx⟩ := hcard
    obtain ⟨e, hec, heg⟩ := hless.toRecordsLessen.card_some hc
    have hey : (p.unread l).card y.card = some e := by rw [hyx]; exact hec
    obtain ⟨hgone, hstate⟩ := hreset.card y e hy hey
    have hsame : e.clips = card.clips := (congrArg Card.clips heg :)
    refine ⟨fun i v hi => hunwritten i v (hgone i v (hsame ▸ hi)), fun c hq => ?_⟩
    have hnone : (((p.unread l).resetOffload l).reader l).erase = none :=
      hreset.erase.trans ((congrArg ReaderLane.erase hlane :).trans he)
    rw [Part.resetReader_eq, Part.dropErase_of_none hnone, Part.card_modReader, ← hyx] at hq
    exact hstate c hq

end Sys2Proof.Machine

/-! The traffic of a destination lane cleared: no slot writes to the volume, no explicit work and no sweep are left (R90). -/

namespace Sys2Proof.Machine

/-! ### No slot writes to a volume -/

/-- No slot holds a write to the volume. -/
def Part.Undirected (p : Part) (v : Nat) : Prop := ∀ s w, s ∈ p.pool.slots → w ∈ s.writes → w.vol ≠ v

section
variable {p q : Part} {v : Nat}

theorem Part.Undirected.of_pool (h : p.Undirected v) (hp : q.pool = p.pool) : q.Undirected v := by
  intro s w hs
  rw [hp] at hs
  exact h s w hs

theorem Part.pool_each {α : Type} (xs : List α) (f : Part → α → Part) (h : ∀ q x, (f q x).pool = q.pool) :
    ∀ p : Part, (p.each xs f).pool = p.pool := by
  induction xs with
  | nil => exact fun _ => rfl
  | cons x xs ih => exact fun p => (ih (f p x)).trans (h p x)

theorem Part.undirected_each {α : Type} (xs : List α) (f : Part → α → Part)
    (h : ∀ (q : Part) x, q.Undirected v → (f q x).Undirected v) : ∀ p : Part, p.Undirected v → (p.each xs f).Undirected v := by
  induction xs with
  | nil => exact fun _ hp => hp
  | cons x xs ih => exact fun p hp => ih (f p x) (h p x hp)

theorem Part.undirected_dropWrites_to (p : Part) (v : Nat) : (p.dropWrites fun _ w => w.vol == v).Undirected v := by
  intro s w hs hw
  obtain ⟨t, _, rfl⟩ := List.mem_map.mp (List.mem_filter.mp hs).1
  have hne : (!(w.vol == v)) = true := (List.mem_filter.mp hw).2
  simpa using hne

theorem Part.Undirected.dropWrites (h : p.Undirected v) (test : Slot → SlotWrite → Bool) :
    (p.dropWrites test).Undirected v := by
  intro s w hs hw
  obtain ⟨t, ht, rfl⟩ := List.mem_map.mp (List.mem_filter.mp hs).1
  exact h t w ht (List.mem_filter.mp hw).1

theorem Part.Undirected.orphanWrites (h : p.Undirected v) (test : Slot → SlotWrite → Bool) :
    (p.orphanWrites test).Undirected v := by
  intro s w hs hw
  obtain ⟨t, ht, rfl⟩ := List.mem_map.mp hs
  obtain ⟨y, hy, rfl⟩ := List.mem_map.mp hw
  have hvol : (if test t y then { y with orphan := true } else y : SlotWrite).vol = y.vol := by split <;> rfl
  rw [hvol]
  exact h t y ht hy

/-! ### The end of a recopy or a render gives no slot a write -/

theorem Part.pool_loseSource (p : Part) (c : Fin 2) : (p.loseSource c).pool = p.pool :=
  congrArg (fun r : Table Card × Table Clip × Pool × Table Volume => r.2.2.1) (p.records_loseSource c)

theorem Part.pool_evaluate (p : Part) (i : Nat) : (p.evaluate i).pool = p.pool := by
  unfold Part.evaluate
  split
  next =>
    split
    next => rfl
    next => split <;> rfl
  next => rfl

theorem Part.pool_evaluateClip (p : Part) (i : Nat) : (p.evaluateClip i).pool = p.pool := by
  unfold Part.evaluateClip
  split
  next => exact p.pool_evaluate _
  next => rfl

theorem Part.pool_dropCopy (p : Part) (i v : Nat) : (p.dropCopy i v).pool = p.pool := by
  refine (Part.pool_each allChannels _ (fun q c => ?_) _).trans (Part.pool_evaluateClip _ i)
  exact iteInduction (motive := fun x : Part => x.pool = q.pool) (fun _ => q.pool_loseSource c) fun _ => rfl

theorem Part.pool_claimRelease (p : Part) (v : Nat) (k : CopyKey) : (p.claimRelease v k).pool = p.pool := by
  unfold Part.claimRelease
  split
  next => split <;> rfl
  next => rfl

theorem Part.pool_modDest (p : Part) (d : Fin 4) (f : DestLane → DestLane) : (p.modDest d f).pool = p.pool := rfl

theorem Part.pool_withdrawRecopyReads (p : Part) (d : Fin 4) : (p.withdrawRecopyReads d).pool = p.pool := by
  unfold Part.withdrawRecopyReads
  refine (Part.pool_each _ _ (fun q l => ?reader) _).trans (Part.pool_each _ _ (fun q e => q.pool_modDest e _) p)
  case reader => rfl

theorem Part.Undirected.releaseReader (h : p.Undirected v) (x : RecopyCtx) : (p.releaseReader x).Undirected v := by
  unfold Part.releaseReader
  split
  next l _ =>
    have hqueue : (p.leaveQueue l).Undirected v := h
    exact (hqueue.dropWrites _).orphanWrites _
  next => exact h

theorem Part.Undirected.dropRecopy (h : p.Undirected v) (d : Fin 4) : (p.dropRecopy d).Undirected v := by
  cases hx : p.recopyOf d
  case none =>
    rw [Part.dropRecopy_of_none hx]
    exact h
  case some x =>
    have hreads : ((p.withdrawRecopyReads d).withdrawRecopyWrites d).Undirected v :=
      h.of_pool (p.pool_withdrawRecopyReads d)
    have hdetach : (p.detachRecopy d x).Undirected v := hreads.releaseReader x
    have hcopy : ((p.detachRecopy d x).dropCopy x.clip x.target).Undirected v := hdetach.of_pool (Part.pool_dropCopy _ _ _)
    rw [Part.dropRecopy_of_some hx]
    split
    next => exact hcopy.of_pool (Part.pool_claimRelease _ _ _)
    next => exact hcopy

theorem Part.Undirected.endRecopy (h : p.Undirected v) (d : Fin 4) (cls : TermClass) (cause : Cause) (detail : Detail) :
    (p.endRecopy d cls cause detail).Undirected v := by
  unfold Part.endRecopy
  split
  next => exact h.dropRecopy d
  next => exact h

theorem Part.Undirected.loseRecopies (h : p.Undirected v) (test : RecopyCtx → Bool) (detail : RecopyCtx → Detail) :
    (p.loseRecopies test detail).Undirected v := by
  refine Part.undirected_each allDests _ (fun q d hq => ?_) p h
  split
  next =>
    split
    next => exact hq.endRecopy d _ _ _
    next => exact hq
  next => exact hq

theorem Part.pool_removeEntry (p : Part) (tag : Nat) : (p.removeEntry tag).pool = p.pool := by
  unfold Part.removeEntry Part.refRelease
  dsimp only
  split <;> rfl

theorem Part.pool_unpin (p : Part) (used : Option (Nat × Nat)) : (p.unpin used).pool = p.pool := by
  unfold Part.unpin
  split <;> rfl

theorem Part.pool_unclaimRender (p : Part) (x : RenderCtx) : (p.unclaimRender x).pool = p.pool := by
  unfold Part.unclaimRender
  split
  next =>
    split
    next => exact p.pool_claimRelease _ _
    next => rfl
  next => rfl

theorem Part.pool_dropRender (p : Part) : p.dropRender.pool = p.pool := by
  cases hx : p.render.active
  case none => simp only [Part.dropRender, hx]
  case some x =>
    have hwithdraw : p.withdrawRender.pool = p.pool := by rw [p.withdrawRender_eq]
    rw [Part.dropRender_of_render hx]
    exact (Part.pool_removeEntry _ _).trans ((Part.pool_unpin _ _).trans ((Part.pool_unclaimRender _ x).trans hwithdraw))

theorem Part.pool_abortRender (p : Part) (cause : Cause) (detail : Detail) : (p.abortRender cause detail).pool = p.pool := by
  unfold Part.abortRender
  split
  next => exact p.pool_dropRender
  next => rfl

end

/-! ### A lane takes up no operation -/

/-- The lane has no explicit work and no sweep that it had not. -/
structure DestLane.Rests (r x : DestLane) : Prop where
  explicit : r.explicit = none → x.explicit = none
  sweep : r.sweep = none → x.sweep = none

theorem DestLane.Rests.refl (r : DestLane) : r.Rests r := ⟨id, id⟩

theorem DestLane.Rests.trans {r x y : DestLane} (h : r.Rests x) (k : x.Rests y) : r.Rests y :=
  ⟨fun hr => k.explicit (h.explicit hr), fun hr => k.sweep (h.sweep hr)⟩

theorem DestLane.Lessens.rests {r x : DestLane} (h : r.Lessens x) : r.Rests x where
  explicit := by
    intro hr
    rcases h.explicit with hk | ⟨hn, _⟩
    · exact hk.trans hr
    · exact hn
  sweep := fun hr => (congrArg DestLane.sweep h.gist :).trans hr

theorem DestLane.Unrenders.rests {r x : DestLane} (h : r.Unrenders x) : r.Rests x where
  explicit := fun hr => (congrArg DestLane.explicit h.rest :).trans hr
  sweep := fun hr => (congrArg DestLane.sweep h.rest :).trans hr

theorem Part.rests_of_still {p q : Part} (h : q.still = p.still) (d : Fin 4) : (p.dest d).Rests (q.dest d) where
  explicit := fun hr => (congrArg DestLane.explicit (Part.dest_of_still h d) :).trans hr
  sweep := fun hr => (congrArg DestLane.sweep (Part.dest_of_still h d) :).trans hr

theorem Part.rests_abortRender_if {c : Prop} [Decidable c] (p : Part) (cause : Cause) (detail : Detail) (d : Fin 4) :
    (p.dest d).Rests ((if c then p.abortRender cause detail else p).dest d) :=
  iteInduction (motive := fun q : Part => (p.dest d).Rests (q.dest d))
    (fun _ => ((p.abortRender_unrenders cause detail).2 d).rests) fun _ => DestLane.Rests.refl _

theorem Part.rests_handOn (p : Part) (i v : Nat) (old st : CopyState) (d : Fin 4) :
    (p.dest d).Rests ((p.handOn i v old st).dest d) := by
  have hevaluate : (p.dest d).Rests ((p.evaluateClip i).dest d) := ((p.lessens_evaluateClip i).dests d).rests
  have habort := hevaluate.trans ((p.evaluateClip i).rests_abortRender_if (c := old = .verified ∧
    (p.evaluateClip i).renderReads v ∧ ((p.evaluateClip i).render.active.map (·.clip)) = some i) .sourceLost .none d)
  have hregain : (p.dest d).Rests ((((p.evaluateClip i).examine).regainClip i).dest d) := by
    refine hevaluate.trans (Part.rests_of_still ?_ d)
    refine (Part.still_each allChannels _ (fun q c => ?_) _).trans (Part.still_examine _)
    exact iteInduction (motive := fun x : Part => x.still = q.still) (fun _ => q.still_regainSource c) fun _ => rfl
  unfold Part.handOn
  dsimp only
  cases st
  case writing => exact hevaluate
  case written => exact hregain
  case verified => exact hregain
  case verifying => exact habort
  case failed m =>
    exact habort.trans (((Part.lessens_loseCopy _ i v).trans (Part.lessens_loseRecopies _ _ _)).dests d).rests

theorem Part.rests_copyTo (p : Part) (i v : Nat) (st : CopyState) (d : Fin 4) :
    (p.dest d).Rests ((p.copyTo i v st).dest d) := by
  unfold Part.copyTo Part.copyChange
  split
  next => exact Part.rests_handOn (id (p.modClip i fun c => c.setCopy v st)) i v _ st d
  next => exact DestLane.Rests.refl _

/-- The verification taken from the lane. -/
def Part.unverified (p : Part) (d : Fin 4) (explicit : Bool) : Part :=
  (p.setVerify d explicit none).modDest d fun r =>
    { r with verifies := r.verifies.filter fun i => i.explicit != explicit }

theorem Part.returnVerify_of_none {p : Part} {d : Fin 4} {explicit : Bool} (h : p.verifyOf d explicit = none) :
    p.returnVerify d explicit = p := by
  unfold Part.returnVerify
  rw [h]

theorem Part.returnVerify_of_some {p : Part} {d : Fin 4} {explicit : Bool} {x : VerifyCtx}
    (h : p.verifyOf d explicit = some x) :
    p.returnVerify d explicit =
      (if x.prior = .written then (p.unverified d explicit).listHead x.vol x.clip else p.unverified d explicit).copyTo
        x.clip x.vol x.prior := by
  unfold Part.returnVerify
  rw [h]
  rfl

theorem Part.rests_returned {p : Part} {d : Fin 4} {explicit : Bool} {x : VerifyCtx}
    (h : p.verifyOf d explicit = some x) :
    ((p.unverified d explicit).dest d).Rests ((p.returnVerify d explicit).dest d) := by
  rw [Part.returnVerify_of_some h]
  refine DestLane.Rests.trans ?_ (Part.rests_copyTo _ _ _ _ d)
  exact iteInduction (motive := fun q : Part => ((p.unverified d explicit).dest d).Rests (q.dest d))
    (fun _ => DestLane.Rests.refl _) fun _ => DestLane.Rests.refl _

theorem Part.dest_unverified (p : Part) (d : Fin 4) (explicit : Bool) :
    ((p.unverified d explicit).dest d).explicit = (if explicit then none else (p.dest d).explicit) ∧
      ((p.unverified d explicit).dest d).sweep = (if explicit then (p.dest d).sweep else none) := by
  unfold Part.unverified Part.setVerify
  rw [Part.dest_modDest_self]
  cases explicit
  case true =>
    have h : ((p.setExplicit d none).dest d) = { p.dest d with explicit := none } := p.dest_modDest_self d _
    simp [h]
  case false =>
    have h : ((p.setSweep d none).dest d) = { p.dest d with sweep := none } := p.dest_modDest_self d _
    simp [h]

theorem Part.explicit_returnVerify (p : Part) (d : Fin 4) (x : VerifyCtx) :
    ((p.returnVerify d true).dest d).explicit ≠ some (.verify x) := by
  cases h : p.verifyOf d true
  case none =>
    rw [Part.returnVerify_of_none h]
    intro hx
    simp [Part.verifyOf, hx] at h
  case some y =>
    rw [(Part.rests_returned h).explicit ((p.dest_unverified d true).1)]
    exact (nomatch ·)

theorem Part.sweep_returnVerify (p : Part) (d : Fin 4) : ((p.returnVerify d false).dest d).sweep = none := by
  cases h : p.verifyOf d false
  case none =>
    rw [Part.returnVerify_of_none h]
    exact h
  case some y => exact (Part.rests_returned h).sweep (p.dest_unverified d false).2

theorem Part.explicit_returnSweep {p : Part} {d : Fin 4} (h : (p.dest d).explicit = none) :
    ((p.returnVerify d false).dest d).explicit = none := by
  cases hx : p.verifyOf d false
  case none =>
    rw [Part.returnVerify_of_none hx]
    exact h
  case some y => exact (Part.rests_returned hx).explicit ((p.dest_unverified d false).1.trans h)

theorem Part.explicit_dropExplicit (p : Part) (d : Fin 4) : ((p.dropExplicit d).dest d).explicit = none := by
  obtain ⟨hfewer, hrecopy⟩ := (p.returnVerify d true).fewer_dropRecopy d
  cases h : ((p.dropExplicit d).dest d).explicit
  case none => rfl
  case some e =>
    cases e
    case verify x => exact absurd (hfewer.explicit d _ h) (p.explicit_returnVerify d x)
    case recopy x => exact absurd h (hrecopy x)

/-! ### The bound volume's traffic cleared (R90) -/

theorem Part.dest_dropWrites (p : Part) (test : Slot → SlotWrite → Bool) (d : Fin 4) :
    (p.dropWrites test).dest d = p.dest d := rfl

theorem Part.clearTraffic_clears (p : Part) (d : Fin 4) (v : Nat) :
    (p.clearTraffic d v).Undirected v ∧ ((p.clearTraffic d v).dest d).explicit = none ∧
      ((p.clearTraffic d v).dest d).sweep = none := by
  unfold Part.clearTraffic
  extract_lets freed unwritten removed unplanned dropped returned
  have hexplicit : (returned.dest d).explicit = none :=
    Part.explicit_returnSweep (p := dropped) (unplanned.explicit_dropExplicit d)
  have hsweep : (returned.dest d).sweep = none := dropped.sweep_returnVerify d
  rw [Part.dest_dropWrites]
  exact ⟨returned.undirected_dropWrites_to v, hexplicit, hsweep⟩

theorem Part.clearBound_clears (p : Part) (d : Fin 4) (v : Nat) :
    (p.clearBound d v).Undirected v ∧ ((p.clearBound d v).dest d).explicit = none ∧
      ((p.clearBound d v).dest d).sweep = none := by
  obtain ⟨hpool, hexplicit, hsweep⟩ := p.clearTraffic_clears d v
  unfold Part.clearBound
  extract_lets readers lost read written
  have hlost : lost.Undirected v := hpool.loseRecopies _ _
  have hread : read.Undirected v :=
    iteInduction (motive := fun q : Part => q.Undirected v) (fun _ => hlost.of_pool (lost.pool_abortRender _ _)) fun _ => hlost
  have hwritten : written.Undirected v :=
    iteInduction (motive := fun q : Part => q.Undirected v) (fun _ => hread.of_pool (read.pool_abortRender _ _)) fun _ => hread
  have hrests : ((p.clearTraffic d v).dest d).Rests ((written.each readers Part.loseSource).dest d) :=
    ((((p.clearTraffic d v).lessens_loseRecopies _ _).dests d).rests.trans
      ((lost.rests_abortRender_if _ _ d).trans (read.rests_abortRender_if _ _ d))).trans
      ((Part.lessens_each readers _ Part.lessens_loseSource written).dests d).rests
  exact ⟨hwritten.of_pool (Part.pool_each readers _ Part.pool_loseSource written), hrests.explicit hexplicit,
    hrests.sweep hsweep⟩

end Sys2Proof.Machine

/-! Settles UnitsReset (R90, R194). -/

namespace Sys2Proof.Machine

/-! ### A destination lane reset -/

section
variable {p : Part} {d : Fin 4}

theorem Part.reidentify_of_bound (h : p.boundVolume d ≠ none) :
    p.reidentify d = p.modDest d fun r => { r with reidentify := true } := by
  obtain ⟨v, hv⟩ := Option.ne_none_iff_exists'.mp h
  unfold Part.reidentify
  rw [hv]

theorem Part.reidentify_of_present (h : p.boundVolume d = none) (hd : (p.dest d).state ≠ .empty ∨ (p.dest d).present = true) :
    p.reidentify d = (p.modDest d fun r => { r with state := .identifying }).sendVolume d .identify := by
  unfold Part.reidentify
  rw [h]
  exact if_pos hd

theorem Part.reidentify_of_empty (h : p.boundVolume d = none) (hs : (p.dest d).state = .empty)
    (hp : (p.dest d).present = false) : p.reidentify d = p := by
  unfold Part.reidentify
  rw [h]
  refine if_neg ?_
  rintro (hne | ht)
  · exact hne hs
  · exact Bool.false_ne_true (hp.symm.trans ht)

/-- The lane with a request outstanding. -/
def DestLane.asking (r : DestLane) (q : VolumeRequest) : DestLane :=
  { r with out := some { tag := r.nextTag, request := q, timer := stallTime r.stallCount r.stallExp },
           nextTag := r.nextTag + 1 }

theorem Part.dest_sendVolume (p : Part) (d : Fin 4) (q : VolumeRequest) :
    (p.sendVolume d q).dest d = (p.dest d).asking q :=
  p.dest_modDest_self d fun r => { r with out := ((p.dest d).asking q).out, nextTag := r.nextTag + 1 }

theorem Part.dest_reset_of_bound (h : p.boundVolume d ≠ none) :
    ((p.modDest d DestLane.cleared).reidentify d).dest d = { (p.dest d).cleared with reidentify := true } := by
  rw [Part.reidentify_of_bound (p := p.modDest d DestLane.cleared) h, Part.dest_modDest_self, Part.dest_modDest_self]

theorem Part.dest_reset_of_empty (h : p.boundVolume d = none) (hs : (p.dest d).state = .empty)
    (hp : (p.dest d).present = false) :
    ((p.modDest d DestLane.cleared).reidentify d).dest d = (p.dest d).cleared := by
  have hd := p.dest_modDest_self d DestLane.cleared
  rw [Part.reidentify_of_empty (p := p.modDest d DestLane.cleared) h (by rw [hd]; exact hs) (by rw [hd]; exact hp), hd]

theorem Part.dest_reset_of_present (h : p.boundVolume d = none)
    (hd : (p.dest d).state ≠ .empty ∨ (p.dest d).present = true) :
    ((p.modDest d DestLane.cleared).reidentify d).dest d =
      ({ (p.dest d).cleared with state := .identifying } : DestLane).asking .identify := by
  have hself := p.dest_modDest_self d DestLane.cleared
  rw [Part.reidentify_of_present (p := p.modDest d DestLane.cleared) h (by rw [hself]; exact hd), Part.dest_sendVolume,
    Part.dest_modDest_self, hself]

theorem Part.occupied_or_empty (p : Part) (d : Fin 4) :
    ((p.dest d).state = .empty ∧ (p.dest d).present = false) ∨
      ((p.dest d).state ≠ .empty ∨ (p.dest d).present = true) := by
  by_cases hs : (p.dest d).state = .empty
  · cases hp : (p.dest d).present
    case false => exact Or.inl ⟨hs, rfl⟩
    case true => exact Or.inr (Or.inr rfl)
  · exact Or.inr (Or.inl hs)

/-- A lane but for its link, its state and its mark of an identification to come. -/
def DestLane.rested (r : DestLane) : DestLane := { r with state := .empty, out := none, nextTag := 0, reidentify := false }

theorem Part.rested_reset (p : Part) (d : Fin 4) :
    (((p.modDest d DestLane.cleared).reidentify d).dest d).rested = (p.dest d).cleared.rested := by
  by_cases hb : p.boundVolume d = none
  · rcases p.occupied_or_empty d with ⟨hs, hp⟩ | hd
    · rw [Part.dest_reset_of_empty hb hs hp]
    · rw [Part.dest_reset_of_present hb hd]
      rfl
  · rw [Part.dest_reset_of_bound hb]
    rfl

theorem Part.reidentify_reset (hb : p.boundVolume d = none) :
    (((p.modDest d DestLane.cleared).reidentify d).dest d).reidentify = false := by
  rcases p.occupied_or_empty d with ⟨hs, hp⟩ | hd
  · rw [Part.dest_reset_of_empty hb hs hp]
    rfl
  · rw [Part.dest_reset_of_present hb hd]
    rfl

end

/-! ### A channel reset -/

theorem Part.attention_withdrawRead (p : Part) (c : Fin 2) : (p.withdrawRead c).attention = p.attention := by
  rw [p.withdrawRead_eq]
  rfl

theorem Part.unbindChannel_leaves (p : Part) (c : Fin 2) :
    ((p.unbindChannel c).channel c).state = .idle ∧
      ((p.unbindChannel c).channel c).clip = (if (p.channel c).state = .idle then (p.channel c).clip else none) ∧
      (p.unbindChannel c).attention = p.attention := by
  have hrefs (q : Part) (kind : RefKind) (look : Option Nat) : (q.refRelease kind look).attention = q.attention := by
    cases look <;> rfl
  by_cases h : (p.channel c).state = .idle
  · rw [Part.unbindChannel, if_pos h, if_pos h]
    exact ⟨h, rfl, rfl⟩
  · rw [Part.unbindChannel, if_neg h, if_neg h, Part.channel_modChannel_self]
    exact ⟨rfl, rfl, (hrefs _ _ _).trans (p.attention_withdrawRead c)⟩

/-! ### The render engine reset -/

theorem Part.render_queueRender (p : Part) (v : Nat) (i : RenderItem) : (p.queueRender v i).render = p.render := by
  unfold Part.queueRender
  split <;> rfl

theorem Part.render_renderRead (p : Part) : p.renderRead.render = p.render := by
  unfold Part.renderRead
  split
  next =>
    split
    next => exact p.render_queueRender _ _
    next => rfl
  next => rfl

theorem Part.render_clearTarget (p : Part) (e : RenderEntry) (c : Clip) : (p.clearTarget e c).render = p.render := by
  unfold Part.clearTarget
  split
  next => exact (Part.claimRelease_clips _ _ _).2.2.1
  next => rfl

theorem Part.render_pinUsed (p : Part) (used : Option (Nat × Nat)) : (p.pinUsed used).render = p.render := by
  unfold Part.pinUsed
  split <;> rfl

/-- The engine but for its context. -/
def RenderEngine.waiting (r : RenderEngine) : RenderEngine := { r with active := none }

theorem Part.waiting_startRender (p : Part) (e : RenderEntry) :
    (p.startRender e).render.waiting = p.render.waiting := by
  cases hv : p.volumeWith e.clip .verified none
  case none => simp only [Part.startRender, hv]
  case some v =>
    cases hc : p.clip e.clip
    case none => simp only [Part.startRender, hv, hc]
    case some c =>
      rw [p.startRender_eq hv hc, Part.render_renderRead]
      have hsame : ((p.pinUsed (p.usedBy e c)).clearTarget e c).render = p.render :=
        (Part.render_clearTarget _ e c).trans (p.render_pinUsed _)
      exact (congrArg RenderEngine.waiting hsame :)

theorem Part.examine_of_idle {p : Part} (ha : p.render.active = none) (ht : p.render.term.unsensed = false) :
    p.examine = match p.render.queue.find? p.eligible with
      | some e => p.startRender e
      | none => p :=
  if_pos ⟨by rw [ha]; rfl, ht⟩

theorem Part.waiting_examine (p : Part) : p.examine.render.waiting = p.render.waiting := by
  unfold Part.examine
  split
  next =>
    split
    next e _ => exact p.waiting_startRender e
    next => rfl
  next => rfl

theorem Part.render_removeEntry (p : Part) (tag : Nat) :
    (p.removeEntry tag).render = { p.render with queue := p.render.queue.filter fun e => e.tag != tag } := by
  unfold Part.removeEntry Part.refRelease
  dsimp only
  split <;> rfl

theorem Part.render_unclaimRender (p : Part) (x : RenderCtx) : (p.unclaimRender x).render = p.render := by
  unfold Part.unclaimRender
  split
  next =>
    split
    next => exact (Part.claimRelease_clips _ _ _).2.2.1
    next => rfl
  next => rfl

theorem Part.render_unpin (p : Part) (used : Option (Nat × Nat)) : (p.unpin used).render = p.render := by
  unfold Part.unpin
  split <;> rfl

theorem Part.dropRender_of_idle {p : Part} (h : p.render.active = none) : p.dropRender = p := by
  simp only [Part.dropRender, h]

theorem Part.render_dropRender {p : Part} {x : RenderCtx} (h : p.render.active = some x) :
    p.dropRender.render = { p.render with queue := p.render.queue.filter fun e => e.tag != x.tag, active := none } := by
  have hsame : ((p.withdrawRender.unclaimRender x).unpin x.used).render = p.render := by
    rw [Part.render_unpin, Part.render_unclaimRender, p.withdrawRender_eq]
  have hentry := Part.render_removeEntry ((p.withdrawRender.unclaimRender x).unpin x.used) x.tag
  rw [hsame] at hentry
  rw [Part.dropRender_of_render h]
  exact congrArg (fun r : RenderEngine => { r with active := none }) hentry

theorem Part.dropRender_idle (p : Part) :
    p.dropRender.render.active = none ∧ p.dropRender.render.nextTag = p.render.nextTag := by
  cases h : p.render.active
  case none =>
    rw [Part.dropRender_of_idle h]
    exact ⟨h, rfl⟩
  case some x =>
    rw [Part.render_dropRender h]
    exact ⟨rfl, rfl⟩

/-! ### The obligation -/

/-- Settles O40: each reset is its report with a chain of endings; the endings add nothing to the part, so what the first
steps clear stays clear (`Part.ReaderReset`, `Part.clearBound_clears`). -/
theorem unitsReset : Obligations.UnitsReset := by
  unfold Obligations.UnitsReset
  refine ⟨?reply, fun p => ⟨fun l => ?lane, fun c => ?channel⟩, ?offload, ?bound, ?dest, ?render⟩
  case reply =>
    intro s d n h
    refine ⟨fun hn => ?_, fun l hl => ?_, fun l hl => ?_, fun hn => ?_, fun c hc => ?_⟩
    · refine declines_of_refuse h rfl ?_ rfl
      rw [Part.resetUnit, unitOf_eq_none hn]
    · subst hl
      refine taken_of_reply h rfl ?_ rfl
      rw [Part.resetUnit, unitOf_dest]
      rfl
    · subst hl
      refine taken_of_reply h rfl ?_ rfl
      rw [Part.resetUnit, unitOf_reader]
      rfl
    · subst hn
      exact taken_of_reply h rfl rfl rfl
    · subst hc
      refine taken_of_reply h rfl ?_ rfl
      rw [Part.resetUnit, unitOf_channel]
      rfl
  case lane =>
    obtain ⟨hterm, hchanged, hout, hserves, _⟩ :=
      ((((p.unread l).resetOffload l).dropErase l .bound).reader l).course_cleared_restarted
    rw [Part.reader_resetReader]
    exact ⟨hterm, hchanged, hout, hserves⟩
  case channel =>
    obtain ⟨hstate, hclip, hattention⟩ := p.unbindChannel_leaves c
    unfold Part.resetChannel
    rw [Part.channel_modChannel_self]
    exact ⟨rfl, hstate, hclip, hattention⟩
  case offload =>
    intro p l
    obtain ⟨offload, analyzer, trips, queue, slots, unwritten, card⟩ := p.readerReset l
    exact ⟨offload, analyzer, trips, queue, slots, unwritten, card⟩
  case bound =>
    intro p d v
    exact p.clearBound_clears d v
  case dest =>
    intro p d q b r
    have hr : r = ((q.modDest d DestLane.cleared).reidentify d).dest d := rfl
    have hrest : r.rested = b.cleared.rested := q.rested_reset d
    refine ⟨(congrArg DestLane.term hrest :), (congrArg DestLane.changed hrest :),
      (congrArg DestLane.identifyPending hrest :), (congrArg DestLane.ejectOwed hrest :),
      (congrArg DestLane.previews hrest :), (congrArg DestLane.recopies hrest :), (congrArg DestLane.verifies hrest :),
      (congrArg DestLane.renders hrest :), (congrArg DestLane.progress hrest :), (congrArg DestLane.guard hrest :),
      (congrArg DestLane.robin hrest :), (congrArg DestLane.release hrest :), (congrArg DestLane.stallCount hrest :),
      (congrArg DestLane.stallExp hrest :), (congrArg DestLane.present hrest :), fun hb => ?bound, fun hb => ?unbound⟩
    case bound =>
      rw [hr.trans (Part.dest_reset_of_bound hb)]
      exact ⟨rfl, rfl, rfl, rfl⟩
    case unbound =>
      refine ⟨?_, fun hs hp => ?_, fun hd => ?_⟩
      · exact Part.reidentify_reset (p := q) hb
      · rw [hr.trans (Part.dest_reset_of_empty hb hs hp)]
        exact ⟨hs, rfl, rfl⟩
      · rw [hr.trans (Part.dest_reset_of_present hb hd)]
        exact ⟨rfl, rfl, rfl⟩
  case render =>
    intro p q
    obtain ⟨hactive, htag⟩ := p.dropRender_idle
    have hwaiting : p.resetRender.render.waiting = q.render.waiting := q.waiting_examine
    have hexamine := Part.examine_of_idle (p := q) hactive rfl
    refine ⟨fun h => ?_, fun x h => ?_, hactive, htag, (congrArg RenderEngine.queue hwaiting :),
      (congrArg RenderEngine.nextTag hwaiting :).trans htag, (congrArg RenderEngine.term hwaiting :), fun hf => ?_,
      fun e hf => ?_⟩
    · have hqueue : p.dropRender.render.queue = p.render.queue := by rw [Part.dropRender_of_idle h]
      exact hqueue
    · exact congrArg RenderEngine.queue (Part.render_dropRender h)
    · exact hexamine.trans (by rw [hf])
    · exact hexamine.trans (by rw [hf])

end Sys2Proof.Machine
